-- ==== Sys2Proof/Word.lean ====
section
/-! DEFINITION. The words the part moves as bits: characters and settings bytes, analog codes and the samples of a roll-call window. -/

namespace Sys2Proof

/-- A character of a notice (without its start and stop bit) or a byte of the settings block. -/
abbrev Byte := BitVec 8

/-- A code of one analog channel, 0..4095 (R2). -/
abbrev AnalogCode := BitVec 12

/-- The 48 samples of a roll-call window; position i is bit i, true for dominant (R57). -/
abbrev WindowSamples := BitVec 48

/-- The positions of the situation key, of an entry's value and of its mask (section 9.2). -/
abbrev KeyBits := BitVec 46

end Sys2Proof
end

