-- ==== Sys2Proof/Syntax.lean ====
section
/-! DEFINITION. The commands: one constructor for each row of spec/opcode_table.json, with what the outside brings. -/

namespace Sys2Proof

/-- The 17 contact inputs in the order of the table of section 2.2. -/
inductive ContactInput where
  | ovf
  | hifl
  | lofl
  | door
  | fst (k : Fin 4)
  | maint
  | tariff
  | ackin
  | inOpenFb
  | inClosedFb
  | hfb (k : Fin 4)
  deriving DecidableEq, Repr

/-- The two shared resources (R76). -/
inductive Resource where
  | supply
  | load
  deriving DecidableEq, Repr

/-- The test of R42 that a received notice fails. -/
inductive DiscardCause where
  | framing
  | gap
  | bodyTooLong
  | check
  | undefinedKind
  | badSender
  | wrongLength
  | badField
  deriving DecidableEq, Repr

/-- One command: one row of the table of operations and events, each whole and indivisible. -/
inductive Instr where
  | powerOnReset
  | externalReset
  /-- The 1024 bytes the read attempt clocked in (R191). -/
  | loadAttemptDone (block : List Byte)
  | retryWaitExpiry
  /-- The codes of the pressure, water, riser and air channels sampled on this second (R2). -/
  | secondEvent (p tw tr ta : AnalogCode)
  | minuteMark
  /-- The input whose pin changes, and whether its contact is closed from now on (R19). -/
  | rawInputChange (input : ContactInput) (closed : Bool)
  | inputSettled (input : ContactInput)
  /-- The stage, 0..3 for HEAT1..HEAT4 (R35). -/
  | proofTimerExpiry (stage : Fin 4)
  | quietReached
  /-- The number of the slot that begins (R46). -/
  | winTime (slot : Nat)
  /-- The bit of the notice, counted from its first start bit, that reads back wrong (R49). -/
  | echoConflict (bit : Nat)
  | driverFailure (bit : Nat)
  | noticeSent
  /-- All characters of the notice, check characters included (R40). -/
  | noticeHeard (chars : List Byte)
  | noticeDiscarded (cause : DiscardCause)
  | dupTimerExpiry
  | lineFaultEntry
  | lineFaultExit
  | answerWaitEnd
  | windowEnd (samples : WindowSamples)
  | peerLost (station : Nat)
  | tariffNightTimeout
  | peerSettleExpiry (station : Nat) (resource : Resource)
  | entryAgedOut (station : Nat) (resource : Resource)
  | ownSettleExpiry (resource : Resource)
  | refreshLead (resource : Resource)
  | refreshTime (resource : Resource)
  | incompleteTimerExpiry (resource : Resource)
  | listeningTimerExpiry
  | answerTimerExpiry
  | openTimerExpiry
  | clearingTimerExpiry
  | strokeTimerExpiry
  | confirmTimerExpiry
  | stagnationPeriodEnd
  | reportTimerDue
  | startBitFromAnotherStation
  | resetPinReturnsHigh
  deriving DecidableEq, Repr

end Sys2Proof
end

