-- ==== Sys2Proof/Decode.lean ====
section
/-! DEFINITION. The command that a word spells by the table's bits. No row of spec/opcode_table.json gives bits, so no word spells one (log 33). -/

namespace Sys2Proof

/-- A row of the table that gives bits: its width, mask, pattern and command. -/
structure TableRow where
  nbits : Nat
  mask : Nat
  pattern : Nat
  command : Instr

/-- The rows that give bits: spec/98_reader.md counts none ("n_rows_with_fixed": 0). -/
def bitRows : List TableRow := []

/-- The row's command, where a row of that width matches the word. -/
def decodeTableWord (nbits w : Nat) : Option Instr :=
  (bitRows.find? (fun r => r.nbits == nbits && (w &&& r.mask) == r.pattern)).map TableRow.command

end Sys2Proof
end

