-- ==== Sys2Proof/Config.lean ====
section
/-! DEFINITION. What the manual leaves open as a value: constants without a body, so that no proof can rest on one. -/

namespace Sys2Proof

/-- The bits that fill the places of a notice body to which section 11.5 gives no use, and the code a
refresh CLAIM carries (any value but 0), for the n-th body the station fills. DESIGN CHOICE, log 12. -/
opaque Config.spareBits : Nat → BitVec 32

/-- Whether a REPORT heard whose STOP field holds one of the codes 5..7, which section 11.5 leaves
without a meaning, is taken as a demand that is on. DESIGN CHOICE, log 13. -/
opaque Config.undefinedStopCode : Nat → Bool

/-- Hand-ons taken within one event before the rest waits for the next event (log 6). -/
def Config.handOnBound : Nat := 4096

/-- Guard states passed through within one examination (log 19). -/
def Config.guardPassBound : Nat := 3

end Sys2Proof
end

