-- ==== Sys2Proof/Machine/State.lean ====
section
/-! DEFINITION. Every piece of state the manual gives the TS240, block by block, as plain data, and its value after a power-on reset. -/

namespace Sys2Proof.Machine

/-! ### Outcomes other than a next state -/

/-- No event of the part stops it: the manual's faults are entries of the fault set, which is state. -/
inductive Fault where
  deriving DecidableEq, Repr

/-- Why a command is refused. -/
inductive Refusal where
  /-- Raised by an arm of exec whose command has no meaning yet: none has. Safe. -/
  | notModelled (mnemonic : String)
  /-- Raised by LOAD_ATTEMPT_DONE on an operand that is not 1024 bytes, which no read brings (R191, log 29). Safe. -/
  | notASettingsBlock
  deriving DecidableEq, Repr

/-! ### Names the blocks share -/

/-- The four station modes (R193). -/
inductive StationMode where
  | loading
  | unconfigured
  | joining
  | joined
  deriving DecidableEq, Repr

/-- The settings loader's load state (R191). -/
inductive LoadState where
  | reading
  | retryWait
  | checking
  | done
  | failed
  deriving DecidableEq, Repr

/-- The level state NONE, FRESH, STALE (R7). -/
inductive LevelState where
  | unread
  | fresh
  | stale
  deriving DecidableEq, Repr

/-- The state NONE, GOOD, HELD of a temperature channel (R14). -/
inductive ChannelState where
  | unread
  | good
  | held
  deriving DecidableEq, Repr

/-- The six alarm latches (section 2.3). -/
inductive Latch where
  | ovf
  | hifl
  | lofl
  | door
  | frostgrp
  | tripgrp
  deriving DecidableEq, Repr

/-- The inlet position decoded from the two limit contacts (R33). -/
inductive Position where
  | travel
  | opened
  | closed
  | invalid
  deriving DecidableEq, Repr

/-- The states of a heater stage's channel (R35). -/
inductive StageState where
  | off
  | proving
  | on
  | dropping
  | failed
  deriving DecidableEq, Repr

/-- The thirteen fault codes in the order of the table of section 10.3. -/
inductive FaultCode where
  | lvlSensor
  | tempW
  | tempR
  | tempA
  | floatDisagree
  | inletPosInvalid
  | inletNoOpen
  | stageFail
  | lineIsolated
  | dupStation
  | inletStuck
  | inletLeak
  | stopUnconfirmed
  deriving DecidableEq, Repr

/-- The alarm codes of section 11.5. -/
inductive AlarmCode where
  | latch (l : Latch)
  | spill
  | inletStuck
  | inletLeak
  | stopUnconfirmed
  deriving DecidableEq, Repr

/-- The line state of R45. -/
inductive LineState where
  | gap
  | quiet
  | receiving
  | sending
  | skip
  | answerWait
  | window
  | lineFault
  deriving DecidableEq, Repr

/-- The role of a sender (R40). -/
inductive Role where
  | tower
  | supply
  | gateway
  deriving DecidableEq, Repr

/-- The four roll-call questions (section 3.6); ALARM carries its urgency u. -/
inductive Question where
  | hold (r : Resource)
  | alarm (u : Nat)
  | stopping
  deriving DecidableEq, Repr

/-- A notice as its owner queues it: the kind, with its flag, code or question (R52). -/
inductive Outgoing where
  | report
  | claim (r : Resource) (refresh : Bool)
  | release (r : Resource)
  | alarm (c : AlarmCode)
  | stop
  | tariff
  | rollcall (q : Question)
  | trip
  deriving DecidableEq, Repr

/-- The replacement keys of R52. -/
inductive QueueKey where
  | report
  | side (r : Resource)
  | alarm (c : AlarmCode)
  | stop
  | tariff
  | rollcall
  | trip
  deriving DecidableEq, Repr

/-- The cause of a STOP demand; UNKNOWN only in a peer's record (section 4, R135). -/
inductive StopCause where
  | stuck
  | leak
  | spill
  | safe
  | unknown
  deriving DecidableEq, Repr

/-- The guard states (section 7.3). -/
inductive GuardState where
  | watch
  | cut
  | shut
  | leak
  | stuck
  | spill
  deriving DecidableEq, Repr

/-- The hold record (section 7, R129, R130). -/
inductive HoldRecord where
  | none
  | stuck
  | leak
  deriving DecidableEq, Repr

/-- The confirmation state (R138). -/
inductive ConfirmState where
  | idle
  | pending
  | waiting
  | confirmed
  | unconfirmed
  deriving DecidableEq, Repr

/-- The states of an own claim (section 5.3). -/
inductive OwnState where
  | none
  | waiting
  | announcing
  | settling
  | held
  deriving DecidableEq, Repr

/-- The phases of a raise (R91). -/
inductive RaisePhase where
  | waiting
  | announcing
  | settling
  deriving DecidableEq, Repr

/-- The reasons for which a supply claim is asked (section 6). -/
inductive ClaimReason where
  | tariff
  | turnover
  deriving DecidableEq, Repr

/-- The reasons for which the inlet is wanted open (section 6). -/
inductive FillReason where
  | tariff
  | turnover
  | relief
  deriving DecidableEq, Repr

/-- The fill state with its reason (R107). -/
inductive FillState where
  | rest
  | wait
  | claim (why : ClaimReason)
  | fill (why : FillReason)
  | blocked
  deriving DecidableEq, Repr

/-- The frost states (R148). -/
inductive FrostState where
  | off
  | watch
  | heat
  | critical
  deriving DecidableEq, Repr

/-- The state of a peer record (R61). -/
inductive PeerState where
  | never
  | heard
  | lost
  deriving DecidableEq, Repr

/-- The fields of the situation key as their owners hand them (section 9.2); the slack bands come with the slack itself. -/
inductive KeyField where
  | measurement
  | night
  | guard
  | frost
  | latches
  | maint
  | peerSpill
  | supplyAbsent
  | starved
  | joined
  deriving DecidableEq, Repr

/-! ### Settings (sections 11.2 and 11.4) -/

/-- One calibration of a temperature channel (section 1.1). -/
structure Calibration where
  c0 : Int
  c1 : Int
  t0 : Int
  t1 : Int
  deriving DecidableEq, Repr

/-- The codes of the default orders as the block holds them (bytes 218..223). -/
structure OrderCodes where
  target : Nat
  heatCap : Nat
  turnover : Nat
  relief : Nat
  interval : Nat
  alarm : Nat
  deriving DecidableEq, Repr

/-- An entry of the situation table: valid flag, value, mask, and the codes of its action (section 11.4). -/
structure TableEntry where
  valid : Bool
  value : KeyBits
  mask : KeyBits
  target : Nat
  heatCap : Nat
  turnover : Nat
  relief : Nat
  interval : Nat
  alarmOn : Bool
  link : Nat
  deriving DecidableEq, Repr

/-- The settings image (section 11.4), fields in the order of the block. -/
structure Settings where
  station : Nat
  lineRate : Nat
  tariffSource : Bool
  remoteAck : Bool
  edgeLevel : Vector Bool 6
  normallyClosed : Vector Bool 17
  debounce : Vector Nat 17
  z : Int
  f : Int
  hFs : Int
  dOff : Int
  lMax : Int
  strapCount : Nat
  strap : List (Int × Int)
  calW : Calibration
  calR : Calibration
  calA : Calibration
  hHi : Int
  hHys : Int
  hOvf : Int
  strokeTime : Nat
  leakThreshold : Int
  confirmTime : Nat
  floatHeight : Int
  floatTolerance : Int
  floatAllowance : Nat
  targets : Vector Int 4
  draw : Int
  qNom : Int
  qMin : Int
  qMax : Int
  tDefer : Int
  reliefMargin : Int
  turnoverAmount : Int
  window : Nat
  peerTimeout : Nat
  budget : Nat
  tSettle : Nat
  tRefresh : Nat
  allowance : Nat
  ratings : Vector Nat 4
  theta : Vector Int 4
  hysteresis : Int
  tAirOn : Int
  tCrit : Int
  tTurn : Int
  stagThreshold : Int
  stagHours : Nat
  proofTime : Nat
  intervals : Vector Nat 4
  defaults : OrderCodes
  lambda : Vector Int 8
  tauW : Vector Int 4
  tauR : Vector Int 4
  tauA : Vector Int 4
  sigma : Vector Int 4
  entries : List TableEntry
  deriving DecidableEq, Repr

/-! ### The blocks -/

/-- Settings loader (section 11). -/
structure Loader where
  mode : StationMode
  load : LoadState
  attempt : Nat
  clamped : Nat
  settings : Settings
  deriving DecidableEq, Repr

/-- A temperature channel (R13, R14). -/
structure TempChannel where
  value : Int
  state : ChannelState
  deriving DecidableEq, Repr

/-- Measurement unit (section 1). -/
structure Measure where
  secondCount : Nat
  sixty : Nat
  running : Bool
  /-- The model's own: a minute mark is due and not yet taken (log 5). -/
  minuteDue : Bool
  ring : Vector Int 8
  oldest : Fin 8
  lf : Int
  level : LevelState
  volume : Int
  lm : Int
  vm : Int
  rate : Int
  dv : Int
  stale : Bool
  primed : Bool
  tw : TempChannel
  tr : TempChannel
  ta : TempChannel
  deriving DecidableEq, Repr

/-- Input latch unit (section 2). A running debounce timer holds the steps of 50 ms it runs for. -/
structure Inputs where
  raw : Vector Bool 17
  debounced : Vector Bool 17
  timer : Vector (Option Nat) 17
  latch : Vector Bool 6
  ackTaken : Vector Bool 6
  frostQuiet : Bool
  tripQuiet : Bool
  deriving DecidableEq, Repr

/-- A heater stage's channel (R35). A running proof timer holds the seconds it runs for. -/
structure Stage where
  command : Bool
  state : StageState
  timer : Option Nat
  deriving DecidableEq, Repr

/-- Output driver unit (section 2). -/
structure Outputs where
  inletOpen : Bool
  position : Position
  stages : Vector Stage 4
  alarm : Bool
  deriving DecidableEq, Repr

/-- An entry of the outgoing queue (R52, R53). -/
structure QueueEntry where
  item : Outgoing
  urgency : Nat
  age : Nat
  sending : Bool
  renewed : Option Outgoing
  /-- The model's own: the initial CLAIM this entry holds has been sent in full (R54). -/
  everSent : Bool
  deriving DecidableEq, Repr

/-- The notice on the line as filled at win-time (R48). -/
structure OnLine where
  item : Outgoing
  urgency : Nat
  body : List Byte
  deriving DecidableEq, Repr

/-- The receive parser (R42): the whole characters read, and the levels of the character under way that a lost echo leaves read,
from its start bit on, `true` for dominant (R49); elsewhere the bits of the line are not followed one by one (log 32). -/
structure Parser where
  chars : List Byte
  bits : List Bool
  expected : Option Nat
  gapBits : Nat
  deriving DecidableEq, Repr

/-- The roll-call context (R56, R57). -/
structure RollCall where
  question : Question
  mine : Bool
  answer : Bool
  samples : WindowSamples
  deriving DecidableEq, Repr

/-- Line unit (section 3). -/
structure Line where
  state : LineState
  parser : Parser
  recessive : Nat
  slot : Nat
  heldOff : Bool
  dominantRun : Nat
  queue : List QueueEntry
  nextAge : Nat
  onLine : Option OnLine
  rollCall : Option RollCall
  dupTimer : Option Nat
  errors : Nat
  deriving DecidableEq, Repr

/-- A peer's last REPORT (R64). -/
structure LastReport where
  level : Nat
  guardCode : Nat
  stop : Bool
  deriving DecidableEq, Repr

/-- A peer's last SUPPLY (R67). -/
structure LastSupply where
  slots : Nat
  pumps : Nat
  honoured : List Nat
  deriving DecidableEq, Repr

/-- A peer record (section 4). -/
structure Peer where
  state : PeerState
  role : Option Role
  silence : Nat
  report : Option LastReport
  spill : Bool
  stop : Bool
  cause : StopCause
  alarm : Bool
  supply : Option LastSupply
  deriving DecidableEq, Repr

/-- Peer table (section 4); record i is that of station i + 1. -/
structure Peers where
  records : Vector Peer 24
  capacity : Nat
  anySpill : Bool
  supplyAbsent : Bool
  alone : Bool
  deriving DecidableEq, Repr

/-- The state of a claim-table entry with the fields that state has (section 5.2). -/
inductive Share where
  | held (amount : Nat)
  | settling (pending : Nat) (held : Option Nat) (timer : Nat) (late : Bool)
  deriving DecidableEq, Repr

/-- An entry of the claim table; its station and resource are its place in the table (R77). -/
structure Holding where
  share : Share
  urgency : Nat
  age : Nat
  deriving DecidableEq, Repr

/-- The raise part of an own claim (R91). -/
structure Raise where
  pending : Nat
  phase : RaisePhase
  deriving DecidableEq, Repr

/-- An own-claim record (section 5.3). -/
structure OwnClaim where
  state : OwnState
  amount : Nat
  urgency : Nat
  held : Nat
  raise : Option Raise
  settle : Option Nat
  refresh : Option Nat
  leadDone : Bool
  missed : Nat
  /-- The model's own: R93's refresh that waits for the raise to end. -/
  refreshOwed : Bool
  deriving DecidableEq, Repr

/-- Claim unit (section 5). -/
structure Claims where
  supplyTable : Vector (Option Holding) 24
  loadTable : Vector (Option Holding) 24
  ownSupply : OwnClaim
  ownLoad : OwnClaim
  incompleteSupply : Option Nat
  incompleteLoad : Option Nat
  questions : List Question
  inFlight : Option Question
  answeredSupply : Bool
  answeredLoad : Bool
  listening : Option Nat
  answer : Option Nat
  deriving DecidableEq, Repr

/-- The block causes of R116. -/
structure BlockCauses where
  guard : Bool
  maint : Bool
  level : Bool
  safeHold : Bool
  inlet : Bool
  notJoined : Bool
  deriving DecidableEq, Repr

/-- The plan record (R103 to R106). -/
structure Plan where
  vCeil : Int
  vTgt : Int
  need : Bool
  n : Int
  qNet : Int
  cannotFill : Bool
  tReq : Option Int
  slack : Int
  urgency : Nat
  deriving DecidableEq, Repr

/-- Fill controller with the tariff period (sections 4.9 and 6). -/
structure Fill where
  night : Bool
  elapsed : Nat
  silence : Nat
  /-- The model's own: the night timed out at the mark just taken (log 5). -/
  nightTimeoutDue : Bool
  state : FillState
  causes : BlockCauses
  plan : Plan
  qEst : Option Int
  learning : Bool
  openRequest : Bool
  openTimer : Option Nat
  clearing : Option Nat
  turnoverStart : Option Int
  shortfall : Int
  unproductive : Bool
  deriving DecidableEq, Repr

/-- A STOP demand that is on (R135). -/
structure StopDemand where
  cause : StopCause
  urgency : Nat
  escalated : Bool
  deriving DecidableEq, Repr

/-- Overflow guard (section 7). Its inlet command is held by the output driver unit and its open request by the fill controller. -/
structure Guard where
  state : GuardState
  hold : HoldRecord
  stroke : Option Nat
  baseline : Option Int
  stop : Option StopDemand
  stopOwed : Bool
  spillOwed : Bool
  confirm : ConfirmState
  confirmTimer : Option Nat
  floatCount : Nat
  deriving DecidableEq, Repr

/-- Frost controller (section 8). Its stage commands are held by the output driver unit. -/
structure Frost where
  airWatch : Bool
  critical : Bool
  state : FrostState
  wishes : Vector Bool 4
  target : Nat
  selected : Vector Bool 4
  required : Nat
  asked : Option (Nat × Nat)
  failed : Vector Bool 4
  starved : Bool
  stagLow : Option Int
  stagHigh : Option Int
  stagMinutes : Nat
  turnoverRequest : Bool
  deriving DecidableEq, Repr

/-- The orders record (section 9). -/
structure Orders where
  target : Nat
  heatCap : Nat
  turnover : Bool
  relief : Bool
  interval : Nat
  alarm : Bool
  deriving DecidableEq, Repr

/-- Situation table unit (section 9). -/
structure Situation where
  key : KeyBits
  orders : Option Orders
  changeCount : Nat
  pendingFlag : Bool
  deriving DecidableEq, Repr

/-- Report unit (section 10.1). -/
structure Reports where
  age : Nat
  changeSeen : Bool
  due : Nat
  sent : Nat
  skipped : Nat
  skippedField : Nat
  queued : Bool
  /-- The model's own: the report timer ran out and its due event is not yet made (log 5). -/
  timerDue : Bool
  deriving DecidableEq, Repr

/-- The trip snapshot (R188). -/
structure Snapshot where
  lf : Int
  level : LevelState
  volume : Int
  guard : GuardState
  faults : Vector Bool 13
  stageMask : Vector Bool 4
  supplyClaim : OwnState
  loadClaim : OwnState
  capacity : Nat
  elapsed : Nat
  notes : Nat
  deriving DecidableEq, Repr

/-- Fault unit (section 10.3); the valid flag of the snapshot is set while a snapshot is held. -/
structure Faults where
  inSet : Vector Bool 13
  acked : Vector Bool 13
  stageMask : Vector Bool 4
  condition : Vector Bool 13
  total : Nat
  notes : Nat
  safeHold : Bool
  snapshot : Option Snapshot
  deriving DecidableEq, Repr

/-- What one block hands on to another within an event (section 2.1 of 00), taken first in first out (log 6). -/
inductive HandOn where
  /-- The claim unit tells the fill controller that the supply claim is lost (R83). -/
  | fillLost
  /-- The claim unit tells the fill controller that the supply claim is held (R89). -/
  | fillGranted
  /-- The frost controller is to evaluate (R150). -/
  | frostEvaluate
  /-- The claim unit re-examines its claim of a resource (R85, R88). -/
  | reexamine (r : Resource)
  /-- The queue dropped a ROLLCALL: the questions go on (R55, R101). -/
  | questionDropped (q : Question)
  /-- An owner hands a field of the situation key, with its value at that moment (R164). -/
  | situation (f : KeyField) (value : Nat)
  /-- The fill controller hands the slack of a plan (R106). -/
  | slack (value : Int)
  /-- The situation table unit hands an orders change (R171). -/
  | orders
  deriving DecidableEq, Repr

/-- The whole part, its contact pins, and the commands waiting to be taken. -/
structure State where
  pending : List Instr
  pins : Vector Bool 17
  resetLow : Bool
  bodiesFilled : Nat
  handOns : List HandOn
  sld : Loader
  msu : Measure
  ilu : Inputs
  odu : Outputs
  lnu : Line
  ptb : Peers
  clu : Claims
  flc : Fill
  ogu : Guard
  frc : Frost
  stu : Situation
  rpu : Reports
  ftu : Faults
  deriving DecidableEq, Repr

/-! ### Values after a power-on reset -/

/-- A calibration of zero bytes (log 8). -/
def zeroCalibration : Calibration := { c0 := 0, c1 := 0, t0 := 0, t1 := 0 }

/-- The settings image before the first load: DESIGN CHOICE, every field as zero bytes give it (log 8). -/
def blankSettings : Settings :=
  { station := 0, lineRate := 0, tariffSource := false, remoteAck := false
    edgeLevel := Vector.replicate 6 false
    normallyClosed := Vector.replicate 17 false
    debounce := Vector.replicate 17 0
    z := 0, f := 0, hFs := 0, dOff := 0, lMax := 0
    strapCount := 0, strap := []
    calW := zeroCalibration, calR := zeroCalibration, calA := zeroCalibration
    hHi := 0, hHys := 0, hOvf := 0, strokeTime := 0, leakThreshold := 0, confirmTime := 0
    floatHeight := 0, floatTolerance := 0, floatAllowance := 0
    targets := Vector.replicate 4 0
    draw := 0, qNom := 0, qMin := 0, qMax := 0, tDefer := 0, reliefMargin := 0, turnoverAmount := 0
    window := 0, peerTimeout := 0, budget := 0, tSettle := 0, tRefresh := 0, allowance := 0
    ratings := Vector.replicate 4 0
    theta := Vector.replicate 4 0
    hysteresis := 0, tAirOn := 0, tCrit := 0, tTurn := 0
    stagThreshold := 0, stagHours := 0, proofTime := 0
    intervals := Vector.replicate 4 0
    defaults := { target := 0, heatCap := 0, turnover := 0, relief := 0, interval := 0, alarm := 0 }
    lambda := Vector.replicate 8 0
    tauW := Vector.replicate 4 0, tauR := Vector.replicate 4 0, tauA := Vector.replicate 4 0
    sigma := Vector.replicate 4 0
    entries := [] }

/-- R191, R193: loading begins with the first read attempt. -/
def Loader.atReset : Loader :=
  { mode := .loading, load := .reading, attempt := 1, clamped := 0, settings := blankSettings }

/-- R17. -/
def TempChannel.atReset : TempChannel := { value := 0, state := .unread }

/-- R17; the index of the oldest slot and V before loading ends are log 9. -/
def Measure.atReset : Measure :=
  { secondCount := 0, sixty := 0, running := false, minuteDue := false
    ring := Vector.replicate 8 0, oldest := 0, lf := 0, level := .unread, volume := 0
    lm := 0, vm := 0, rate := 0, dv := 0, stale := true, primed := false
    tw := .atReset, tr := .atReset, ta := .atReset }

/-- R20, R27. -/
def Inputs.atReset : Inputs :=
  { raw := Vector.replicate 17 false, debounced := Vector.replicate 17 false
    timer := Vector.replicate 17 none
    latch := Vector.replicate 6 false, ackTaken := Vector.replicate 6 false
    frostQuiet := true, tripQuiet := true }

/-- R36. -/
def Stage.atReset : Stage := { command := false, state := .off, timer := none }

/-- R34, R36, R37. -/
def Outputs.atReset : Outputs :=
  { inletOpen := false, position := .travel, stages := Vector.replicate 4 .atReset, alarm := false }

/-- R60. -/
def Parser.atReset : Parser := { chars := [], bits := [], expected := none, gapBits := 0 }

/-- R60. -/
def Line.atReset : Line :=
  { state := .gap, parser := .atReset, recessive := 0, slot := 0, heldOff := false, dominantRun := 0
    queue := [], nextAge := 0, onLine := none, rollCall := none, dupTimer := none, errors := 0 }

/-- R61. -/
def Peer.atReset : Peer :=
  { state := .never, role := none, silence := 0, report := none, spill := false, stop := false
    cause := .unknown, alarm := false, supply := none }

/-- R61. -/
def Peers.atReset : Peers :=
  { records := Vector.replicate 24 .atReset, capacity := 0
    anySpill := false, supplyAbsent := true, alone := true }

/-- R102: an own claim in NONE; the fields NONE does not have hold zero. -/
def OwnClaim.atReset : OwnClaim :=
  { state := .none, amount := 0, urgency := 0, held := 0, raise := none, settle := none
    refresh := none, leadDone := false, missed := 0, refreshOwed := false }

/-- R102. -/
def Claims.atReset : Claims :=
  { supplyTable := Vector.replicate 24 none, loadTable := Vector.replicate 24 none
    ownSupply := .atReset, ownLoad := .atReset
    incompleteSupply := none, incompleteLoad := none
    questions := [], inFlight := none, answeredSupply := false, answeredLoad := false
    listening := none, answer := none }

/-- R123: no need, T_req absent, S = +9999, urgency 2 (the other figures: log 9). -/
def Plan.atReset : Plan :=
  { vCeil := 0, vTgt := 0, need := false, n := 0, qNet := 0, cannotFill := false
    tReq := none, slack := 9999, urgency := 2 }

/-- R75, R123. -/
def Fill.atReset : Fill :=
  { night := false, elapsed := 0, silence := 0, nightTimeoutDue := false
    state := .blocked
    causes := { guard := false, maint := false, level := true, safeHold := false, inlet := false, notJoined := true }
    plan := .atReset, qEst := none, learning := false, openRequest := false
    openTimer := none, clearing := none, turnoverStart := none, shortfall := 0, unproductive := false }

/-- R144. -/
def Guard.atReset : Guard :=
  { state := .watch, hold := .none, stroke := none, baseline := none, stop := none
    stopOwed := false, spillOwed := false, confirm := .idle, confirmTimer := none, floatCount := 0 }

/-- R162. -/
def Frost.atReset : Frost :=
  { airWatch := false, critical := false, state := .off
    wishes := Vector.replicate 4 false, target := 0, selected := Vector.replicate 4 false, required := 0
    asked := none, failed := Vector.replicate 4 false, starved := false
    stagLow := none, stagHigh := none, stagMinutes := 0, turnoverRequest := false }

/-- R175. -/
def Situation.atReset : Situation :=
  { key := 0, orders := none, changeCount := 0, pendingFlag := false }

/-- R181. -/
def Reports.atReset : Reports :=
  { age := 0, changeSeen := false, due := 0, sent := 0, skipped := 0, skippedField := 0
    queued := false, timerDue := false }

/-- R190. -/
def Faults.atReset : Faults :=
  { inSet := Vector.replicate 13 false, acked := Vector.replicate 13 false
    stageMask := Vector.replicate 4 false, condition := Vector.replicate 13 false
    total := 0, notes := 0, safeHold := false, snapshot := none }

/-- The part right after a power-on reset (R195), its pins at rest (log 7), no command waiting. -/
def State.reset : State :=
  { pending := []
    pins := Vector.replicate 17 false, resetLow := false, bodiesFilled := 0, handOns := []
    sld := .atReset, msu := .atReset, ilu := .atReset, odu := .atReset, lnu := .atReset
    ptb := .atReset, clu := .atReset, flc := .atReset, ogu := .atReset, frc := .atReset
    stu := .atReset, rpu := .atReset, ftu := .atReset }

end Sys2Proof.Machine
end

