-- ==== Sys2Proof/Machine/Ops.lean ====
section
/-! DEFINITION. Shared operations: rounding and clamping (section 4.1 of 00), countdowns, bytes, the check of R40, the strap table, the hand-on list. -/

namespace Sys2Proof.Machine

/-! ### Numbers -/

/-- A result beyond a limit takes that limit (section 4.1 of 00). -/
def clampTo (lo hi x : Int) : Int := max lo (min hi x)

/-- floor(a / b) for b > 0, toward negative infinity (section 4.1 of 00). -/
def floorDiv (a b : Int) : Int := a / b

/-- ceil(a / b) for b > 0, toward positive infinity (section 4.1 of 00). -/
def ceilDiv (a b : Int) : Int := -((-a) / b)

/-- A count that stops at its top (section 4.1 of 00). -/
def satSucc (top n : Nat) : Nat := min top (n + 1)

/-- One second event of a timer that is counted down; at 0 it has run out (log 3). -/
def tickDown : Option Nat → Option Nat
  | none => none
  | some n => some (n - 1)

/-- One second event of a count of seconds that stops at its top. -/
def tickUp (top : Nat) : Option Nat → Option Nat
  | none => none
  | some n => some (satSucc top n)

/-- Low k bits of an integer in two's complement. -/
def lowBits (k : Nat) (x : Int) : Nat := (x % (2 ^ k : Nat)).toNat

/-- A k-bit two's-complement code as an integer. -/
def signedOf (k n : Nat) : Int := if 2 * n < 2 ^ k then (n : Int) else (n : Int) - (2 ^ k : Nat)

/-- The number whose bit i is the i-th of the list. -/
def bitsToNat : List Bool → Nat
  | [] => 0
  | b :: bs => (if b then 1 else 0) + 2 * bitsToNat bs

/-! ### Bytes: high-order byte first (section 11.4) -/

/-- n bytes of a number, high-order first. -/
def bytesOf : Nat → Nat → List Byte
  | 0, _ => []
  | k + 1, n => BitVec.ofNat 8 (n / 256 ^ k) :: bytesOf k n

/-- The number that a run of bytes gives, high-order first. -/
def natOfBytes (bs : List Byte) : Nat := bs.foldl (fun acc b => 256 * acc + b.toNat) 0

/-- The k-byte field at a position. -/
def fieldAt (bs : List Byte) (at_ k : Nat) : Nat := natOfBytes ((bs.drop at_).take k)

/-- The byte at a position, 0 past the end. -/
def byteAt (bs : List Byte) (i : Nat) : Nat := ((bs[i]?).map BitVec.toNat).getD 0

/-! ### The check of R40 and R191 -/

/-- One data bit: polynomial x^16 + x^12 + x^5 + 1, high-order bit out first (log 10). -/
def crcBit (reg : Nat) (b : Bool) : Nat :=
  let shifted := (2 * reg) % 65536
  if (reg / 32768 == 1) == b then shifted else Nat.xor shifted 0x1021

/-- One character, data bits in the order in which they are sent: least significant first (R39). -/
def crcByte (reg : Nat) (c : Byte) : Nat :=
  (List.range 8).foldl (fun acc i => crcBit acc (c.toNat.testBit i)) reg

/-- The check of a run of characters; the register starts at all ones and is not inverted at the end. -/
def crcOf (bs : List Byte) : Nat := bs.foldl crcByte 0xFFFF

/-! ### The strap table (R8) -/

/-- The interpolation of R8 past the first point; `l1 ≤ x` is what the caller has found. -/
def strapFrom (x l1 v1 : Int) : List (Int × Int) → Int
  | [] => v1
  | (l2, v2) :: rest =>
    if x < l2 then v1 + floorDiv ((x - l1) * (v2 - v1)) (l2 - l1) else strapFrom x l2 v2 rest

/-- The strap volume at height x (R8). -/
def strapVolume (points : List (Int × Int)) (x : Int) : Int :=
  match points with
  | [] => 0
  | (l1, v1) :: rest => if x < l1 then v1 else strapFrom x l1 v1 rest

/-! ### Vectors with an index of their own -/

/-- The vector with one element replaced. -/
def put {α : Type} {n : Nat} (v : Vector α n) (i : Fin n) (x : α) : Vector α n := v.set i.val x i.isLt

/-- Whether some element is set. -/
def anySet {n : Nat} (v : Vector Bool n) : Bool := v.toList.any id

/-! ### Hand-ons -/

/-- A block hands something on; it is taken after what was handed on before it (log 6). -/
def emit (h : HandOn) (s : State) : State := { s with handOns := s.handOns ++ [h] }

/-! ### The station as its mode lets it act -/

/-- The notices and jobs of the part work in JOINING and JOINED (R2, R43, R193). -/
def active (s : State) : Bool := !s.resetLow && (s.sld.mode == .joining || s.sld.mode == .joined)

/-- Loading has ended and the part is not held in reset (R1, R195). -/
def loaded (s : State) : Bool := !s.resetLow && (s.sld.mode != .loading)

/-- The settings image. -/
def setting (s : State) : Settings := s.sld.settings

end Sys2Proof.Machine
end

