-- ==== Sys2Proof/Machine/Operands.lean ====
section
/-! DEFINITION. How a command's operand, a fault code, a latch, a stage, a station or a resource picks out its piece of state. -/

namespace Sys2Proof.Machine

/-! ### Places in vectors -/

/-- The place of an input in the order of section 2.2. -/
def inputIndex : ContactInput → Fin 17
  | .ovf => 0
  | .hifl => 1
  | .lofl => 2
  | .door => 3
  | .fst 0 => 4
  | .fst 1 => 5
  | .fst 2 => 6
  | .fst 3 => 7
  | .maint => 8
  | .tariff => 9
  | .ackin => 10
  | .inOpenFb => 11
  | .inClosedFb => 12
  | .hfb 0 => 13
  | .hfb 1 => 14
  | .hfb 2 => 15
  | .hfb 3 => 16

/-- The seventeen inputs in that order. -/
def allInputs : List ContactInput :=
  [.ovf, .hifl, .lofl, .door, .fst 0, .fst 1, .fst 2, .fst 3, .maint, .tariff, .ackin,
   .inOpenFb, .inClosedFb, .hfb 0, .hfb 1, .hfb 2, .hfb 3]

/-- The place of a latch: the order of the ALARM codes 0..5 (section 11.5). -/
def latchIndex : Latch → Fin 6
  | .ovf => 0
  | .hifl => 1
  | .lofl => 2
  | .door => 3
  | .frostgrp => 4
  | .tripgrp => 5

/-- The six latches in that order. -/
def allLatches : List Latch := [.ovf, .hifl, .lofl, .door, .frostgrp, .tripgrp]

/-- The place of a fault code (section 10.3). -/
def faultIndex : FaultCode → Fin 13
  | .lvlSensor => 0
  | .tempW => 1
  | .tempR => 2
  | .tempA => 3
  | .floatDisagree => 4
  | .inletPosInvalid => 5
  | .inletNoOpen => 6
  | .stageFail => 7
  | .lineIsolated => 8
  | .dupStation => 9
  | .inletStuck => 10
  | .inletLeak => 11
  | .stopUnconfirmed => 12

/-- The four stages in order. -/
def allStages : List (Fin 4) := [0, 1, 2, 3]

/-! ### Inputs and latches -/

def debounced (i : ContactInput) (s : State) : Bool := s.ilu.debounced[inputIndex i]
def rawInput (i : ContactInput) (s : State) : Bool := s.ilu.raw[inputIndex i]
def latchSet (l : Latch) (s : State) : Bool := s.ilu.latch[latchIndex l]
def ackTaken (l : Latch) (s : State) : Bool := s.ilu.ackTaken[latchIndex l]
def edgeLevel (l : Latch) (s : State) : Bool := (setting s).edgeLevel[latchIndex l]

/-- The pin's level through the input's polarity: ACTIVE is closed for NORMALLY OPEN, open for NORMALLY CLOSED (R19). -/
def pinActive (i : ContactInput) (s : State) : Bool :=
  s.pins[inputIndex i] != (setting s).normallyClosed[inputIndex i]

/-! ### Stages -/

def stageAt (k : Fin 4) (s : State) : Stage := s.odu.stages[k]
def ratingOf (k : Fin 4) (s : State) : Nat := (setting s).ratings[k]

/-- A stage is present when its rating is above 0 (R35). -/
def stagePresent (k : Fin 4) (s : State) : Bool := 0 < ratingOf k s

/-- The HEATk relay is energised exactly in PROVING and ON (R35). -/
def heatRelay (k : Fin 4) (s : State) : Bool :=
  (stageAt k s).state == .proving || (stageAt k s).state == .on

/-- The stage's failure signal, TRIPGRP's member, is ACTIVE while its channel is FAILED (R36). -/
def failureSignal (k : Fin 4) (s : State) : Bool := (stageAt k s).state == .failed

def setStage (k : Fin 4) (x : Stage) (s : State) : State :=
  { s with odu := { s.odu with stages := put s.odu.stages k x } }

/-- The sum of the ratings of the stages that a set names. -/
def ratingSum (p : Fin 4 → Bool) (s : State) : Nat :=
  (allStages.map (fun k => if p k then ratingOf k s else 0)).sum

/-! ### Faults -/

def conditionPresent (c : FaultCode) (s : State) : Bool := s.ftu.condition[faultIndex c]
def inFaultSet (c : FaultCode) (s : State) : Bool := s.ftu.inSet[faultIndex c]
def faultAcked (c : FaultCode) (s : State) : Bool := s.ftu.acked[faultIndex c]

/-! ### Peers -/

/-- The record of station n; for a number that is no station, one that is NEVER heard. -/
def peerAt (n : Nat) (s : State) : Peer :=
  if h : 1 ≤ n ∧ n ≤ 24 then s.ptb.records[n - 1]'(by omega) else .atReset

def setPeer (n : Nat) (p : Peer) (s : State) : State :=
  if h : 1 ≤ n ∧ n ≤ 24 then
    { s with ptb := { s.ptb with records := s.ptb.records.set (n - 1) p (by omega) } }
  else s

/-! ### Claims -/

def own (r : Resource) (s : State) : OwnClaim :=
  match r with
  | .supply => s.clu.ownSupply
  | .load => s.clu.ownLoad

def setOwn (r : Resource) (c : OwnClaim) (s : State) : State :=
  match r with
  | .supply => { s with clu := { s.clu with ownSupply := c } }
  | .load => { s with clu := { s.clu with ownLoad := c } }

def claimTable (r : Resource) (s : State) : Vector (Option Holding) 24 :=
  match r with
  | .supply => s.clu.supplyTable
  | .load => s.clu.loadTable

def setTable (r : Resource) (t : Vector (Option Holding) 24) (s : State) : State :=
  match r with
  | .supply => { s with clu := { s.clu with supplyTable := t } }
  | .load => { s with clu := { s.clu with loadTable := t } }

/-- The entry of station n for a resource (R77). -/
def entryAt (r : Resource) (n : Nat) (s : State) : Option Holding :=
  if h : 1 ≤ n ∧ n ≤ 24 then (claimTable r s)[n - 1]'(by omega) else none

def setEntry (r : Resource) (n : Nat) (e : Option Holding) (s : State) : State :=
  if h : 1 ≤ n ∧ n ≤ 24 then setTable r ((claimTable r s).set (n - 1) e (by omega)) s else s

/-- The entries of a resource with their stations. -/
def entriesOf (r : Resource) (s : State) : List (Nat × Holding) :=
  ((claimTable r s).toList.zipIdx.filterMap (fun p => p.1.map (fun h => (p.2 + 1, h))))

def incomplete (r : Resource) (s : State) : Option Nat :=
  match r with
  | .supply => s.clu.incompleteSupply
  | .load => s.clu.incompleteLoad

def setIncompleteTimer (r : Resource) (t : Option Nat) (s : State) : State :=
  match r with
  | .supply => { s with clu := { s.clu with incompleteSupply := t } }
  | .load => { s with clu := { s.clu with incompleteLoad := t } }

/-- The capacity of SUPPLY is the peer table's figure, that of LOAD the load budget (R76). -/
def capacityOf (r : Resource) (s : State) : Nat :=
  match r with
  | .supply => s.ptb.capacity
  | .load => (setting s).budget

end Sys2Proof.Machine
end

