-- ==== Sys2Proof/Machine/Flags.lean ====
section
/-! DEFINITION. The conditions and status fields that the rules compute from state: level tests, tariff minutes, alarm and inlet conditions, codes and bit fields. -/

namespace Sys2Proof.Machine

/-! ### Level and tariff -/

/-- "Level valid" (R7). -/
def levelValid (s : State) : Bool := s.msu.level == .fresh

/-- The refill level H_hi - H_hys, 0 where H_hys exceeds H_hi (R127). -/
def refillLevel (s : State) : Int := max 0 ((setting s).hHi - (setting s).hHys)

/-- A channel that is invalid for the frost controller: HELD; NONE is not counted as invalid (R162). -/
def channelInvalid (c : TempChannel) : Bool := c.state == .held

/-- T_rem (R75). -/
def tRem (s : State) : Int :=
  if s.flc.night then max 0 (((setting s).window : Int) - s.flc.elapsed) else 0

/-- The orders in force; before the first evaluation there are none and the default orders' codes stand. -/
def ordersNow (s : State) : Orders :=
  s.stu.orders.getD
    { target := (setting s).defaults.target, heatCap := (setting s).defaults.heatCap
      turnover := (setting s).defaults.turnover == 1, relief := (setting s).defaults.relief == 1
      interval := (setting s).defaults.interval, alarm := (setting s).defaults.alarm == 1 }

/-! ### Fault classes -/

/-- INLET_STUCK, INLET_LEAK and STOP_UNCONFIRMED are the HOLD codes (section 10.3). -/
def isHold : FaultCode → Bool
  | .inletStuck => true
  | .inletLeak => true
  | .stopUnconfirmed => true
  | _ => false

def holdCodes : List FaultCode := [.inletStuck, .inletLeak, .stopUnconfirmed]

/-- A HOLD fault stands in the fault set. -/
def anyHold (s : State) : Bool := holdCodes.any (fun c => inFaultSet c s)

/-! ### Outputs -/

/-- The four conditions of R125; no job acts before JOINING. -/
def inletWanted (s : State) : Bool :=
  active s && s.flc.openRequest && s.ogu.state == .watch && !debounced .maint s && !s.ftu.safeHold

/-- The conditions of R37. -/
def alarmWanted (s : State) : Bool :=
  s.sld.mode == .unconfigured ||
  (active s &&
    (anySet s.ilu.latch || anyHold s || s.ogu.state == .spill || s.ftu.safeHold || (s.stu.orders.map Orders.alarm).getD false))

/-- R124: CLAIM or FILL with reason TARIFF or TURNOVER while the plan cannot fill. -/
def unproductiveNow (s : State) : Bool :=
  s.flc.plan.cannotFill &&
  match s.flc.state with
  | .claim _ => true
  | .fill .tariff => true
  | .fill .turnover => true
  | _ => false

/-- The output driver unit follows its conditions at once (R33, R37), and the unproductive mark its own (R124). -/
def follow (s : State) : State :=
  { s with
    odu := { s.odu with inletOpen := inletWanted s, alarm := alarmWanted s }
    flc := { s.flc with unproductive := unproductiveNow s } }

/-- Local authority: CRITICAL while the line is in LINE FAULT (R158). -/
def localAuthority (s : State) : Bool := s.frc.state == .critical && s.lnu.state == .lineFault

/-- The covered amount: the held amount of the own LOAD claim while HELD (R153). -/
def coveredAmount (s : State) : Nat := if s.clu.ownLoad.state == .held then s.clu.ownLoad.held else 0

/-- DUP_STATION is present (R44). -/
def dupPresent (s : State) : Bool := conditionPresent .dupStation s

/-! ### Codes of the line (sections 9.2 and 11.5) -/

def guardCode : GuardState → Nat
  | .watch => 0
  | .cut => 1
  | .shut => 2
  | .leak => 3
  | .stuck => 4
  | .spill => 5

def frostCode : FrostState → Nat
  | .off => 0
  | .watch => 1
  | .heat => 2
  | .critical => 3

def claimCode : OwnState → Nat
  | .none => 0
  | .waiting => 1
  | .announcing => 2
  | .settling => 3
  | .held => 4

def levelCode : LevelState → Nat
  | .unread => 0
  | .fresh => 1
  | .stale => 2

def modeCode : StationMode → Nat
  | .loading => 0
  | .unconfigured => 1
  | .joining => 2
  | .joined => 3

def positionCode : Position → Nat
  | .travel => 0
  | .opened => 1
  | .closed => 2
  | .invalid => 3

def fillCode : FillState → Nat
  | .rest => 0
  | .wait => 1
  | .claim .tariff => 2
  | .claim .turnover => 3
  | .fill .tariff => 4
  | .fill .turnover => 5
  | .fill .relief => 6
  | .blocked => 7

def stageCode : StageState → Nat
  | .off => 0
  | .proving => 1
  | .on => 2
  | .dropping => 3
  | .failed => 4

/-- The STOP cause code of a STOP body (section 11.5). -/
def causeCode : StopCause → Nat
  | .stuck => 0
  | .leak => 1
  | .spill => 2
  | .safe => 3
  | .unknown => 0

/-- The STOP field of a REPORT: 0 off, else the cause (section 11.5). -/
def stopField (d : Option StopDemand) : Nat :=
  match d with
  | none => 0
  | some x => causeCode x.cause + 1

def alarmCodeNumber : AlarmCode → Nat
  | .latch l => (latchIndex l).val
  | .spill => 6
  | .inletStuck => 7
  | .inletLeak => 8
  | .stopUnconfirmed => 9

def resourceCode : Resource → Nat
  | .supply => 0
  | .load => 1

/-- The fixed alarm urgency of a latch (R26). -/
def latchUrgency : Latch → Nat
  | .ovf => 7
  | .frostgrp => 6
  | .hifl => 5
  | .lofl => 5
  | .tripgrp => 5
  | .door => 4

/-! ### Bands (R165, R166) -/

/-- Level bands: band k is 1 when L_f ≥ λ_k, all 0 while NONE. -/
def levelBands (s : State) : Nat :=
  if s.msu.level == .unread then 0
  else bitsToNat ((setting s).lambda.toList.map (fun t => decide (t ≤ s.msu.lf)))

/-- Temperature bands of a channel: all 1 while HELD, all 0 while NONE. -/
def tempBands (c : TempChannel) (thresholds : Vector Int 4) : Nat :=
  match c.state with
  | .unread => 0
  | .held => 15
  | .good => bitsToNat (thresholds.toList.map (fun t => decide (c.value ≤ t)))

/-- Slack bands: band k is 1 when S ≤ σ_k. -/
def slackBands (slack : Int) (s : State) : Nat :=
  bitsToNat ((setting s).sigma.toList.map (fun t => decide (slack ≤ t)))

/-- The latch set, bit i for the latch of ALARM code i. -/
def latchBits (s : State) : Nat := bitsToNat s.ilu.latch.toList

/-- The fault set, bit i for the code at place i (section 11.5). -/
def faultBits (v : Vector Bool 13) : Nat := bitsToNat v.toList

/-! ### Fields of the situation key (section 9.2) -/

/-- 1 for true. -/
def bitOf (b : Bool) : Nat := if b then 1 else 0

/-- The level and temperature bands as the measurement unit hands them together: 8 level bands, then 4 each of TW, TR, TA. -/
def measurementBands (s : State) : Nat :=
  levelBands s + 2 ^ 8 * tempBands s.msu.tw (setting s).tauW + 2 ^ 12 * tempBands s.msu.tr (setting s).tauR +
  2 ^ 16 * tempBands s.msu.ta (setting s).tauA

/-- The value of a field as its owner now stands (R164). -/
def fieldValue (f : KeyField) (s : State) : Nat :=
  match f with
  | .measurement => measurementBands s
  | .night => bitOf s.flc.night
  | .guard => guardCode s.ogu.state
  | .frost => frostCode s.frc.state
  | .latches => latchBits s
  | .maint => bitOf (debounced .maint s)
  | .peerSpill => bitOf s.ptb.anySpill
  | .supplyAbsent => bitOf s.ptb.supplyAbsent
  | .starved => bitOf s.frc.starved
  | .joined => bitOf (s.sld.mode == .joined)

/-- An owner hands a field with the value it has now (R164). -/
def handField (f : KeyField) (s : State) : State := emit (.situation f (fieldValue f s)) s

end Sys2Proof.Machine
end

