-- ==== Sys2Proof/Machine/SettingsBlock.lean ====
section
/-! DEFINITION. The settings block: its fields (section 11.4), the tests of a read (R191), the structural tests and the clamping (R192). -/

namespace Sys2Proof.Machine

/-! ### Reading the fields (section 11.4) -/

/-- Unsigned field as an integer. -/
def intField (bs : List Byte) (i k : Nat) : Int := (fieldAt bs i k : Int)

/-- Signed two-byte field. -/
def signedField (bs : List Byte) (i : Nat) : Int := signedOf 16 (fieldAt bs i 2)

def readCalibration (bs : List Byte) (i : Nat) : Calibration :=
  { c0 := intField bs i 2, c1 := intField bs (i + 2) 2
    t0 := signedField bs (i + 4), t1 := signedField bs (i + 6) }

/-- Strap points 1 to n: level (2 bytes), volume (3 bytes) from byte 35 on. -/
def readStrap (bs : List Byte) (n : Nat) : List (Int × Int) :=
  (List.range n).map (fun i => (intField bs (35 + 5 * i) 2, intField bs (35 + 5 * i + 2) 3))

/-- Entry at a byte position: value, mask and action of 14 bytes. -/
def readEntry (bs : List Byte) (i : Nat) : TableEntry :=
  let value := fieldAt bs i 6
  let mask := fieldAt bs (i + 6) 6
  let action := fieldAt bs (i + 12) 2
  { valid := value.testBit 46
    value := BitVec.ofNat 46 value
    mask := BitVec.ofNat 46 mask
    target := action % 8
    heatCap := action / 8 % 8
    turnover := action / 64 % 4
    relief := action / 256 % 4
    interval := action / 1024 % 8
    alarmOn := action.testBit 13
    link := action / 16384 % 4 + 4 * (mask / 2 ^ 46 % 4) }

/-- An entry with its valid flag clear: entries 52..63 (R192). -/
def invalidEntry : TableEntry :=
  { valid := false, value := 0, mask := 0, target := 4, heatCap := 5, turnover := 2, relief := 2
    interval := 4, alarmOn := false, link := 0 }

/-- The fields of a block as they stand in it; of the strap points those that the clamped count uses (log 11). -/
def readSettings (bs : List Byte) : Settings :=
  { station := byteAt bs 0
    lineRate := byteAt bs 1
    tariffSource := (byteAt bs 2).testBit 0
    remoteAck := (byteAt bs 2).testBit 1
    edgeLevel := Vector.ofFn (fun i => (byteAt bs 3).testBit i.val)
    normallyClosed := Vector.ofFn (fun i => (fieldAt bs 4 3).testBit i.val)
    debounce := Vector.ofFn (fun i => byteAt bs (7 + i.val))
    z := intField bs 24 2
    f := intField bs 26 2
    hFs := intField bs 28 2
    dOff := intField bs 30 2
    lMax := intField bs 32 2
    strapCount := byteAt bs 34
    strap := readStrap bs (max 2 (min 16 (byteAt bs 34)))
    calW := readCalibration bs 115
    calR := readCalibration bs 123
    calA := readCalibration bs 131
    hHi := intField bs 139 2
    hHys := intField bs 141 2
    hOvf := intField bs 143 2
    strokeTime := byteAt bs 145
    leakThreshold := intField bs 146 2
    confirmTime := fieldAt bs 148 2
    floatHeight := intField bs 150 2
    floatTolerance := intField bs 152 2
    floatAllowance := byteAt bs 154
    targets := Vector.ofFn (fun i => intField bs (155 + 3 * i.val) 3)
    draw := intField bs 167 2
    qNom := intField bs 169 2
    qMin := intField bs 171 2
    qMax := intField bs 173 2
    tDefer := intField bs 175 2
    reliefMargin := intField bs 177 2
    turnoverAmount := intField bs 179 2
    window := fieldAt bs 181 2
    peerTimeout := fieldAt bs 183 2
    budget := fieldAt bs 185 2
    tSettle := byteAt bs 187
    tRefresh := fieldAt bs 188 2
    allowance := byteAt bs 190
    ratings := Vector.ofFn (fun i => byteAt bs (191 + i.val))
    theta := Vector.ofFn (fun i => signedField bs (195 + 2 * i.val))
    hysteresis := intField bs 203 1
    tAirOn := signedField bs 204
    tCrit := signedField bs 206
    tTurn := signedField bs 208
    stagThreshold := intField bs 210 2
    stagHours := byteAt bs 212
    proofTime := byteAt bs 213
    intervals := Vector.ofFn (fun i => byteAt bs (214 + i.val))
    defaults :=
      { target := byteAt bs 218, heatCap := byteAt bs 219, turnover := byteAt bs 220
        relief := byteAt bs 221, interval := byteAt bs 222, alarm := byteAt bs 223 }
    lambda := Vector.ofFn (fun i => intField bs (224 + 2 * i.val) 2)
    tauW := Vector.ofFn (fun i => signedField bs (240 + 2 * i.val))
    tauR := Vector.ofFn (fun i => signedField bs (248 + 2 * i.val))
    tauA := Vector.ofFn (fun i => signedField bs (256 + 2 * i.val))
    sigma := Vector.ofFn (fun i => signedField bs (264 + 2 * i.val))
    entries := (List.range 52).map (fun i => readEntry bs (294 + 14 * i)) ++ List.replicate 12 invalidEntry }

/-! ### Clamping field by field (R192) -/

def clampNat (lo hi x : Nat) : Nat := max lo (min hi x)

def clampCalibration (c : Calibration) : Calibration :=
  let c0 := clampTo 0 4094 c.c0
  let c1 := clampTo 0 4095 c.c1
  { c0 := c0, c1 := if c1 ≤ c0 then c0 + 1 else c1
    t0 := clampTo (-1000) 2000 c.t0, t1 := clampTo (-1000) 2000 c.t1 }

/-- The strap levels of the used points, clamped to 0..30000. -/
def clampLevels (points : List (Int × Int)) : List (Int × Int) :=
  points.map (fun p => (clampTo 0 30000 p.1, p.2))

/-- Volumes clamped to 0..16,000,000, then none below the one before it. -/
def clampVolumes (before : Int) : List (Int × Int) → List (Int × Int)
  | [] => []
  | (l, v) :: rest =>
    let v' := max before (clampTo 0 16000000 v)
    (l, v') :: clampVolumes v' rest

/-- The levels strictly increase. -/
def strictlyRising : List (Int × Int) → Bool
  | [] => true
  | [_] => true
  | p :: q :: rest => decide (p.1 < q.1) && strictlyRising (q :: rest)

def clampEntry (e : TableEntry) : TableEntry :=
  { e with
    target := min 4 e.target, heatCap := min 5 e.heatCap, turnover := min 2 e.turnover
    relief := min 2 e.relief, interval := min 4 e.interval }

/-- Every field at the nearest limit of its range, dependent ranges as the table of R192 gives them. -/
def clampSettings (r : Settings) : Settings :=
  let z := clampTo 0 3994 r.z
  let lMax := clampTo 1000 30000 r.lMax
  let hHi := min (lMax - 1) (clampTo 500 29999 r.hHi)
  let qMin := clampTo 100 20000 r.qMin
  let qMax := max qMin (clampTo 100 20000 r.qMax)
  { r with
    lineRate := min 2 r.lineRate
    debounce := r.debounce.map (fun n => min 200 n)
    z := z
    f := clampTo (z + 101) 4095 r.f
    hFs := clampTo 1000 65000 r.hFs
    dOff := clampTo 0 60000 r.dOff
    lMax := lMax
    strapCount := clampNat 2 16 r.strapCount
    strap := clampVolumes 0 (clampLevels r.strap)
    calW := clampCalibration r.calW
    calR := clampCalibration r.calR
    calA := clampCalibration r.calA
    hHi := hHi
    hHys := clampTo 0 5000 r.hHys
    hOvf := clampTo (hHi + 1) lMax r.hOvf
    strokeTime := clampNat 5 180 r.strokeTime
    leakThreshold := clampTo 5 500 r.leakThreshold
    confirmTime := clampNat 10 600 r.confirmTime
    floatHeight := clampTo 0 30000 r.floatHeight
    floatTolerance := clampTo 0 2000 r.floatTolerance
    floatAllowance := min 2 r.floatAllowance
    targets := r.targets.map (clampTo 0 16000000)
    draw := clampTo 0 20000 r.draw
    qNom := clampTo qMin qMax (clampTo 100 20000 r.qNom)
    qMin := qMin
    qMax := qMax
    tDefer := clampTo 0 600 r.tDefer
    reliefMargin := clampTo 0 5000 r.reliefMargin
    turnoverAmount := clampTo 50 5000 r.turnoverAmount
    window := clampNat 60 720 r.window
    peerTimeout := clampNat 30 900 r.peerTimeout
    budget := clampNat 1 2000 r.budget
    tSettle := clampNat 1 10 r.tSettle
    tRefresh := clampNat 20 300 r.tRefresh
    allowance := min 2 r.allowance
    theta := r.theta.map (clampTo (-500) 800)
    hysteresis := clampTo 0 100 r.hysteresis
    tAirOn := clampTo (-500) 800 r.tAirOn
    tCrit := clampTo (-500) 800 r.tCrit
    tTurn := clampTo (-500) 800 r.tTurn
    stagThreshold := clampTo 10 2000 r.stagThreshold
    stagHours := clampNat 1 24 r.stagHours
    proofTime := clampNat 1 10 r.proofTime
    intervals := r.intervals.map (clampNat 1 60)
    defaults :=
      { target := min 3 r.defaults.target, heatCap := min 4 r.defaults.heatCap
        turnover := min 1 r.defaults.turnover, relief := min 1 r.defaults.relief
        interval := min 3 r.defaults.interval, alarm := min 1 r.defaults.alarm }
    lambda := r.lambda.map (clampTo 0 30000)
    tauW := r.tauW.map (clampTo (-500) 800)
    tauR := r.tauR.map (clampTo (-500) 800)
    tauA := r.tauA.map (clampTo (-500) 800)
    sigma := r.sigma.map (clampTo (-9999) 9999)
    entries := r.entries.map clampEntry }

/-- The fields of an image that a clamp can move, in the order of the block, one number each. -/
def clampableFields (s : Settings) : List Int :=
  let n := fun (x : Nat) => (x : Int)
  let cal := fun (c : Calibration) => [c.c0, c.c1, c.t0, c.t1]
  [n s.lineRate] ++ s.debounce.toList.map n ++ [s.z, s.f, s.hFs, s.dOff, s.lMax, n s.strapCount]
  ++ s.strap.flatMap (fun p => [p.1, p.2])
  ++ cal s.calW ++ cal s.calR ++ cal s.calA
  ++ [s.hHi, s.hHys, s.hOvf, n s.strokeTime, s.leakThreshold, n s.confirmTime, s.floatHeight,
      s.floatTolerance, n s.floatAllowance]
  ++ s.targets.toList
  ++ [s.draw, s.qNom, s.qMin, s.qMax, s.tDefer, s.reliefMargin, s.turnoverAmount, n s.window,
      n s.peerTimeout, n s.budget, n s.tSettle, n s.tRefresh, n s.allowance]
  ++ s.theta.toList
  ++ [s.hysteresis, s.tAirOn, s.tCrit, s.tTurn, s.stagThreshold, n s.stagHours, n s.proofTime]
  ++ s.intervals.toList.map n
  ++ [n s.defaults.target, n s.defaults.heatCap, n s.defaults.turnover, n s.defaults.relief,
      n s.defaults.interval, n s.defaults.alarm]
  ++ s.lambda.toList ++ s.tauW.toList ++ s.tauR.toList ++ s.tauA.toList ++ s.sigma.toList
  ++ s.entries.flatMap (fun e => [n e.target, n e.heatCap, n e.turnover, n e.relief, n e.interval])

/-- How many of two lists of fields differ. -/
def countMoved : List Int → List Int → Nat
  | a :: as, b :: bs => (if a = b then 0 else 1) + countMoved as bs
  | _, _ => 0

/-- The settings-clamped count: one for each field moved, stopping at 255 (R192). -/
def clampedCount (raw : Settings) : Nat :=
  min 255 (countMoved (clampableFields raw) (clampableFields (clampSettings raw)))

/-! ### The verdict on a read (R191, R192) -/

/-- All 1024 bytes read FFH, or all read 00H. -/
def notAnswered (bs : List Byte) : Bool := bs.all (fun b => b == 255) || bs.all (fun b => b == 0)

/-- The check over bytes 0..1021 equals bytes 1022 (high) and 1023 (low). -/
def checkMatches (bs : List Byte) : Bool := crcOf (bs.take 1022) == fieldAt bs 1022 2

/-- The station number lies in 1..24. -/
def stationHolds (raw : Settings) : Bool := 1 ≤ raw.station && raw.station ≤ 24

/-- The structural tests: station 1..24 and strictly rising clamped strap levels. -/
def structureHolds (raw : Settings) : Bool := stationHolds raw && strictlyRising (clampLevels raw.strap)

/-- The image once the structure has been tested: where the station number holds, the strap count and the levels of the points it
uses are clamped before they are examined (R192). -/
def testedImage (raw : Settings) : Settings :=
  if stationHolds raw then { raw with strapCount := clampNat 2 16 raw.strapCount, strap := clampLevels raw.strap } else raw

end Sys2Proof.Machine
end

