-- ==== Sys2Proof/Machine/NoticeQueue.lean ====
section
/-! DEFINITION. The outgoing queue (R52 to R55), the NOTE count (R186), and the report unit's due events (R177), which stand or fall with the queue. -/

namespace Sys2Proof.Machine

/-- The replacement key of a notice (R52). -/
def keyOf : Outgoing → QueueKey
  | .report => .report
  | .claim r _ => .side r
  | .release r => .side r
  | .alarm c => .alarm c
  | .stop => .stop
  | .tariff => .tariff
  | .rollcall _ => .rollcall
  | .trip => .trip

/-- The notice is a CLAIM. -/
def isClaim : Outgoing → Bool
  | .claim _ _ => true
  | _ => false

/-- The notice is an initial CLAIM. -/
def isInitialClaim : Outgoing → Bool
  | .claim _ false => true
  | _ => false

/-- The notice is a RELEASE. -/
def isRelease : Outgoing → Bool
  | .release _ => true
  | _ => false

/-- The entry under a key. -/
def entryUnder (k : QueueKey) (q : List QueueEntry) : Option QueueEntry := q.find? (fun e => keyOf e.item == k)

/-- The entry under a key, changed. -/
def changeUnder (k : QueueKey) (f : QueueEntry → QueueEntry) (q : List QueueEntry) : List QueueEntry :=
  q.map (fun e => if keyOf e.item == k then f e else e)

/-- The queue without the entry under a key. -/
def removeUnder (k : QueueKey) (q : List QueueEntry) : List QueueEntry := q.filter (fun e => keyOf e.item != k)

/-- The more urgent of two entries, of equal urgency the older (R52). -/
def moreUrgent (a b : QueueEntry) : QueueEntry :=
  if a.urgency < b.urgency then b
  else if a.urgency = b.urgency ∧ b.age < a.age then b
  else a

/-- The first WAITING entry in the order of R52. -/
def queueHead : List QueueEntry → Option QueueEntry
  | [] => none
  | e :: rest =>
    if e.sending then queueHead rest
    else
      match queueHead rest with
      | none => some e
      | some b => some (moreUrgent e b)

/-- The less urgent of two entries, of equal urgency the younger (R55). -/
def lessUrgent (a b : QueueEntry) : QueueEntry :=
  if b.urgency < a.urgency then b
  else if a.urgency = b.urgency ∧ a.age < b.age then b
  else a

/-- The youngest WAITING entry at the lowest urgency (R55). -/
def dropCandidate : List QueueEntry → Option QueueEntry
  | [] => none
  | e :: rest =>
    if e.sending then dropCandidate rest
    else
      match dropCandidate rest with
      | none => some e
      | some b => some (lessUrgent e b)

/-- A NOTE occurrence is counted, up to 255 (R186). -/
def noteOccurrence (s : State) : State :=
  { s with ftu := { s.ftu with notes := satSucc 255 s.ftu.notes } }

/-- A line error is counted, up to 255 (R59). -/
def lineError (s : State) : State :=
  { s with lnu := { s.lnu with errors := satSucc 255 s.lnu.errors } }

/-- The report unit counts one report as skipped (R177, R180); the totals have no top (log 31). -/
def countSkipped (s : State) : State :=
  { s with rpu := { s.rpu with
      skipped := s.rpu.skipped + 1
      skippedField := satSucc 255 s.rpu.skippedField } }

/-- A dropped REPORT clears the queued flag and counts as skipped (R180). -/
def reportDropped (s : State) : State :=
  countSkipped { s with rpu := { s.rpu with queued := false } }

/-! ### What a drop does to the claim unit (R55, R92, R99) -/

/-- A claim, or its raise phase, in ANNOUNCING returns to WAITING (R55, R86). -/
def claimBackToWaiting (r : Resource) (s : State) : State :=
  let c := own r s
  if c.state = .announcing then setOwn r { c with state := .waiting } s
  else
    match c.raise with
    | some x => if x.phase = .announcing then setOwn r { c with raise := some { x with phase := .waiting } } s else s
    | none => s

/-- LOST, GRANTED and RAISE WITHDRAWN go to the job that owns the claim; the frost controller evaluates on each (R152). -/
def tellLost : Resource → State → State
  | .supply, s => emit .fillLost s
  | .load, s => emit .frostEvaluate s

def tellGranted : Resource → State → State
  | .supply, s => emit .fillGranted s
  | .load, s => emit .frostEvaluate s

def tellRaiseWithdrawn : Resource → State → State
  | .supply, s => s
  | .load, s => emit .frostEvaluate s

/-- A claim given up: WAITING with the same amount and urgency (R83, log 26). -/
def lostRecord (c : OwnClaim) : OwnClaim :=
  { c with state := .waiting, held := 0, raise := none, settle := none, refresh := none
           leadDone := false, missed := 0, refreshOwed := false }

/-- The own entry is removed: a table change (R77). -/
def dropOwnEntry (r : Resource) (s : State) : State := setEntry r (setting s).station none s

/-- The own claim is LOST: own entry and raise part removed, RELEASE queued by `release` where the rule says so, the job told,
and the waiting claim re-examined once the job has acted (R83, R88, R92, R95, R100). -/
def giveUp (release : State → State) (r : Resource) (s : State) : State :=
  emit (.reexamine r) (tellLost r (release (dropOwnEntry r (setOwn r (lostRecord (own r s)) s))))

/-- T_refresh + T_settle, the length of the incomplete and listening timers. -/
def claimRound (s : State) : Nat := (setting s).tRefresh + (setting s).tSettle

/-- The resource's incomplete flag is set and its timer starts (R99). -/
def setIncomplete (r : Resource) (s : State) : State := setIncompleteTimer r (some (claimRound s)) s

/-- A garbled or dropped HOLD question marks its resource incomplete (R58, R99). -/
def markIncompleteFor (q : Question) (s : State) : State :=
  match q with
  | .hold r => setIncomplete r s
  | _ => s

/-- The owner of a dropped notice is told at once (R55). An initial CLAIM's claim waits again; after a refresh a HELD claim is
LOST, its RELEASE queued by `release` (R92); the owners of RELEASE, ALARM, STOP, TARIFF and TRIP do nothing at once (R90, R26,
R136, R73, R188). -/
def tellDropped (release : Resource → State → State) (item : Outgoing) (s : State) : State :=
  match item with
  | .report => reportDropped s
  | .claim r false => claimBackToWaiting r s
  | .claim r true => if (own r s).state = .held then giveUp (release r) r s else s
  | .rollcall q => emit (.questionDropped q) (markIncompleteFor q s)
  | .release _ => s
  | .alarm _ => s
  | .stop => s
  | .tariff => s
  | .trip => s

/-- A drop is a QUEUE_DROP NOTE occurrence and is told to the owner (R55). -/
def dropNotice (release : Resource → State → State) (item : Outgoing) (s : State) : State :=
  tellDropped release item (noteOccurrence s)

/-! ### Entering the queue (R52 to R55) -/

/-- A CLAIM that the line unit refuses in JOINING: the claim waits again unless a CLAIM of it still stands in the queue (R52). -/
def claimRefused (r : Resource) (refresh : Bool) (s : State) : State :=
  if refresh then s
  else
    match entryUnder (.side r) s.lnu.queue with
    | some e => if isClaim e.item then s else claimBackToWaiting r s
    | none => claimBackToWaiting r s

/-- A new entry, the youngest of the queue (R52). -/
def newEntry (item : Outgoing) (u : Nat) (age : Nat) : QueueEntry :=
  { item := item, urgency := u, age := age, sending := false, renewed := none, everSent := false }

/-- The newcomer enters the queue. -/
def enqueue (item : Outgoing) (u : Nat) (s : State) : State :=
  { s with lnu := { s.lnu with queue := s.lnu.queue ++ [newEntry item u s.lnu.nextAge], nextAge := s.lnu.nextAge + 1 } }

/-- A notice under a key that no entry holds (R55); `release` queues the RELEASE that a dropped refresh leads to. -/
def queueNew (release : Resource → State → State) (item : Outgoing) (u : Nat) (s : State) : State :=
  if s.lnu.queue.length < 8 then enqueue item u s
  else
    match dropCandidate s.lnu.queue with
    | none => dropNotice release item s
    | some e =>
      if e.urgency < u then
        dropNotice release e.item
          (enqueue item u { s with lnu := { s.lnu with queue := removeUnder (keyOf e.item) s.lnu.queue } })
      else dropNotice release item s

/-- The notice an entry now stands for. That its initial CLAIM has been sent holds on only where an initial CLAIM takes the
place of that CLAIM (R54, log 16). -/
def QueueEntry.holding (item : Outgoing) (e : QueueEntry) : QueueEntry :=
  { e with item := item, everSent := e.everSent && isInitialClaim item }

/-- A notice under a key that an entry holds (R53, R54, log 16). -/
def queueOver (item : Outgoing) (u : Nat) (e : QueueEntry) (s : State) : State :=
  if e.sending then
    { s with lnu := { s.lnu with
        queue := changeUnder (keyOf item) (fun x => { x with renewed := some item, urgency := max x.urgency u }) s.lnu.queue } }
  else if isRelease item && isInitialClaim e.item && !e.everSent then
    { s with lnu := { s.lnu with queue := removeUnder (keyOf item) s.lnu.queue } }
  else
    { s with lnu := { s.lnu with
        queue := changeUnder (keyOf item) (fun x => { x.holding item with urgency := max x.urgency u }) s.lnu.queue } }

/-- A block queues a notice by kind and urgency (R52); `release` queues the RELEASE that a dropped refresh leads to. -/
def queueWith (release : Resource → State → State) (item : Outgoing) (u : Nat) (s : State) : State :=
  if active s then
    match item with
    | .claim r refresh =>
      if s.sld.mode = .joining ∧ u < 6 then claimRefused r refresh s
      else
        match entryUnder (keyOf item) s.lnu.queue with
        | some e => queueOver item u e s
        | none => queueNew release item u s
    | _ =>
      match entryUnder (keyOf item) s.lnu.queue with
      | some e => queueOver item u e s
      | none => queueNew release item u s
  else s

/-- The RELEASE of a claim whose refresh was dropped, at urgency 5 (R92). It may itself drop the refresh of the other resource, and
the RELEASE of that one drops no refresh, for two resources have two: the third level is not reached. -/
def queueRelease : Nat → Resource → State → State
  | 0, _, s => s
  | n + 1, r, s => queueWith (queueRelease n) (.release r) 5 s

/-- A block queues a notice by kind and urgency (R52). -/
def queueNotice (item : Outgoing) (u : Nat) (s : State) : State := queueWith (queueRelease 2) item u s

/-! ### Due events of the report unit -/

/-- A due event: one REPORT queued or one report counted as skipped (R177). -/
def dueEvent (s : State) : State :=
  let s1 := { s with rpu := { s.rpu with due := s.rpu.due + 1, age := 0 } }
  if s.rpu.queued then countSkipped s1
  else queueNotice .report 1 { s1 with rpu := { s1.rpu with queued := true } }

/-- A change that the change rule counts (R179). -/
def changeSeen (s : State) : State := { s with rpu := { s.rpu with changeSeen := true } }

/-- The interval the orders select, in seconds (R178). -/
def reportLimit (s : State) : Nat := 60 * ((setting s).intervals.toList[(ordersNow s).interval]?.getD 0)

end Sys2Proof.Machine
end

