-- ==== Sys2Proof/Machine/ClaimUnit.lean ====
section
/-! DEFINITION. The claim unit: fit (R84), announcement (R85), the jobs' requests (R83, R90, R91), loss and yield (R88, R95, R97), refresh (R92 to R94), reconcile and questions (R98 to R101). -/

namespace Sys2Proof.Machine

/-! ### Amounts and fit -/

/-- The held amount of an entry, 0 where it has none. -/
def heldPart : Share → Nat
  | .held a => a
  | .settling _ h _ _ => h.getD 0

/-- The larger of held and pending amount (R84, R94, R95). -/
def largerPart : Share → Nat
  | .held a => a
  | .settling p h _ _ => max p (h.getD 0)

/-- A HELD entry's held amount, a SETTLING entry's pending amount (R95). -/
def yieldPart : Share → Nat
  | .held a => a
  | .settling p _ _ _ => p

/-- The own claim, or its raise, is settling (R78, R84). -/
def ownSettling (r : Resource) (s : State) : Bool :=
  (own r s).state == .settling || ((own r s).raise.map Raise.phase) == some .settling

/-- The amount at which an entry of another station counts against the own claim (R84). -/
def countedPart (settling : Bool) : Share → Nat
  | .held a => a
  | .settling p h _ late => if late && settling then h.getD 0 else max p (h.getD 0)

/-- The sum over the entries of other stations (R84). -/
def othersSum (r : Resource) (s : State) : Nat :=
  (((entriesOf r s).filter (fun e => e.1 != (setting s).station)).map
    (fun e => countedPart (ownSettling r s) e.2.share)).sum

/-- The own claim of amount a fits (R84). -/
def fits (r : Resource) (a : Nat) (s : State) : Bool := a + othersSum r s ≤ capacityOf r s

/-- The amount a settling claim or raise settles at: the pending amount of the own entry (R87). -/
def settlingAmount (r : Resource) (s : State) : Nat :=
  match entryAt r (setting s).station s with
  | some e => yieldPart e.share
  | none => (own r s).amount

/-! ### Announcing (R85) -/

/-- The conditions of R85 for an amount at the claim's urgency. -/
def mayAnnounce (r : Resource) (a : Nat) (s : State) : Bool :=
  active s && !dupPresent s &&
  (6 ≤ (own r s).urgency ||
    (s.sld.mode == .joined && (incomplete r s).isNone && fits r a s))

/-- A WAITING claim, or a raise in phase WAITING, is announced when its conditions hold. -/
def announce (r : Resource) (s : State) : State :=
  let c := own r s
  match c.state with
  | .waiting =>
    if mayAnnounce r c.amount s then
      queueNotice (.claim r false) c.urgency (setOwn r { c with state := .announcing } s)
    else s
  | .held =>
    match c.raise with
    | some x =>
      if x.phase = .waiting ∧ mayAnnounce r x.pending s = true then
        queueNotice (.claim r false) c.urgency
          (setOwn r { c with raise := some { x with phase := .announcing } } s)
      else s
    | none => s
  | _ => s

/-! ### Giving up (section 5.3) -/

/-- The own claim is LOST, with RELEASE queued at urgency 5 where the rule says so (R83, R88, R92, R95, R100). -/
def loseOwn (r : Resource) (releases : Bool) (s : State) : State :=
  giveUp (fun t => if releases then queueNotice (.release r) 5 t else t) r s

/-- A raise given up: phase WAITING, the own entry HELD at the old amount, a refresh at it queued, the job told (R91), and the
raise re-examined (R77). That refresh is also the one R93 may owe. The entry takes the claim's present urgency (log 42). -/
def withdrawRaise (r : Resource) (s : State) : State :=
  let c := own r s
  match c.raise with
  | some x =>
    let s1 := setOwn r { c with raise := some { x with phase := .waiting }, settle := none, refreshOwed := false } s
    let s2 := setEntry r (setting s).station (some { share := .held c.held, urgency := c.urgency, age := 0 }) s1
    emit (.reexamine r) (tellRaiseWithdrawn r (queueNotice (.claim r true) c.urgency s2))
  | none => s

/-- A settling claim or raise of urgency 0..5 that no longer fits is withdrawn (R88). -/
def settleCheck (r : Resource) (s : State) : State :=
  let c := own r s
  if 6 ≤ c.urgency then s
  else if c.state = .settling then
    if fits r (settlingAmount r s) s then s else loseOwn r true s
  else if c.state = .held ∧ (c.raise.map Raise.phase) = some .settling then
    if fits r (settlingAmount r s) s then s else withdrawRaise r s
  else s

/-- The re-examinations that follow a change of the table, of a capacity or of a condition of R85. -/
def reexamineNow (r : Resource) (s : State) : State := announce r (settleCheck r s)

/-! ### Requests of the jobs (R83, R90, R91) -/

/-- A CLAIM of this claim stands WAITING under its key. -/
def claimWaiting (r : Resource) (s : State) : Option Outgoing :=
  match entryUnder (.side r) s.lnu.queue with
  | some e => if isClaim e.item && !e.sending then some e.item else none
  | none => none

/-- A CLAIM of this claim stands in the queue. -/
def claimQueued (r : Resource) (s : State) : Bool :=
  match entryUnder (.side r) s.lnu.queue with
  | some e => isClaim e.item
  | none => false

/-- The own entry's urgency follows the claim's (R83) and the header of the latest CLAIM sent (section 5.2): a table change (R77). -/
def ownEntryUrgency (r : Resource) (u : Nat) (s : State) : State :=
  match entryAt r (setting s).station s with
  | some e =>
    if e.urgency = u then s
    else emit (.reexamine r) (setEntry r (setting s).station (some { e with urgency := u }) s)
  | none => s

/-- Change of urgency (R83). -/
def changeUrgency (r : Resource) (u : Nat) (s : State) : State :=
  let c := own r s
  if c.urgency = u then s
  else
    match c.state with
    | .none => s
    | .waiting => announce r (setOwn r { c with urgency := u } s)
    | .announcing => queueNotice (.claim r false) u (setOwn r { c with urgency := u } s)
    | _ =>
      let s1 := ownEntryUrgency r u (setOwn r { c with urgency := u } s)
      match claimWaiting r s1 with
      | some item => announce r (queueNotice item u s1)
      | none => announce r s1

/-- A withdraw request (R90). The RELEASE of a claim in ANNOUNCING goes at urgency 5 as the others do (log 41). -/
def withdrawOwn (r : Resource) (s : State) : State :=
  match (own r s).state with
  | .none => s
  | .waiting => setOwn r .atReset s
  | .announcing => queueNotice (.release r) 5 (setOwn r .atReset s)
  | _ => queueNotice (.release r) 5 (dropOwnEntry r (setOwn r .atReset s))

/-- A new claim: WAITING, examined at once (R83). -/
def askFresh (r : Resource) (a u : Nat) (s : State) : State :=
  announce r (setOwn r { OwnClaim.atReset with state := .waiting, amount := a, urgency := u } s)

/-- A lower: the held amount takes the new amount at once and a refresh is queued (R91). The entry takes the claim's present
urgency (log 42). -/
def lowerOwn (r : Resource) (a : Nat) (s : State) : State :=
  let c := own r s
  let s1 := setOwn r { c with amount := a, held := a, raise := none, settle := none, refreshOwed := false } s
  let s2 := setEntry r (setting s).station (some { share := .held a, urgency := c.urgency, age := 0 }) s1
  queueNotice (.claim r true) c.urgency s2

/-- A raise begun, or its pending amount replaced; in phase SETTLING a new initial CLAIM is queued (R91, log 18) and
the own entry takes the claim's present urgency (log 42). -/
def raiseOwn (r : Resource) (a : Nat) (s : State) : State :=
  let c := own r s
  match c.raise with
  | none => announce r (setOwn r { c with amount := a, raise := some { pending := a, phase := .waiting } } s)
  | some x =>
    match x.phase with
    | .waiting => announce r (setOwn r { c with amount := a, raise := some { x with pending := a } } s)
    | .announcing => setOwn r { c with amount := a, raise := some { x with pending := a } } s
    | .settling =>
      let s1 := setOwn r { c with amount := a, settle := none, raise := some { pending := a, phase := .announcing } } s
      let s2 := setEntry r (setting s).station (some { share := .held c.held, urgency := c.urgency, age := 0 }) s1
      queueNotice (.claim r false) c.urgency s2

/-- An ask for another amount (R83). -/
def askAmount (r : Resource) (a : Nat) (s : State) : State :=
  let c := own r s
  if c.amount = a then s
  else
    match c.state with
    | .none => s
    | .waiting => announce r (setOwn r { c with amount := a } s)
    | .announcing => setOwn r { c with amount := a } s
    | .settling => askFresh r a c.urgency (withdrawOwn r s)
    | .held => if a ≤ c.held then lowerOwn r a s else raiseOwn r a s

/-- The amount the claim unit makes of an ask: 1 for SUPPLY, at most 255 for LOAD (R76). -/
def askedAmount : Resource → Nat → Nat
  | .supply, _ => 1
  | .load, a => min 255 a

/-- An ask, with an amount and an urgency (R83); an ask for no LOAD is a withdrawal (R76). Where both differ on a claim
not in NONE, the change of urgency is taken first (log 53). -/
def askOwn (r : Resource) (a u : Nat) (s : State) : State :=
  if askedAmount r a = 0 then withdrawOwn r s
  else if (own r s).state = .none then askFresh r (askedAmount r a) u s
  else askAmount r (askedAmount r a) (changeUrgency r u s)

/-! ### Incomplete flags (R99) and questions (R101) -/

/-- The next question of the list is queued, one at a time (R71, R101). -/
def askNext (s : State) : State :=
  match s.clu.inFlight with
  | some _ => s
  | none =>
    match s.clu.questions with
    | [] => s
    | q :: qs =>
      queueNotice (.rollcall q) 4 { s with clu := { s.clu with inFlight := some q, questions := qs } }

/-- A HOLD question of this station counts as answered (R101). -/
def markAnswered (q : Question) (s : State) : State :=
  match q with
  | .hold .supply => { s with clu := { s.clu with answeredSupply := true } }
  | .hold .load => { s with clu := { s.clu with answeredLoad := true } }
  | _ => s

/-! ### Yield (R95, R97) -/

/-- One holder in a yield computation: station, urgency, amount. -/
def precedes (a b : Nat × Nat × Nat) : Bool :=
  a.2.1 < b.2.1 || (a.2.1 == b.2.1 && b.1 < a.1)

/-- Insertion into the order of R95: urgency lowest first, among equals station highest first. -/
def insertYield (x : Nat × Nat × Nat) : List (Nat × Nat × Nat) → List (Nat × Nat × Nat)
  | [] => [x]
  | y :: ys => if precedes y x then y :: insertYield x ys else x :: y :: ys

/-- The candidates in the order of R95. -/
def sortYield : List (Nat × Nat × Nat) → List (Nat × Nat × Nat)
  | [] => []
  | x :: xs => insertYield x (sortYield xs)

/-- Yielders from the front until their amounts reach the excess (R95). -/
def takeYielders (excess : Nat) : List (Nat × Nat × Nat) → List Nat
  | [] => []
  | (n, _, a) :: rest =>
    if excess = 0 then [] else n :: takeYielders (excess - a) rest

/-- The own claim yields where it is among the yielders. -/
def yieldOwn (r : Resource) (yielders : List Nat) (s : State) : State :=
  if yielders.contains (setting s).station then loseOwn r true s else s

/-- The sum of the larger amounts over every entry, own included (R95). -/
def tableSum (r : Resource) (s : State) : Nat := ((entriesOf r s).map (fun e => largerPart e.2.share)).sum

/-- The yielders to a preempting claim of a station (R95). -/
def preemptYielders (r : Resource) (newcomer : Nat) (s : State) : List Nat :=
  takeYielders (tableSum r s - capacityOf r s)
    (sortYield (((entriesOf r s).filter (fun e => e.1 != newcomer && e.2.urgency < 6)).map
      (fun e => (e.1, e.2.urgency, yieldPart e.2.share))))

/-- The HELD entries of a resource with their amounts (R97). -/
def heldEntries (r : Resource) (s : State) : List (Nat × Nat × Nat) :=
  (entriesOf r s).filterMap (fun e =>
    match e.2.share with
    | .held a => some (e.1, e.2.urgency, a)
    | .settling _ _ _ _ => none)

/-- The yielders to a fall of the SUPPLY capacity (R97). -/
def capacityYielders (s : State) : List Nat :=
  takeYielders (((heldEntries .supply s).map (fun e => e.2.2)).sum - s.ptb.capacity)
    (sortYield ((heldEntries .supply s).filter (fun e => e.2.1 < 6)))

/-- The peer table hands a new capacity (R67, R97). -/
def takeCapacity (before : Nat) (s : State) : State :=
  if s.ptb.capacity = before then s
  else
    emit (.reexamine .supply)
      (if s.ptb.capacity < before then yieldOwn .supply (capacityYielders s) s else s)

/-! ### Claims and releases heard (R78 to R80, R94) -/

/-- An entry of a peer is removed, a table change (R80). -/
def removeEntry (r : Resource) (n : Nat) (s : State) : State :=
  match entryAt r n s with
  | none => s
  | some _ => emit (.reexamine r) (setEntry r n none s)

/-- An initial CLAIM enters or raises the entry (R78). -/
def enterInitial (r : Resource) (n a u : Nat) (s : State) : State :=
  let held :=
    match entryAt r n s with
    | some { share := .held h, .. } => some h
    | some { share := .settling _ h _ _, .. } => h
    | none => none
  setEntry r n (some { share := .settling a held (setting s).tSettle (ownSettling r s), urgency := u, age := 0 }) s

/-- The sum of R94: the newcomer at its pending amount, every other entry at the larger of its amounts. -/
def objectionSum (r : Resource) (newcomer : Nat) (s : State) : Nat :=
  ((entriesOf r s).map (fun e => if e.1 = newcomer then yieldPart e.2.share else largerPart e.2.share)).sum

/-- A HELD holder objects with a refresh to a newcomer that does not fit (R94). -/
def object (r : Resource) (newcomer : Nat) (s : State) : State :=
  let c := own r s
  let quietRaise :=
    match c.raise with
    | some x => x.phase == .waiting
    | none => true
  if c.state == .held && quietRaise && !claimQueued r s && decide (capacityOf r s < objectionSum r newcomer s) then
    queueNotice (.claim r true) c.urgency s
  else s

/-- An initial CLAIM heard (R78, R94, R95). -/
def initialHeard (r : Resource) (n a u : Nat) (s : State) : State :=
  let s1 := enterInitial r n a u s
  let s2 := if 6 ≤ u then yieldOwn r (preemptYielders r n s1) s1 else object r n s1
  emit (.reexamine r) s2

/-- A refresh CLAIM heard (R79). -/
def refreshHeard (r : Resource) (n a u : Nat) (s : State) : State :=
  emit (.reexamine r) (setEntry r n (some { share := .held a, urgency := u, age := 0 }) s)

/-- A CLAIM heard; with amount 0 it is a RELEASE (R76, R80). -/
def claimHeard (r : Resource) (refresh : Bool) (n a u : Nat) (s : State) : State :=
  if a = 0 then removeEntry r n s
  else if refresh then refreshHeard r n a u s
  else initialHeard r n a u s

/-! ### Own notices sent (R87, R92) -/

/-- The late flags of the entries of other stations are cleared (R87). -/
def clearLate : Option Holding → Option Holding
  | some { share := .settling p h t _, urgency := u, age := g } => some { share := .settling p h t false, urgency := u, age := g }
  | e => e

/-- A CLAIM of this claim has been sent with an amount at an urgency: the missed count and the refresh time start anew, the own
entry takes the sent urgency (section 5.2), and an initial CLAIM whose claim or raise is still ANNOUNCING settles, the claim at
the sent amount, the raise at its pending amount (R87, log 17). The change of the table is followed by R88 (R77). A CLAIM whose
claim was withdrawn changes nothing. -/
def claimSent (r : Resource) (refresh : Bool) (a u : Nat) (s : State) : State :=
  let c := own r s
  let renewed := { c with missed := 0, refresh := some (setting s).tRefresh, leadDone := false }
  let entry := fun (p : Nat) (h : Option Nat) => some { share := .settling p h (setting s).tSettle false, urgency := u, age := 0 }
  if refresh then
    if c.state = .held then ownEntryUrgency r u (setOwn r renewed s) else s
  else if c.state = .announcing then
    let s1 := setTable r ((claimTable r s).map clearLate)
      (setOwn r { renewed with state := .settling, settle := some (setting s).tSettle } s)
    emit (.reexamine r) (setEntry r (setting s).station (entry a none) s1)
  else if c.state = .held then
    match c.raise with
    | some x =>
      if x.phase = .announcing then
        let s1 := setTable r ((claimTable r s).map clearLate)
          (setOwn r { renewed with raise := some { x with phase := .settling }, settle := some (setting s).tSettle } s)
        emit (.reexamine r) (setEntry r (setting s).station (entry x.pending (some c.held)) s1)
      else ownEntryUrgency r u (setOwn r renewed s)
    | none => ownEntryUrgency r u (setOwn r renewed s)
  else s

/-! ### Settle expiry and refresh of the own claim (R89, R91 to R93) -/

/-- R93: the refresh that waited for the raise to end. -/
def payOwedRefresh (r : Resource) (s : State) : State :=
  let c := own r s
  if c.refreshOwed then queueNotice (.claim r true) c.urgency (setOwn r { c with refreshOwed := false } s) else s

/-- The claim becomes HELD at the settled amount (R89). -/
def grantOwn (r : Resource) (a : Nat) (s : State) : State :=
  let c := own r s
  let s1 := setOwn r { c with state := .held, held := a, raise := none, settle := none } s
  let u := (entryAt r (setting s).station s).elim c.urgency Holding.urgency
  let s2 := setEntry r (setting s).station (some { share := .held a, urgency := u, age := 0 }) s1
  payOwedRefresh r (tellGranted r s2)

/-- The settle timer of the own claim or raise expires (R89, R91). -/
def ownSettleDone (r : Resource) (s : State) : State :=
  let c := own r s
  let a := settlingAmount r s
  if fits r a s ∨ 6 ≤ c.urgency then grantOwn r a s
  else if c.state = .settling then loseOwn r true s
  else withdrawRaise r s

/-- The initial CLAIM of a raise stands under the key, WAITING or on the line, or a refresh is queued: no further refresh is
queued at the lead (R92). -/
def refreshStands (r : Resource) (s : State) : Bool :=
  match entryUnder (.side r) s.lnu.queue with
  | none => false
  | some e =>
    e.item == .claim r true || e.renewed == some (.claim r true) ||
      (isClaim e.item && ((own r s).raise.map Raise.phase) == some .announcing)

/-- T_settle before the refresh time (R92, R93). -/
def refreshLeadReached (r : Resource) (s : State) : State :=
  let c := own r s
  let s1 := setOwn r { c with leadDone := true } s
  if (c.raise.map Raise.phase) = some .settling then setOwn r { c with leadDone := true, refreshOwed := true } s
  else if refreshStands r s then s1
  else queueNotice (.claim r true) c.urgency s1

/-- The refresh time with no CLAIM sent since it was set (R92). -/
def refreshMissed (r : Resource) (s : State) : State :=
  let c := own r s
  if (setting s).allowance < c.missed + 1 then loseOwn r false s
  else setOwn r { c with missed := c.missed + 1, refresh := some (setting s).tRefresh, leadDone := false } s

/-- DUP_STATION releases the own claim of a resource (R100); each RELEASE goes at urgency 5 (log 41). -/
def releaseForDuplicate (r : Resource) (s : State) : State :=
  match (own r s).state with
  | .settling => loseOwn r true s
  | .held => loseOwn r true s
  | .announcing =>
    emit (.reexamine r)
      (queueNotice (.release r) 5 (setOwn r { own r s with state := .waiting } s))
  | _ => s

/-! ### Reconcile (R98) -/

/-- Whether a station's position read dominant; position i stands for station i + 1 (R58). -/
def answered (samples : WindowSamples) (n : Nat) : Bool := samples.toNat.testBit (n - 1)

/-- What a valid HOLD result leaves of an entry. -/
def reconcileEntry (yes : Bool) : Option Holding → Option Holding
  | some { share := .held a, urgency := u, age := g } => if yes then some { share := .held a, urgency := u, age := g } else none
  | e => e

/-- A valid HOLD result: silent HELD entries of other stations go, an unknown holder sets the incomplete flag (R98). -/
def reconcile (r : Resource) (samples : WindowSamples) (s : State) : State :=
  let me := (setting s).station
  let before := claimTable r s
  let after := Vector.ofFn (fun (i : Fin 24) =>
    if i.val + 1 = me then before[i] else reconcileEntry (answered samples (i.val + 1)) before[i])
  let unknown := (List.range 24).any (fun i =>
    i + 1 != me && answered samples (i + 1) && (entryAt r (i + 1) s).isNone)
  let s1 := if after = before then s else emit (.reexamine r) (setTable r after s)
  if unknown then setIncomplete r s1 else s1

end Sys2Proof.Machine
end

