-- ==== Sys2Proof/Machine/FaultUnit.lean ====
section
/-! DEFINITION. The STOP demand (R135 to R141) and the fault unit: entries and departures (R182, R183), acknowledgement (R184), HOLD alarms (R185), safe hold (R187), the trip snapshot (R188). -/

namespace Sys2Proof.Machine

/-! ### The STOP demand -/

/-- Each change of the demand sets the owed flag and queues STOP at the demand's urgency, or at 6 when it has gone off (R135). -/
def announceStop (s : State) : State :=
  queueNotice .stop ((s.ogu.stop.map StopDemand.urgency).getD 6) { s with ogu := { s.ogu with stopOwed := true } }

/-- The demand is set on with a cause: a new demand begins PENDING at 6, or 7 for SPILL; a standing one continues with the
new cause, at 7 for SPILL (R135); in safe hold the cause stays SAFE (R137). -/
def stopOn (cause : StopCause) (s : State) : State :=
  match s.ogu.stop with
  | none =>
    announceStop { s with ogu := { s.ogu with
      stop := some { cause := cause, urgency := if cause = .spill then 7 else 6, escalated := false }
      confirm := .pending } }
  | some d =>
    let cause' := if s.ftu.safeHold then d.cause else cause
    let s1 := { s with ogu := { s.ogu with
      stop := some { d with cause := cause', urgency := if cause = .spill then 7 else d.urgency } } }
    if cause' = d.cause then s1 else announceStop s1

/-- The demand is set off, except in safe hold; confirmation returns to IDLE, its timer stops (R135, R137, R141). The
STOP_UNCONFIRMED condition is made absent by the caller. -/
def stopOff (s : State) : State :=
  if s.ftu.safeHold then s
  else
    match s.ogu.stop with
    | none => s
    | some _ =>
      announceStop { s with ogu := { s.ogu with stop := none, confirm := .idle, confirmTimer := none } }

/-- Safe hold sets the demand on with cause SAFE, at its present urgency where it is on (R137). -/
def stopForSafeHold (s : State) : State :=
  match s.ogu.stop with
  | none => stopOn .safe s
  | some d => announceStop { s with ogu := { s.ogu with stop := some { d with cause := .safe } } }

/-! ### Entries, departures, safe hold -/

/-- The ALARM code of a HOLD fault (section 11.5). -/
def holdAlarm : FaultCode → Option AlarmCode
  | .inletStuck => some .inletStuck
  | .inletLeak => some .inletLeak
  | .stopUnconfirmed => some .stopUnconfirmed
  | _ => none

/-- A HOLD code entering or leaving the set queues its ALARM: 7 for STOP_UNCONFIRMED, 6 for the others (R185). -/
def announceHold (c : FaultCode) (s : State) : State :=
  match holdAlarm c with
  | none => s
  | some a => queueNotice (.alarm a) (if c = .stopUnconfirmed then 7 else 6) s

/-- The record of the station as it stands (R188). -/
def takeSnapshot (s : State) : Snapshot :=
  { lf := s.msu.lf, level := s.msu.level, volume := s.msu.volume, guard := s.ogu.state
    faults := s.ftu.inSet, stageMask := s.ftu.stageMask
    supplyClaim := s.clu.ownSupply.state, loadClaim := s.clu.ownLoad.state
    capacity := s.ptb.capacity, elapsed := s.msu.secondCount, notes := s.ftu.notes }

/-- Safe hold begins: the snapshot is frozen first, TRIP is queued once at urgency 7, the STOP demand goes on with cause
SAFE (R187, R137). The fill controller takes its block cause with the event (R116). -/
def enterSafeHold (s : State) : State :=
  let s1 := { s with ftu := { s.ftu with snapshot := some (takeSnapshot s) } }
  let s2 := queueNotice .trip 7 s1
  stopForSafeHold { s2 with ftu := { s2.ftu with safeHold := true } }

/-- A code enters the fault set (R182): HOLD codes unacknowledged with their ALARM, and safe hold on a second HOLD code (R187). The
ALARM is older than TRIP, and TRIP than the STOP of safe hold (log 50); it is queued before the snapshot is frozen (log 55). -/
def enterFault (c : FaultCode) (s : State) : State :=
  let second := isHold c && anyHold s && !s.ftu.safeHold
  let s1 := { s with ftu := { s.ftu with
    inSet := put s.ftu.inSet (faultIndex c) true
    acked := put s.ftu.acked (faultIndex c) false
    total := satSucc 65535 s.ftu.total } }
  let s2 := announceHold c s1
  if second then enterSafeHold s2 else s2

/-- A code leaves the fault set; a HOLD code queues its ALARM again (R183, R184, R185). -/
def leaveFault (c : FaultCode) (s : State) : State :=
  announceHold c { s with ftu := { s.ftu with
    inSet := put s.ftu.inSet (faultIndex c) false
    acked := put s.ftu.acked (faultIndex c) false
    stageMask := if c = .stageFail then Vector.replicate 4 false else s.ftu.stageMask } }

/-- An owner makes its condition present (R182). -/
def raiseCondition (c : FaultCode) (s : State) : State :=
  if conditionPresent c s then s
  else
    let s1 := { s with ftu := { s.ftu with condition := put s.ftu.condition (faultIndex c) true } }
    if inFaultSet c s then s1 else enterFault c s1

/-- An owner makes its condition absent: a DEGRADE code leaves, a HOLD code leaves when acknowledged (R183, R184). -/
def clearCondition (c : FaultCode) (s : State) : State :=
  if conditionPresent c s then
    let s1 := { s with ftu := { s.ftu with condition := put s.ftu.condition (faultIndex c) false } }
    if inFaultSet c s && (!isHold c || faultAcked c s) then leaveFault c s1 else s1
  else s

/-- A condition follows a test. -/
def setCondition (c : FaultCode) (present : Bool) (s : State) : State :=
  if present then raiseCondition c s else clearCondition c s

/-- The acknowledged flag of a HOLD code in the set is set; without its condition the code leaves (R184). -/
def ackCode (c : FaultCode) (s : State) : State :=
  if inFaultSet c s then
    if conditionPresent c s then
      { s with ftu := { s.ftu with acked := put s.ftu.acked (faultIndex c) true } }
    else leaveFault c s
  else s

/-- An acknowledgement of all HOLD faults (R184). -/
def ackFaults (s : State) : State := holdCodes.foldl (fun t c => ackCode c t) s

/-- A HOLD fault present and not yet acknowledged (R32). -/
def unackedHold (s : State) : Bool := holdCodes.any (fun c => inFaultSet c s && !faultAcked c s)

end Sys2Proof.Machine
end

