-- ==== Sys2Proof/Machine/LatchUnit.lean ====
section
/-! DEFINITION. The alarm latches (R22 to R26), acknowledge (R28 to R31), and the heater stages' channels with their failure reports and return to health (R35, R36, R156, R157). -/

namespace Sys2Proof.Machine

/-! ### Latches -/

/-- The input, or some member, that feeds a latch is ACTIVE (R22, R23). -/
def latchCause (l : Latch) (s : State) : Bool :=
  match l with
  | .ovf => debounced .ovf s
  | .hifl => debounced .hifl s
  | .lofl => debounced .lofl s
  | .door => debounced .door s
  | .frostgrp => allStages.any (fun k => debounced (.fst k) s)
  | .tripgrp => allStages.any (fun k => failureSignal k s)

/-- A latch change: ALARM queued at the latch's urgency, the change rule and the key told (R22, R26). -/
def announceLatch (l : Latch) (s : State) : State :=
  handField .latches (changeSeen (queueNotice (.alarm (.latch l)) (latchUrgency l) s))

/-- An onset: a CLEAR latch sets; a SET one stays as it is (R22, R23). -/
def setLatch (l : Latch) (s : State) : State :=
  if latchSet l s then s
  else announceLatch l { s with ilu := { s.ilu with latch := put s.ilu.latch (latchIndex l) true } }

/-- A latch clears, its acknowledge-taken flag with it (R24, R25). -/
def clearLatch (l : Latch) (s : State) : State :=
  announceLatch l { s with ilu := { s.ilu with
    latch := put s.ilu.latch (latchIndex l) false
    ackTaken := put s.ilu.ackTaken (latchIndex l) false } }

/-- An acknowledge reaches a latch, which acts by its mode (R24, R25). -/
def ackLatch (l : Latch) (s : State) : State :=
  if latchSet l s then
    if edgeLevel l s && latchCause l s then
      { s with ilu := { s.ilu with ackTaken := put s.ilu.ackTaken (latchIndex l) true } }
    else clearLatch l s
  else s

/-- The cause of an EDGE+LEVEL latch has ended: it clears if an acknowledge has been taken (R25). -/
def causeEnded (l : Latch) (s : State) : State :=
  if latchSet l s && edgeLevel l s && ackTaken l s && !latchCause l s then clearLatch l s else s

/-- A single-input latch takes the settle of its input (R22, R25). -/
def singleSettle (l : Latch) (now : Bool) (s : State) : State :=
  if now then setLatch l s else causeEnded l s

/-- A member of FROSTGRP settles (R23). -/
def frostMember (now : Bool) (s : State) : State :=
  if now then
    let quiet := s.ilu.frostQuiet
    let s1 := { s with ilu := { s.ilu with frostQuiet := false } }
    if quiet then setLatch .frostgrp s1 else s1
  else if latchCause .frostgrp s then s
  else causeEnded .frostgrp { s with ilu := { s.ilu with frostQuiet := true } }

/-- A failure signal becomes ACTIVE (R23, R36). -/
def tripMemberActive (s : State) : State :=
  let quiet := s.ilu.tripQuiet
  let s1 := { s with ilu := { s.ilu with tripQuiet := false } }
  if quiet then setLatch .tripgrp s1 else s1

/-- Failure signals have become INACTIVE (R23, R36). -/
def tripMembersInactive (s : State) : State :=
  if latchCause .tripgrp s then s
  else causeEnded .tripgrp { s with ilu := { s.ilu with tripQuiet := true } }

/-! ### Stage failures (R36, R156) -/

/-- The failed-stage set changes; while STAGE_FAIL stands, the fault unit's mask follows (R156, R183). -/
def setFailed (v : Vector Bool 4) (s : State) : State :=
  { s with
    frc := { s.frc with failed := v }
    ftu := { s.ftu with stageMask := v } }

/-- A failure report: the channel is FAILED with its relay released, its failure signal goes ACTIVE, the stage enters the
failed-stage set, STAGE_FAIL is present, its command is OFF, and the frost controller evaluates (R35, R36, R156). -/
def failStage (k : Fin 4) (s : State) : State :=
  let s1 := setStage k { command := false, state := .failed, timer := none } s
  let s2 := tripMemberActive s1
  let s3 := raiseCondition .stageFail (setFailed (put s2.frc.failed k true) s2)
  emit .frostEvaluate s3

/-- A channel moves on; the change is an evaluation (R150). -/
def moveStage (k : Fin 4) (x : Stage) (s : State) : State := emit .frostEvaluate (setStage k x s)

/-- HFBk, debounced. -/
def feedback (k : Fin 4) (s : State) : Bool := debounced (.hfb k) s

/-- Command to ON or OFF (R35). -/
def commandStage (k : Fin 4) (on : Bool) (s : State) : State :=
  let x := stageAt k s
  if x.command = on then s
  else if on then
    match x.state with
    | .off => moveStage k { command := true, state := .proving, timer := some (setting s).proofTime } s
    | .dropping => moveStage k { command := true, state := .proving, timer := some (setting s).proofTime } s
    | _ => setStage k { x with command := true } s
  else
    match x.state with
    | .proving =>
      if feedback k s then moveStage k { command := false, state := .dropping, timer := some (setting s).proofTime } s
      else moveStage k { command := false, state := .off, timer := none } s
    | .on => moveStage k { command := false, state := .dropping, timer := some (setting s).proofTime } s
    | _ => setStage k { x with command := false } s

/-- HFBk settles (R35). -/
def feedbackSettles (k : Fin 4) (now : Bool) (s : State) : State :=
  if stagePresent k s then
    let x := stageAt k s
    match x.state with
    | .off => if now then failStage k s else s
    | .on => if now then s else failStage k s
    | .dropping => if now then s else moveStage k { x with state := .off, timer := none } s
    | _ => s
  else s

/-- A proof or drop timer expires (R35). -/
def proofExpires (k : Fin 4) (s : State) : State :=
  let x := stageAt k s
  match x.state with
  | .proving => if feedback k s then moveStage k { x with state := .on, timer := none } s else failStage k s
  | .dropping => if feedback k s then failStage k s else moveStage k { x with state := .off, timer := none } s
  | _ => s

/-- A FAILED channel goes back to OFF (R35). -/
def restoreStage (k : Fin 4) (s : State) : State :=
  if failureSignal k s then moveStage k { command := false, state := .off, timer := none } s else s

/-- The stage health event (R31, R157): the set empties, STAGE_FAIL ends, the channels go to OFF and their signals INACTIVE;
then a channel whose HFBk is ACTIVE fails again (R35, log 20). -/
def stageHealth (s : State) : State :=
  if anySet s.frc.failed then
    let was := s.frc.failed
    let s1 := clearCondition .stageFail (setFailed (Vector.replicate 4 false) s)
    let s2 := allStages.foldl (fun t k => restoreStage k t) s1
    let s3 := tripMembersInactive s2
    let s4 := allStages.foldl (fun t k => if was[k] && feedback k t then failStage k t else t) s3
    emit .frostEvaluate s4
  else s

/-! ### Acknowledge (R28, R29, R31) -/

/-- An acknowledge reaches the latches it names, in the order of the ALARM codes (log 39); reaching TRIPGRP is a stage health
event (R28, R31). -/
def ackLatches (ls : List Latch) (s : State) : State :=
  let s1 := ls.foldl (fun t l => ackLatch l t) s
  if ls.contains .tripgrp then stageHealth s1 else s1

/-! ### The ALARM roll-call answer (R32) -/

/-- SET and unacknowledged: in EDGE mode while SET, in EDGE+LEVEL mode while the flag is clear. -/
def latchUnacked (l : Latch) (s : State) : Bool := latchSet l s && !(edgeLevel l s && ackTaken l s)

/-- The answer to ROLLCALL(ALARM, u). -/
def alarmAnswer (u : Nat) (s : State) : Bool :=
  allLatches.any (fun l => latchUnacked l s && decide (u ≤ latchUrgency l)) || (unackedHold s && decide (u ≤ 6))

end Sys2Proof.Machine
end

