-- ==== Sys2Proof/Machine/GuardUnit.lean ====
section
/-! DEFINITION. The overflow guard: its states (R127 to R134), the confirmation of a STOP (R138 to R141), the float cross-check (R142, R143) and its minute mark (R130, R136). -/

namespace Sys2Proof.Machine

/-- The guard state changes: the key and the change rule are told (R127); the fill controller and the alarm relay follow in
the same event. -/
def setGuard (g : GuardState) (s : State) : State :=
  handField .guard (changeSeen { s with ogu := { s.ogu with state := g } })

/-- The demand ends, except in safe hold; a standing STOP_UNCONFIRMED condition becomes absent (R135, R141). -/
def endDemand (s : State) : State :=
  if s.ftu.safeHold then s
  else if s.ogu.stop.isSome then clearCondition .stopUnconfirmed (stopOff s)
  else s

/-- ALARM(SPILL) is owed and queued at urgency 7 (R132, R133). -/
def announceSpill (s : State) : State :=
  queueNotice (.alarm .spill) 7 { s with ogu := { s.ogu with spillOwed := true } }

/-- Entry to SPILL from any state; the hold record stays (R132). STOP is older than ALARM(SPILL) (log 50). -/
def enterSpill (s : State) : State :=
  announceSpill (stopOn .spill (setGuard .spill { s with ogu := { s.ogu with stroke := none, baseline := none } }))

/-- Entry to CUT starts the stroke timer (R129). -/
def enterCut (s : State) : State :=
  setGuard .cut { s with ogu := { s.ogu with stroke := some (setting s).strokeTime } }

/-- Entry to SHUT sets the leak baseline; a stroke timer stops (R129, R130). -/
def enterShut (s : State) : State :=
  setGuard .shut { s with ogu := { s.ogu with stroke := none, baseline := some s.msu.lf } }

/-- SHUT is left for WATCH; the baseline is removed (R130). -/
def shutToWatch (s : State) : State :=
  setGuard .watch { s with ogu := { s.ogu with baseline := none } }

/-- The HOLD fault of the hold record. -/
def holdFault : HoldRecord → Option FaultCode
  | .none => none
  | .stuck => some .inletStuck
  | .leak => some .inletLeak

/-- The HOLD fault of the hold record stands acknowledged (R131). -/
def holdAcked (s : State) : Bool :=
  match holdFault s.ogu.hold with
  | none => false
  | some c => inFaultSet c s && faultAcked c s

/-- STUCK or LEAK is left for WATCH: hold record NONE, its condition absent, the demand off except in safe hold (R131). The ALARM of
the fault is older than STOP (log 50). -/
def holdToWatch (s : State) : State :=
  let hold := s.ogu.hold
  let s1 := setGuard .watch { s with ogu := { s.ogu with hold := .none } }
  let s2 :=
    match holdFault hold with
    | none => s1
    | some c => clearCondition c s1
  endDemand s2

/-- The demand's urgency returns to 6 on the departure from SPILL unless escalated; in safe hold it stays (R133, R137). -/
def calmUrgency (s : State) : State :=
  if s.ftu.safeHold then s
  else
    match s.ogu.stop with
    | none => s
    | some d => if d.escalated then s else { s with ogu := { s.ogu with stop := some { d with urgency := 6 } } }

/-- SPILL is left: its ALARM is queued again, then hold record and position direct (R133), so that it is older than a STOP (log 50). -/
def leaveSpill (s : State) : State :=
  let s1 := announceSpill s
  match s.ogu.hold with
  | .stuck => stopOn .stuck (calmUrgency (setGuard .stuck s1))
  | .leak => stopOn .leak (calmUrgency (setGuard .leak s1))
  | .none => if s.odu.position = .closed then endDemand (enterShut s1) else calmUrgency (enterCut s1)

/-- The conditions of R132 for entering SPILL. -/
def spillCalled (ovfOnset : Bool) (s : State) : Bool :=
  ovfOnset || (levelValid s && decide ((setting s).hOvf ≤ s.msu.lf))

/-- The conditions of R128 for leaving WATCH. -/
def topReached (s : State) : Bool :=
  (levelValid s && decide ((setting s).hHi ≤ s.msu.lf)) || debounced .hifl s || latchSet .hifl s

/-- The refill test of R130 and R131. -/
def belowRefill (s : State) : Bool := levelValid s && decide (s.msu.lf ≤ refillLevel s)

/-- One departure, where its conditions hold (R128 to R133); none where they do not. -/
def guardMove (ovfOnset : Bool) (s : State) : Option State :=
  if s.ogu.state != .spill && spillCalled ovfOnset s then some (enterSpill s)
  else
    match s.ogu.state with
    | .watch =>
      if topReached s then some (if s.odu.position = .closed then enterShut s else enterCut s) else none
    | .cut => if s.odu.position = .closed then some (endDemand (enterShut s)) else none
    | .shut =>
      if belowRefill s && !debounced .hifl s && !latchSet .hifl s then some (shutToWatch s) else none
    | .stuck => if belowRefill s && s.odu.position == .closed && holdAcked s then some (holdToWatch s) else none
    | .leak => if belowRefill s && s.odu.position == .closed && holdAcked s then some (holdToWatch s) else none
    | .spill =>
      if !latchSet .ovf s && !debounced .ovf s && levelValid s && decide (s.msu.lf < refillLevel s) then
        some (leaveSpill s)
      else none

/-- States whose departure conditions hold on entry are passed through (R127, log 19). -/
def guardPass : Nat → State → State
  | 0, s => s
  | n + 1, s =>
    match guardMove false s with
    | none => s
    | some t => guardPass n t

/-- The guard examines its state; an OVF latch that has just set is told apart (R132). -/
def guardExamine (ovfOnset : Bool) (s : State) : State :=
  match guardMove ovfOnset s with
  | none => s
  | some t => guardPass Config.guardPassBound t

/-- On a sample-taken event the baseline is lowered in SHUT while the level is valid, then the state is examined (R130, R134). -/
def guardSample (s : State) : State :=
  let s1 :=
    match s.ogu.baseline with
    | some b =>
      if s.ogu.state == .shut && levelValid s && decide (s.msu.lf < b) then
        { s with ogu := { s.ogu with baseline := some s.msu.lf } }
      else s
    | none => s
  guardExamine false s1

/-- The stroke timer expires in CUT with the valve not CLOSED (R129). STOP is queued before the ALARM of the fault, as section 7.8
sends it first (log 44). -/
def strokeExpires (s : State) : State :=
  let s1 := setGuard .stuck { s with ogu := { s.ogu with stroke := none, hold := .stuck } }
  guardPass Config.guardPassBound (raiseCondition .inletStuck (stopOn .stuck s1))

/-- The leak comparison of a fresh minute mark in SHUT (R130); STOP before the ALARM of the fault, as in `strokeExpires` (log 44). -/
def leakCheck (s : State) : State :=
  match s.ogu.baseline with
  | some b =>
    if s.ogu.state == .shut && !s.msu.stale && decide ((setting s).leakThreshold ≤ s.msu.lm - b) then
      let s1 := setGuard .leak { s with ogu := { s.ogu with baseline := none, hold := .leak } }
      guardPass Config.guardPassBound (raiseCondition .inletLeak (stopOn .leak s1))
    else s
  | none => s

/-- A fresh minute mark's float disagrees with L_m (R142). -/
def floatDisagrees (s : State) : Bool :=
  (decide ((setting s).floatHeight + (setting s).floatTolerance ≤ s.msu.lm) && !debounced .hifl s) ||
  (decide (s.msu.lm < (setting s).floatHeight - (setting s).floatTolerance) && debounced .hifl s)

/-- The float cross-check of a minute mark (R142, R143). -/
def floatCheck (s : State) : State :=
  if s.msu.stale then s
  else if floatDisagrees s then
    let n := satSucc 3 s.ogu.floatCount
    let s1 := { s with ogu := { s.ogu with floatCount := n } }
    if (setting s).floatAllowance < n then raiseCondition .floatDisagree s1 else s1
  else clearCondition .floatDisagree { s with ogu := { s.ogu with floatCount := 0 } }

/-- A STOP or an ALARM(SPILL) still owed and not queued is queued again at a minute mark (R136); a STOP(off), whose demand has no
urgency, at 6, as R135 queues it first (log 45). STOP is older than ALARM(SPILL) (log 50). -/
def reofferOwed (s : State) : State :=
  let s1 :=
    if s.ogu.stopOwed && (entryUnder .stop s.lnu.queue).isNone then
      queueNotice .stop ((s.ogu.stop.map StopDemand.urgency).getD 6) s
    else s
  if s1.ogu.spillOwed && (entryUnder (.alarm .spill) s1.lnu.queue).isNone then queueNotice (.alarm .spill) 7 s1 else s1

/-- The guard's work at a minute mark. -/
def guardMinute (s : State) : State := reofferOwed (floatCheck (leakCheck s))

/-! ### Confirmation -/

/-- A HEARD supply record confirms: it lists this station and shows no pumps running (R139). -/
def supplyConfirms (me : Nat) (p : Peer) : Bool :=
  match p.supply with
  | none => false
  | some x => x.honoured.contains me && x.pumps == 0

/-- The records of role SUPPLY that are HEARD. -/
def supplyHeard (s : State) : List Peer :=
  s.ptb.records.toList.filter (fun p => p.state == .heard && p.role == some .supply)

/-- The demand is confirmed (R139). -/
def demandConfirmed (s : State) : Bool :=
  !(supplyHeard s).isEmpty && (supplyHeard s).all (supplyConfirms (setting s).station)

/-- The guard examines confirmation (R139, R140). -/
def examineConfirmation (s : State) : State :=
  if demandConfirmed s then
    match s.ogu.confirm with
    | .waiting => { s with ogu := { s.ogu with confirm := .confirmed, confirmTimer := none } }
    | .unconfirmed => clearCondition .stopUnconfirmed s
    | _ => s
  else s

/-- A STOP with a body has been sent (R136, R138). -/
def stopSent (on : Bool) (cause : Nat) (s : State) : State :=
  let stands :=
    match s.ogu.stop with
    | none => !on
    | some d => on && causeCode d.cause == cause
  let s1 := if stands then { s with ogu := { s.ogu with stopOwed := false } } else s
  if on && s1.ogu.confirm == .pending then
    examineConfirmation { s1 with ogu := { s1.ogu with confirm := .waiting, confirmTimer := some (setting s).confirmTime } }
  else s1

/-- An ALARM(SPILL) with a body has been sent (R136). -/
def spillAlarmSent (set : Bool) (s : State) : State :=
  if set == (s.ogu.state == .spill) then { s with ogu := { s.ogu with spillOwed := false } } else s

/-- The confirm timer expires unconfirmed: the demand escalates, STOP is queued at 7, STOP_UNCONFIRMED is present
(R140, log 36). -/
def confirmExpires (s : State) : State :=
  let s1 := { s with ogu := { s.ogu with
    confirm := .unconfirmed, confirmTimer := none
    stop := s.ogu.stop.map (fun d => { d with urgency := 7, escalated := true }) } }
  raiseCondition .stopUnconfirmed (queueNotice .stop 7 s1)

end Sys2Proof.Machine
end

