-- ==== Sys2Proof/Machine/FillUnit.lean ====
section
/-! DEFINITION. The fill controller: plan (R103 to R106), fill states (R107 to R117), inlet open failure (R118, R119), orders (R120), learned inflow (R121, R122) and the tariff period (R73 to R75, R111). -/

namespace Sys2Proof.Machine

/-! ### The plan -/

/-- The strap volume at a height, a height below 0 taken as 0 (R104). -/
def volumeAt (h : Int) (s : State) : Int := strapVolume (setting s).strap (max 0 h)

/-- V_ceil (R104). -/
def planCeiling (s : State) : Int := volumeAt ((setting s).hHi - (setting s).hHys) s

/-- V_tgt: the selected target within the ceiling, and within the float's height while FLOAT_DISAGREE stands (R104). -/
def planTarget (s : State) : Int :=
  let wanted := (setting s).targets.toList[(ordersNow s).target]?.getD 0
  let capped := min wanted (planCeiling s)
  if inFaultSet .floatDisagree s then
    min capped (volumeAt ((setting s).floatHeight - (setting s).floatTolerance) s)
  else capped

/-- V_p: V_m while the record is fresh, V while it is stale (R103). -/
def planVolume (s : State) : Int := if s.msu.stale then s.msu.volume else s.msu.vm

/-- The claim urgency for a slack (R106). -/
def slackUrgency (slack : Int) : Nat := if slack ≤ 0 then 4 else if slack ≤ 60 then 3 else 2

/-- The plan as the state stands (R104 to R106). -/
def computePlan (s : State) : Plan :=
  let n := planTarget s - planVolume s
  let qNet := s.flc.qEst.getD 0 - (setting s).draw
  let base : Plan :=
    { vCeil := planCeiling s, vTgt := planTarget s, need := false, n := n, qNet := qNet
      cannotFill := false, tReq := none, slack := 9999, urgency := slackUrgency 9999 }
  if n ≤ 0 then base
  else if qNet ≤ 0 then
    { base with need := true, cannotFill := true, slack := -9999, urgency := slackUrgency (-9999) }
  else
    let tReq := ceilDiv n qNet
    let slack := clampTo (-9999) 9999 (tRem s - tReq)
    { base with need := true, tReq := some tReq, slack := slack, urgency := slackUrgency slack }

/-! ### Entering a fill state (R107) -/

/-- CLAIM or FILL with reason TARIFF or TURNOVER: a state in which the own SUPPLY claim stands asked. -/
def holdsRequest : FillState → Bool
  | .claim _ => true
  | .fill .tariff => true
  | .fill .turnover => true
  | _ => false

def isFill : FillState → Bool
  | .fill _ => true
  | _ => false

/-- The urgency at which a claim is asked (R107). -/
def claimAskUrgency (why : ClaimReason) (s : State) : Nat :=
  match why with
  | .tariff => s.flc.plan.urgency
  | .turnover => 3

/-- The open timer on a change of fill state (R118). -/
def openTimerFor (old new : FillState) (s : State) : Option Nat :=
  if isFill new then
    if isFill old then s.flc.openTimer
    else if s.odu.position = .opened then none else some (setting s).strokeTime
  else none

/-- The turnover start level on a change of fill state (R109, R113). -/
def startLevelFor (new : FillState) (s : State) : Option Int :=
  match new with
  | .fill .turnover => some s.msu.lf
  | .claim .turnover => s.flc.turnoverStart
  | _ => none

/-- The fill state and what moves with it inside the controller; the change rule is told (R107, R118, R121). -/
def moveFill (new : FillState) (s : State) : State :=
  changeSeen { s with flc := { s.flc with
    state := new
    openRequest := isFill new
    openTimer := openTimerFor s.flc.state new s
    learning := s.flc.learning && isFill new
    turnoverStart := startLevelFor new s } }

/-- Entering a fill state: the claim and the open request agree with the table of section 6.3 (R107). -/
def setFill (new : FillState) (s : State) : State :=
  let old := s.flc.state
  if old = new then s
  else
    let s1 := moveFill new s
    match new with
    | .claim why => if holdsRequest old then s1 else askOwn .supply 1 (claimAskUrgency why s) s1
    | .fill .tariff => s1
    | .fill .turnover => s1
    | _ => if holdsRequest old then withdrawOwn .supply s1 else s1

/-! ### Blocking (R116, R117) -/

def noCause (c : BlockCauses) : Bool :=
  !c.guard && !c.maint && !c.level && !c.safeHold && !c.inlet && !c.notJoined

def onlyNotJoined (c : BlockCauses) : Bool :=
  !c.guard && !c.maint && !c.level && !c.safeHold && !c.inlet && c.notJoined

/-- The state a fill that ends goes to (R115, R117). -/
def afterFill (s : State) : FillState := if noCause s.flc.causes then .rest else .blocked

/-- The causes as their owners now stand (R116). -/
def causesNow (s : State) : BlockCauses :=
  { guard := s.ogu.state != .watch
    maint := debounced .maint s
    level := !levelValid s
    safeHold := s.ftu.safeHold
    inlet := conditionPresent .inletNoOpen s
    notJoined := s.sld.mode != .joined }

/-! ### Transitions of a plan computation (R108, R110, R114) -/

/-- The relief conditions (R114). -/
def reliefHolds (s : State) : Bool :=
  (ordersNow s).relief && s.ptb.anySpill &&
  decide (s.msu.lf ≤ refillLevel s - (setting s).reliefMargin) && s.ogu.state == .watch

/-- A relief fill begins from REST or WAIT, or from BLOCKED while not joined is the only cause (R114), which computes no plan of its
own (log 47). -/
def reliefStart (s : State) : State :=
  match s.flc.state with
  | .rest => if reliefHolds s then setFill (.fill .relief) s else s
  | .wait => if reliefHolds s then setFill (.fill .relief) s else s
  | .blocked => if onlyNotJoined s.flc.causes && reliefHolds s then setFill (.fill .relief) s else s
  | _ => s

/-- A relief fill ends when a relief condition no longer holds (R115). -/
def reliefEnd (s : State) : State :=
  if s.flc.state = .fill .relief ∧ reliefHolds s = false then setFill (afterFill s) s else s

/-- Room in the tank for a whole turnover (R108 row 3). -/
def turnoverRoom (s : State) : Bool := decide (s.msu.lf ≤ refillLevel s - (setting s).turnoverAmount)

/-- The first row of the table of R108 whose conditions hold. -/
def restRow (s : State) : FillState :=
  if reliefHolds s then .fill .relief
  else if s.flc.night && s.flc.plan.need && decide (s.flc.plan.slack ≤ (setting s).tDefer) then .claim .tariff
  else if s.frc.turnoverRequest && (ordersNow s).turnover && turnoverRoom s then .claim .turnover
  else if s.flc.night && s.flc.plan.need then .wait
  else .rest

/-- V has reached the target of the last plan computation (R110). -/
def targetReached (s : State) : Bool := decide (s.flc.plan.vTgt ≤ s.msu.volume)

/-- The plan-time transitions (R108). -/
def planStep (s : State) : State :=
  match s.flc.state with
  | .rest => setFill (restRow s) s
  | .wait => setFill (restRow s) s
  | .claim .tariff => if !s.flc.plan.need || targetReached s then setFill .rest s else s
  | .claim .turnover =>
    if s.frc.turnoverRequest && (ordersNow s).turnover then s else setFill .rest s
  | .fill .tariff => if targetReached s then setFill .rest s else s
  | .fill .turnover => s
  | .fill .relief => s
  | .blocked => reliefStart s

/-- A new plan urgency goes to the claim unit while the claim is a TARIFF claim (R107). -/
def handUrgency (s : State) : State :=
  match s.flc.state with
  | .claim .tariff => changeUrgency .supply s.flc.plan.urgency s
  | .fill .tariff => changeUrgency .supply s.flc.plan.urgency s
  | _ => s

/-- The plan is computed; its slack is handed on except for an orders change (R103, R106). -/
def replan (handsSlack : Bool) (s : State) : State :=
  let p := computePlan s
  let s1 := { s with flc := { s.flc with plan := p } }
  if handsSlack then emit (.slack p.slack) s1 else s1

/-- A plan computation with its transitions (R103, R108). -/
def planAndStep (handsSlack : Bool) (s : State) : State := planStep (handUrgency (replan handsSlack s))

/-- The set of causes is brought up to date: a new cause blocks, the last one to leave gives REST and a plan (R116, R117). -/
def takeCauses (s : State) : State :=
  let c := causesNow s
  let s1 := { s with flc := { s.flc with causes := c } }
  if noCause c then
    if s.flc.state = .blocked then planAndStep true (setFill .rest s1) else s1
  else
    if s.flc.state = .fill .relief ∧ onlyNotJoined c = true then s1
    else setFill .blocked s1

/-- The fill controller follows a change of the guard, of MAINT, of the level, of safe hold, of its own condition or of the
mode (R115, R116). Of the guard's states it takes the one at which the guard has come to rest (log 49). -/
def fillFollows (s : State) : State := if active s then reliefEnd (takeCauses s) else s

/-! ### What the claim unit tells (R109) -/

/-- GRANTED in CLAIM makes it FILL with the same reason. -/
def fillGranted (s : State) : State :=
  match s.flc.state with
  | .claim .tariff => setFill (.fill .tariff) s
  | .claim .turnover => setFill (.fill .turnover) s
  | _ => s

/-- LOST in FILL makes it CLAIM with the same reason, the request standing. -/
def fillLost (s : State) : State :=
  match s.flc.state with
  | .fill .tariff => setFill (.claim .tariff) s
  | .fill .turnover => setFill (.claim .turnover) s
  | _ => s

/-! ### Turnover and sample (R110, R112, R113) -/

/-- The turnover request is withdrawn: a TURNOVER claim or fill ends (R112, R161). -/
def withdrawTurnover (s : State) : State :=
  if s.frc.turnoverRequest then
    let s1 := { s with frc := { s.frc with turnoverRequest := false } }
    match s1.flc.state with
    | .claim .turnover => setFill .rest s1
    | .fill .turnover => setFill .rest s1
    | _ => s1
  else s

/-- The turnover rise is done (R113). -/
def riseDone (s : State) : Bool :=
  match s.flc.turnoverStart with
  | some l => decide (l + (setting s).turnoverAmount ≤ s.msu.lf) || decide (refillLevel s ≤ s.msu.lf)
  | none => decide (refillLevel s ≤ s.msu.lf)

/-- The fill controller's work on a sample-taken event (R110, R113, R115, R116). -/
def fillSample (s : State) : State :=
  let s1 := takeCauses s
  match s1.flc.state with
  | .claim .tariff => if targetReached s1 then setFill .rest s1 else s1
  | .fill .tariff => if targetReached s1 then setFill .rest s1 else s1
  | .fill .turnover => if riseDone s1 then withdrawTurnover (setFill .rest s1) else s1
  | .fill .relief => reliefEnd s1
  | _ => s1

/-! ### Position and inlet failure (R118, R119, R121) -/

/-- A position change reaches the fill controller. -/
def fillPosition (old new : Position) (s : State) : State :=
  if new = .opened then
    let s1 := { s with flc := { s.flc with openTimer := none } }
    if conditionPresent .inletNoOpen s1 then
      fillFollows (clearCondition .inletNoOpen { s1 with flc := { s1.flc with clearing := none } })
    else s1
  else if old = .opened then
    { s with flc := { s.flc with
      learning := false
      openTimer := if isFill s.flc.state then some (setting s).strokeTime else s.flc.openTimer } }
  else s

/-- The open timer expires: INLET_NO_OPEN is present, its clearing timer starts, the fill blocks (R118, R119). -/
def openExpires (s : State) : State :=
  fillFollows (raiseCondition .inletNoOpen { s with flc := { s.flc with openTimer := none, clearing := some 0 } })

/-- The clearing timer reaches 900 s (R119). -/
def clearingExpires (s : State) : State :=
  fillFollows (clearCondition .inletNoOpen { s with flc := { s.flc with clearing := none } })

/-! ### Orders (R120, R173) -/

/-- The permits of the orders end what they no longer allow. -/
def applyPermits (s : State) : State :=
  let s1 :=
    if s.flc.state = .fill .turnover ∧ (ordersNow s).turnover = false then setFill .rest s else s
  reliefEnd s1

/-- The fill controller takes an orders change: a plan whose slack is not handed on, and each field at once. A fill that the
permits end stands in REST or BLOCKED before the plan, so that the plan's transitions apply to it (log 43). -/
def fillOrders (s : State) : State := planAndStep false (applyPermits s)

/-! ### Learned inflow (R121, R122) -/

/-- The conditions under which a minute is learned from. -/
def learnable (s : State) : Bool :=
  (s.flc.state == .fill .tariff || s.flc.state == .fill .turnover) && s.odu.position == .opened && !s.msu.stale

/-- q_est after a learned minute (R122). -/
def learnedInflow (q dv : Int) (x : Settings) : Int := clampTo x.qMin x.qMax (q + floorDiv (dv + x.draw - q) 4)

/-- The learning step of a minute mark, then the flag for the minute that begins. -/
def learnStep (s : State) : State :=
  let q :=
    if s.flc.learning && learnable s then s.flc.qEst.map (fun q => learnedInflow q s.msu.dv (setting s)) else s.flc.qEst
  { s with flc := { s.flc with qEst := q, learning := learnable s } }

/-! ### The tariff period (R73 to R75, R111) -/

/-- The period changes: the key is told, and from NIGHT to DAY the shortfall is recorded with the plan as it stood (R111). -/
def setPeriod (night : Bool) (elapsed : Nat) (s : State) : State :=
  if s.flc.night = night then { s with flc := { s.flc with elapsed := elapsed } }
  else
    let short := if s.flc.night then max 0 (s.flc.plan.vTgt - s.msu.volume) else s.flc.shortfall
    handField .night { s with flc := { s.flc with night := night, elapsed := elapsed, shortfall := short } }

/-- DAY ends waiting, claiming and filling for the tariff (R111). -/
def dayEndsTariff (s : State) : State :=
  match s.flc.state with
  | .wait => setFill .rest s
  | .claim .tariff => setFill .rest s
  | .fill .tariff => setFill .rest s
  | _ => s

/-- A tariff change: one plan computation with what the period ends, then its transitions, to which what has just ended in REST is
open (R103, R111, log 48). -/
def tariffChange (s : State) : State :=
  let s1 := replan true s
  planStep (handUrgency (if s1.flc.night then s1 else dayEndsTariff s1))

/-- The period and elapsed are set; a change of the period is a tariff change, a mere reset of elapsed is none (R75). -/
def takePeriod (night : Bool) (elapsed : Nat) (s : State) : State :=
  if s.flc.night = night then setPeriod night elapsed s else tariffChange (setPeriod night elapsed s)

/-- A source's contact settles (R73). What the change of the period queues is older than this TARIFF (log 40). -/
def tariffContact (now : Bool) (s : State) : State :=
  if (setting s).tariffSource then queueNotice .tariff 5 (takePeriod now 0 s) else s

/-- A TARIFF heard at a station that is no source (R74). -/
def tariffHeard (night : Bool) (elapsed : Nat) (s : State) : State :=
  if (setting s).tariffSource then s
  else takePeriod night (if night then elapsed else 0) { s with flc := { s.flc with silence := 0 } }

/-- NIGHT, with elapsed at the window or past it and the source silent for 15 minutes (R74). -/
def nightIsOver (s : State) : Bool :=
  s.flc.night && decide ((setting s).window ≤ s.flc.elapsed) && decide (15 ≤ s.flc.silence)

/-- The tariff count of a minute mark: elapsed and silence, and a source's repeat every tenth minute (R73, R74). -/
def tariffCount (s : State) : State :=
  let e := if s.flc.night then satSucc 65535 s.flc.elapsed else s.flc.elapsed
  if (setting s).tariffSource then
    let s1 := { s with flc := { s.flc with elapsed := e } }
    if s.flc.night && e % 10 == 0 then queueNotice .tariff 5 s1 else s1
  else
    let s1 := { s with flc := { s.flc with elapsed := e, silence := satSucc 255 s.flc.silence } }
    { s1 with flc := { s1.flc with nightTimeoutDue := nightIsOver s1 } }

/-- The fill controller's work at a minute mark, in its order: count, learning, plan, transitions (R103). Where the count ends
the night, the plan is that of TARIFF_NIGHT_TIMEOUT (log 5). -/
def fillMinute (s : State) : State :=
  let s1 := learnStep (tariffCount s)
  if s1.flc.nightTimeoutDue then s1 else planAndStep true s1

/-- The night ends at a minute mark (R74), with the one plan computation of that mark (R103); where a TARIFF heard since the
mark's count has ended or renewed the night, the mark's plan is computed (log 5). -/
def nightTimesOut (s : State) : State :=
  let s1 := { s with flc := { s.flc with nightTimeoutDue := false } }
  if nightIsOver s1 then takePeriod false 0 s1 else planAndStep true s1

end Sys2Proof.Machine
end

