-- ==== Sys2Proof/Machine/FrostUnit.lean ====
section
/-! DEFINITION. The frost controller: air, criticality and frost state (R146 to R148), wishes and selection (R149, R150), claim (R151), drops and energising (R153, R154), the starved flag (R155), stagnation (R159 to R161). -/

namespace Sys2Proof.Machine

/-! ### Air and criticality -/

/-- The air state after a sample (R146). -/
def airAfter (s : State) : Bool :=
  match s.msu.ta.state with
  | .unread => s.frc.airWatch
  | .held => true
  | .good =>
    if s.frc.airWatch then decide (s.msu.ta.value < (setting s).tAirOn + 20)
    else decide (s.msu.ta.value ≤ (setting s).tAirOn)

/-- The critical flag as judged now (R147). -/
def criticalAfter (s : State) : Bool :=
  let tr := s.msu.tr
  if latchSet .frostgrp s || (tr.state == .good && decide (tr.value ≤ (setting s).tCrit)) then true
  else
    match tr.state with
    | .good => if (setting s).tCrit + 10 ≤ tr.value then false else s.frc.critical
    | .held => if latchCause .frostgrp s then s.frc.critical else false
    | .unread => s.frc.critical

/-- Whether the stage wishes are examined (R148). -/
def wishesExamined (s : State) : Bool := s.frc.airWatch || s.frc.critical

/-- A stage's wish after a sample with a valid riser temperature (R149). -/
def wishAfter (k : Fin 4) (s : State) : Bool :=
  let t := (setting s).theta[k]
  if s.msu.tr.value ≤ t then true
  else if t + (setting s).hysteresis ≤ s.msu.tr.value then false
  else s.frc.wishes[k]

/-- The wishes on a sample-taken event (R149). Where TR becomes valid on the very sample from which the wishes are examined again, each
starts from unwanted, as R148 left it (log 51). -/
def sampleWishes (s : State) : State :=
  if wishesExamined s && s.msu.tr.state == .good then
    { s with frc := { s.frc with wishes := Vector.ofFn (fun k => stagePresent k s && wishAfter k s) } }
  else s

/-- Between samples: unwanted while not examined, all present wanted while the riser channel is invalid (R148, R149). -/
def standingWishes (s : State) : State :=
  if wishesExamined s then
    if channelInvalid s.msu.tr then
      { s with frc := { s.frc with wishes := Vector.ofFn (fun k => stagePresent k s) } }
    else s
  else { s with frc := { s.frc with wishes := Vector.replicate 4 false } }

/-! ### Target and selection (R150) -/

/-- The number of wanted present stages, limited to the heat cap. -/
def targetNow (s : State) : Nat :=
  min (ordersNow s).heatCap ((allStages.filter (fun k => stagePresent k s && s.frc.wishes[k])).length)

/-- The first n stages in stage order that are present and not failed. -/
def selectStages (n : Nat) (s : State) : List (Fin 4) :=
  (allStages.filter (fun k => stagePresent k s && !s.frc.failed[k])).take n

/-- Target, selected set and required amount anew (R150). -/
def selectNow (s : State) : State :=
  let n := targetNow s
  let chosen := selectStages n s
  { s with frc := { s.frc with
    target := n
    selected := Vector.ofFn (fun k => chosen.contains k)
    required := (chosen.map (fun k => ratingOf k s)).sum } }

/-- The frost state from the flag, the target and the air state (R148). -/
def frostStateNow (s : State) : FrostState :=
  if s.frc.critical then .critical
  else if 1 ≤ s.frc.target then .heat
  else if s.frc.airWatch then .watch
  else .off

/-- The frost state is kept, and a change handed to the key and the change rule (R148). -/
def updateFrostState (s : State) : State :=
  let f := frostStateNow s
  if s.frc.state = f then s
  else handField .frost (changeSeen { s with frc := { s.frc with state := f } })

/-! ### Drops (R153) -/

/-- The commanded stages of the selected set that the covered amount keeps, by running sum in stage order; all of them
under local authority. -/
def keptStages (s : State) : List (Fin 4) :=
  let go := allStages.filter (fun k => (stageAt k s).command && s.frc.selected[k])
  if localAuthority s then go
  else
    let rec keep (room : Nat) : List (Fin 4) → List (Fin 4)
      | [] => []
      | k :: ks => if ratingOf k s ≤ room then k :: keep (room - ratingOf k s) ks else []
    keep (coveredAmount s) go

/-- Every other stage commanded ON is commanded OFF. -/
def dropStages (s : State) : State :=
  let kept := keptStages s
  allStages.foldl (fun t k => if (stageAt k t).command && !kept.contains k then commandStage k false t else t) s

/-! ### Claim requests (R151) -/

/-- The desired urgency: 6 while CRITICAL, 3 otherwise. -/
def desiredUrgency (s : State) : Nat := if s.frc.state = .critical then 6 else 3

/-- The LOAD claim is kept in step with the required amount. -/
def requestLoad (s : State) : State :=
  if s.frc.required = 0 then
    if s.frc.asked.isSome then withdrawOwn .load { s with frc := { s.frc with asked := none } } else s
  else
    let a := min 255 s.frc.required
    let u := desiredUrgency s
    let s1 := { s with frc := { s.frc with asked := some (a, u) } }
    match s.frc.asked with
    | none => askOwn .load a u s1
    | some (a0, u0) =>
      if a0 ≠ a then askOwn .load a u s1
      else if u0 ≠ u then changeUrgency .load u s1
      else s

/-! ### Energising (R154) and the starved flag (R155) -/

/-- Some present stage's channel is PROVING. -/
def someProving (s : State) : Bool := allStages.any (fun k => stagePresent k s && (stageAt k s).state == .proving)

/-- The lowest-numbered selected stage that is not commanded ON. -/
def nextStage (s : State) : Option (Fin 4) := allStages.find? (fun k => s.frc.selected[k] && !(stageAt k s).command)

/-- One stage at a time, in stage order, within the covered amount or under local authority. -/
def energiseNext (s : State) : State :=
  if someProving s then s
  else
    match nextStage s with
    | none => s
    | some k =>
      if localAuthority s || decide (ratingSum (fun j => (stageAt j s).command) s + ratingOf k s ≤ coveredAmount s) then
        commandStage k true s
      else s

/-- The starved flag at the end of an evaluation; a change goes to the key. -/
def judgeStarved (s : State) : State :=
  let f := !localAuthority s && decide (coveredAmount s < s.frc.required)
  if s.frc.starved = f then s
  else handField .starved { s with frc := { s.frc with starved := f } }

/-- One evaluation, in the order of R150: frost state, drops, claim requests, energising, starved flag. -/
def frostEvaluate (s : State) : State :=
  if active s then
    judgeStarved (energiseNext (requestLoad (dropStages (updateFrostState (selectNow (standingWishes s))))))
  else s

/-- The critical flag is judged, and a change is an evaluation (R147, R150). -/
def frostJudge (s : State) : State :=
  let c := criticalAfter s
  if s.frc.critical = c then s else frostEvaluate { s with frc := { s.frc with critical := c } }

/-- Warm water withdraws the turnover request (R161). -/
def turnoverWarm (s : State) : State :=
  if s.msu.tw.state == .good && decide ((setting s).tTurn + 10 ≤ s.msu.tw.value) then withdrawTurnover s else s

/-- The frost controller's work on a sample-taken event (R146, R147, R149, R150, R161). -/
def frostSample (s : State) : State :=
  let s1 := { s with frc := { s.frc with airWatch := airAfter s, critical := criticalAfter s } }
  frostEvaluate (sampleWishes (turnoverWarm s1))

/-! ### Stagnation (R159, R160) -/

/-- The record of a minute mark (R159). -/
def stagnationMinute (s : State) : State :=
  let low :=
    if s.msu.stale then s.frc.stagLow
    else some (match s.frc.stagLow with | none => s.msu.lm | some x => min x s.msu.lm)
  let high :=
    if s.msu.stale then s.frc.stagHigh
    else some (match s.frc.stagHigh with | none => s.msu.lm | some x => max x s.msu.lm)
  { s with frc := { s.frc with
    stagLow := low, stagHigh := high
    stagMinutes := satSucc (60 * (setting s).stagHours) s.frc.stagMinutes } }

/-- The conditions of R160. -/
def stagnant (s : State) : Bool :=
  !s.frc.turnoverRequest && s.msu.tw.state == .good && decide (s.msu.tw.value ≤ (setting s).tTurn) &&
  match s.frc.stagLow, s.frc.stagHigh with
  | some l, some h => decide (h - l < (setting s).stagThreshold)
  | _, _ => false

/-- A period ends: it is judged and the record restarts (R159, R160). The fill controller takes a raised request at its next
plan computation (R112). -/
def stagnationEnds (s : State) : State :=
  { s with frc := { s.frc with
    turnoverRequest := s.frc.turnoverRequest || stagnant s
    stagLow := none, stagHigh := none, stagMinutes := 0 } }

end Sys2Proof.Machine
end

