-- ==== Sys2Proof/Machine/SituationUnit.lean ====
section
/-! DEFINITION. The situation table: the key (R164 to R166), matching and the chained lookup (R167 to R169), the orders (R170), evaluation and its limit (R171, R172). -/

namespace Sys2Proof.Machine

/-! ### The key (section 9.2) -/

/-- The key with a field of some width from some position on replaced. -/
def withField (key : KeyBits) (pos width val : Nat) : KeyBits :=
  (key &&& ~~~(BitVec.ofNat 46 ((2 ^ width - 1) * 2 ^ pos))) ||| BitVec.ofNat 46 ((val % 2 ^ width) * 2 ^ pos)

/-- The key with one field at the value handed (R164). -/
def keyWith (f : KeyField) (value : Nat) (key : KeyBits) : KeyBits :=
  match f with
  | .measurement => withField key 5 20 value
  | .night => withField key 29 1 value
  | .guard => withField key 30 3 value
  | .frost => withField key 33 2 value
  | .latches => withField key 35 6 value
  | .maint => withField key 41 1 value
  | .peerSpill => withField key 42 1 value
  | .supplyAbsent => withField key 43 1 value
  | .starved => withField key 44 1 value
  | .joined => withField key 45 1 value

/-! ### Lookup -/

/-- An entry matches a key where its valid flag is set and every masked position agrees (R167). -/
def entryMatches (key : KeyBits) (e : TableEntry) : Bool := e.valid && ((key ^^^ e.value) &&& e.mask) == 0

/-- The match of a lookup: the matching entry with the lowest index (R167). -/
def lookup (key : KeyBits) (table : List TableEntry) : Option TableEntry := table.find? (entryMatches key)

/-- The key of the first lookup: position 0 at 1, positions 1..4 at 0 (R168). -/
def firstKey (key : KeyBits) : KeyBits := withField key 0 5 1

/-- The key of the second lookup: position 0 at 0, positions 1..4 at the link (R169). -/
def secondKey (link : Nat) (key : KeyBits) : KeyBits := withField key 0 5 (2 * link)

/-- A code field of an action: its value, or none for KEEP. -/
def unlessKeep (keep code : Nat) : Option Nat := if code < keep then some code else none

/-- The non-KEEP fields of a match replace those of the orders (R170). -/
def applyAction (m : Option TableEntry) (o : Orders) : Orders :=
  match m with
  | none => o
  | some e =>
    { target := (unlessKeep 4 e.target).getD o.target
      heatCap := (unlessKeep 5 e.heatCap).getD o.heatCap
      turnover := ((unlessKeep 2 e.turnover).map (fun c => c == 1)).getD o.turnover
      relief := ((unlessKeep 2 e.relief).map (fun c => c == 1)).getD o.relief
      interval := (unlessKeep 4 e.interval).getD o.interval
      alarm := e.alarmOn || o.alarm }

/-- The default orders of the settings (section 9.1). -/
def defaultOrders (x : Settings) : Orders :=
  { target := x.defaults.target, heatCap := x.defaults.heatCap, turnover := x.defaults.turnover == 1
    relief := x.defaults.relief == 1, interval := x.defaults.interval, alarm := x.defaults.alarm == 1 }

/-- The orders of a key: defaults, then the first match, then the second match at the first one's link (R168 to R170). -/
def ordersFor (x : Settings) (key : KeyBits) : Orders :=
  let first := lookup (firstKey key) x.entries
  let link := (first.map TableEntry.link).getD 0
  applyAction (lookup (secondKey link key) x.entries) (applyAction first (defaultOrders x))

/-! ### Evaluation -/

/-- One evaluation: orders that differ from the record are taken, counted and handed on (R171). -/
def evaluateSituation (s : State) : State :=
  let o := ordersFor (setting s) s.stu.key
  let s1 := { s with stu := { s.stu with pendingFlag := false } }
  if s.stu.orders = some o then s1
  else
    emit .orders { s1 with stu := { s1.stu with orders := some o, changeCount := s1.stu.changeCount + 1 } }

/-- A situation change: an evaluation while fewer than two orders changes were issued in the event, else the pending flag
(R172). -/
def situationChange (key : KeyBits) (s : State) : State :=
  let s1 := { s with stu := { s.stu with key := key } }
  if s1.stu.changeCount < 2 then evaluateSituation s1
  else { s1 with stu := { s1.stu with pendingFlag := true } }

/-- A key as handed: where no position is altered there is no situation change (R164). -/
def takeKey (key : KeyBits) (s : State) : State :=
  if active s then (if key = s.stu.key then s else situationChange key s) else s

/-- A field as its owner handed it (R164). -/
def takeField (f : KeyField) (value : Nat) (s : State) : State := takeKey (keyWith f value s.stu.key) s

/-- The fill controller hands a slack: the slack bands (R165). -/
def takeSlack (slack : Int) (s : State) : State := takeKey (withField s.stu.key 25 4 (slackBands slack s)) s

/-- The evaluation put off to a sample-taken event, at its start (R172). -/
def takePending (s : State) : State := if s.stu.pendingFlag then evaluateSituation s else s

/-- The fields in the order of the key. -/
def allFields : List KeyField :=
  [.measurement, .night, .guard, .frost, .latches, .maint, .peerSpill, .supplyAbsent, .starved, .joined]

/-- A hand-on that carries a field of the key. -/
def isField : HandOn → Bool
  | .situation _ _ => true
  | _ => false

/-- The end of loading: the key built from every block, slack bands from S = +9999, the default orders in the record, and the
first evaluation's orders handed on whole (R175). A field handed before is included in the key and is not taken again. -/
def startSituation (s : State) : State :=
  let key := allFields.foldl (fun k f => keyWith f (fieldValue f s) k) (withField 0 25 4 (slackBands 9999 s))
  emit .orders { s with handOns := s.handOns.filter (fun h => !isField h), stu := { s.stu with
    key := key, orders := some (ordersFor (setting s) key), changeCount := s.stu.changeCount + 1, pendingFlag := false } }

/-! ### Orders as the report unit takes them (R174, R178) -/

/-- The report age is compared with the interval now selected: one already passed makes a due event. -/
def reportOrders (s : State) : State :=
  if reportLimit s ≤ s.rpu.age then dueEvent { s with rpu := { s.rpu with timerDue := false } } else s

end Sys2Proof.Machine
end

