-- ==== Sys2Proof/Machine/PeerUnit.lean ====
section
/-! DEFINITION. The peer table: heard and lost (R61 to R63), what each notice writes (R64 to R67), supply capacity (R67), summary bits (R68), roll-call results (R69, R70) and the questions after a line fault (R71). -/

namespace Sys2Proof.Machine

/-! ### Capacity and summary bits -/

/-- What a record adds to the supply capacity (R67). -/
def offeredSlots (p : Peer) : Nat :=
  if p.state = .heard ∧ p.role = some .supply then (p.supply.map LastSupply.slots).getD 0 else 0

/-- The supply capacity of the records (R67). -/
def capacityNow (s : State) : Nat := (s.ptb.records.toList.map offeredSlots).sum

def anySpillNow (s : State) : Bool := s.ptb.records.toList.any (fun p => p.state == .heard && p.spill)

def aloneNow (s : State) : Bool := !s.ptb.records.toList.any (fun p => p.state == .heard)

def supplyAbsentNow (s : State) : Bool := (supplyHeard s).isEmpty || s.ptb.capacity == 0

/-- The capacity is computed anew and a changed figure handed to the claim unit (R67, R97). -/
def updateCapacity (s : State) : State :=
  takeCapacity s.ptb.capacity { s with ptb := { s.ptb with capacity := capacityNow s } }

/-- The summary bits are computed anew and handed on where they change (R68). -/
def updateSummary (s : State) : State :=
  let was := s.ptb
  let s1 := { s with ptb := { s.ptb with
    anySpill := anySpillNow s, supplyAbsent := supplyAbsentNow s, alone := aloneNow s } }
  let s2 := if s1.ptb.alone = was.alone then s1 else changeSeen s1
  let s3 := if s2.ptb.supplyAbsent = was.supplyAbsent then s2 else handField .supplyAbsent s2
  if s3.ptb.anySpill = was.anySpill then s3 else reliefEnd (reliefStart (handField .peerSpill s3))

/-- Capacity, then summary bits. -/
def peersChanged (s : State) : State := updateSummary (updateCapacity s)

/-! ### Heard and lost -/

/-- A record whose role changes loses the parts of the old role (R62). -/
def takeRole (role : Role) (p : Peer) : Peer :=
  let p1 := if p.role = some .supply ∧ role ≠ .supply then { p with supply := none } else p
  let p2 :=
    if p.role = some .tower ∧ role ≠ .tower then
      { p1 with report := none, spill := false, stop := false, alarm := false, cause := .unknown }
    else p1
  { p2 with role := some role }

/-- The record of a sender that is heard (R62). -/
def heardRecord (role : Role) (p : Peer) : Peer := { takeRole role p with state := .heard, silence := 0 }

/-- The record of a station that is lost (R63). -/
def lostPeer (p : Peer) : Peer :=
  { p with state := .lost, spill := false, stop := false, alarm := false, cause := .unknown, report := none, supply := none }

/-- The sender is taken as heard (R62). -/
def hearSender (n : Nat) (role : Role) (s : State) : State := setPeer n (heardRecord role (peerAt n s)) s

/-- A station becomes LOST: the claim unit removes its entries, SUPPLY before LOAD (log 46), capacity and bits follow, and the guard is told where the set
of supply stations heard has changed (R63, R80, R139). -/
def losePeer (n : Nat) (s : State) : State :=
  let was := peerAt n s
  let s1 := setPeer n (lostPeer was) s
  let s2 := removeEntry .load n (removeEntry .supply n s1)
  let s3 := peersChanged s2
  if was.role = some .supply then examineConfirmation s3 else s3

/-! ### Contents of the notices (R64 to R67) -/

/-- A REPORT from a tower (R64). A guard code that names no state counts as one other than SPILL (log 38). -/
def reportRecord (level guard : Nat) (stop : Bool) (p : Peer) : Peer :=
  { p with
    report := some { level := level, guardCode := guard, stop := stop }
    spill := if guard = 5 then p.spill else false
    stop := stop
    cause := if stop && p.stop then p.cause else .unknown }

/-- An ALARM from a tower (R65); code 6 is SPILL, a code without a meaning counts as any other (log 30). -/
def alarmRecord (code : Nat) (set : Bool) (p : Peer) : Peer :=
  { p with
    spill := if code = 6 then set else p.spill
    alarm := if set then true else p.alarm }

/-- A STOP from a tower (R66). -/
def stopRecord (on : Bool) (cause : StopCause) (p : Peer) : Peer :=
  { p with stop := on, cause := if on then cause else .unknown }

/-- A TRIP from a tower (R65). -/
def tripRecord (p : Peer) : Peer := { p with alarm := true, stop := true, cause := .safe }

/-- A SUPPLY from a supply station (R67). -/
def supplyRecord (slots pumps : Nat) (honoured : List Nat) (p : Peer) : Peer :=
  { p with supply := some { slots := min 8 slots, pumps := min 15 pumps, honoured := honoured } }

/-! ### Roll-call results (R69, R70) -/

/-- A HEARD tower record other than this station's (log 24). -/
def isHeardTower (s : State) (n : Nat) (p : Peer) : Bool :=
  p.state == .heard && p.role == some .tower && n != (setting s).station

/-- Every HEARD tower record changed by its station's answer. -/
def mapTowers (f : Bool → Peer → Peer) (samples : WindowSamples) (s : State) : State :=
  { s with ptb := { s.ptb with records := Vector.ofFn (fun (i : Fin 24) =>
      let p := s.ptb.records[i]
      if isHeardTower s (i.val + 1) p then f (answered samples (i.val + 1)) p else p) } }

/-- A valid STOPPING result (R69). -/
def stoppingResult (samples : WindowSamples) (s : State) : State :=
  mapTowers (fun yes p => { p with stop := yes, cause := if yes && p.stop then p.cause else .unknown }) samples s

/-- A valid ALARM(u) result (R70). -/
def alarmResult (u : Nat) (samples : WindowSamples) (s : State) : State :=
  mapTowers (fun yes p => { p with alarm := if yes then true else if u ≤ 4 then false else p.alarm }) samples s

/-! ### Questions after a line fault (R71) -/

/-- The questions the peer table asks: STOPPING, then ALARM(4). -/
def faultQuestions (s : State) : List Question :=
  let towers := s.ptb.records.toList.zipIdx.filter (fun p => isHeardTower s (p.2 + 1) p.1)
  (if towers.any (fun p => p.1.stop) then [Question.stopping] else []) ++
  (if towers.any (fun p => p.1.alarm) then [Question.alarm 4] else [])

/-- They replace the questions still waiting, and go one at a time through the ROLLCALL key (R71, R101). -/
def askAfterFault (s : State) : State :=
  if s.sld.mode = .joined then
    match faultQuestions s with
    | [] => s
    | qs => askNext { s with clu := { s.clu with questions := qs, inFlight := none } }
  else s

/-! ### The joining (R101) -/

/-- The station becomes JOINED: the fill controller first, then the key, the waiting claims, SUPPLY before LOAD, and the frost
controller (R101, R193, log 46). -/
def becomeJoined (s : State) : State :=
  let s1 := { s with
    sld := { s.sld with mode := .joined }
    clu := { s.clu with answer := none, listening := none } }
  let s2 := emit .frostEvaluate (emit (.reexamine .load) (emit (.reexamine .supply) (handField .joined s1)))
  fillFollows s2

/-- Both joining questions have been answered: JOINED (R101). -/
def joinIfAnswered (s : State) : State :=
  if s.sld.mode = .joining ∧ s.clu.answeredSupply = true ∧ s.clu.answeredLoad = true then becomeJoined s else s

/-- A question of this station is done with: by its window, or dropped (R71, R101). -/
def questionDone (q : Question) (s : State) : State :=
  joinIfAnswered (askNext (markAnswered q { s with clu := { s.clu with inFlight := none } }))

/-- The queue dropped a question, its resource being marked incomplete (R99): it counts as answered (R101). -/
def questionWasDropped (q : Question) (s : State) : State :=
  if s.clu.inFlight = some q then questionDone q s else s

end Sys2Proof.Machine
end

