-- ==== Sys2Proof/Machine/Cascade.lean ====
section
/-! DEFINITION. Taking one event whole: the event's own effect, then every hand-on in turn, the outputs following throughout (R171, R172, log 6). -/

namespace Sys2Proof.Machine

/-- The four blocks take an orders change (R173, R174): the fill controller, then the frost controller, then the report unit, in the
model's order (R171, log 54); the alarm relay follows with the outputs. -/
def takeOrders (s : State) : State := reportOrders (frostEvaluate (fillOrders s))

/-- The block that a hand-on is for takes it. -/
def takeHandOn (h : HandOn) (s : State) : State :=
  match h with
  | .fillLost => fillLost s
  | .fillGranted => fillGranted s
  | .frostEvaluate => frostEvaluate s
  | .reexamine r => reexamineNow r s
  | .questionDropped q => questionWasDropped q s
  | .situation f v => takeField f v s
  | .slack v => takeSlack v s
  | .orders => takeOrders s

/-- Hand-ons are taken first in first out until none is left, at most n of them. -/
def takeHandOns : Nat → State → State
  | 0, s => s
  | n + 1, s =>
    match s.handOns with
    | [] => s
    | h :: rest => takeHandOns n (follow (takeHandOn h { s with handOns := rest }))

/-- The change count returns to 0 at the start of an outside event (R172). -/
def beginEvent (s : State) : State := { s with stu := { s.stu with changeCount := 0 } }

/-- An event taken whole. -/
def event (f : State → State) (s : State) : State :=
  takeHandOns Config.handOnBound (follow (f (beginEvent s)))

/-- An event that arises only under a condition; where it does not hold the event does not occur and nothing changes (log 2). -/
def occurs (may : Bool) (f : State → State) (s : State) : Host.Outcome State Fault Refusal :=
  .next (if may then event f s else s)

end Sys2Proof.Machine
end

