-- ==== Sys2Proof/Machine/NoticeFormat.lean ====
section
/-! DEFINITION. Notices as characters (R40, R41, section 11.5): the bodies this station fills at win-time, the frame with its check, the bits on the line, and the reading and checking of a notice received (R42). -/

namespace Sys2Proof.Machine

/-! ### Filling a body (section 11.5) -/

/-- A single character. -/
def char (n : Nat) : Byte := BitVec.ofNat 8 n

/-- 1 for true. -/
def flag (b : Bool) : Nat := if b then 1 else 0

/-- The free value that fills the places of this body which section 11.5 gives no use (log 12). -/
def spare (s : State) : BitVec 32 := Config.spareBits s.bodiesFilled

/-- A character with a meaning in bit 0 only; its other bits are free (log 12). -/
def flagChar (b : Bool) (s : State) : Byte := char (flag b + 2 * ((spare s).toNat % 128))

/-- The flag of a refresh CLAIM: any value but 0 (log 12). -/
def refreshFlag (s : State) : Byte :=
  let v := (spare s).setWidth 8
  if v = 0 then 1 else v

/-- The amount a CLAIM carries: the requested or raise amount if initial, the held amount if refresh (R86). -/
def claimAmount (r : Resource) (refresh : Bool) (s : State) : Nat :=
  let c := own r s
  if refresh then c.held
  else if c.state = .announcing then c.amount
  else (c.raise.map Raise.pending).getD c.amount

/-- Whether a code is announced as set (R26, R136, R185). -/
def alarmSet (c : AlarmCode) (s : State) : Bool :=
  match c with
  | .latch l => latchSet l s
  | .spill => s.ogu.state == .spill
  | .inletStuck => inFaultSet .inletStuck s
  | .inletLeak => inFaultSet .inletLeak s
  | .stopUnconfirmed => inFaultSet .stopUnconfirmed s

/-- A temperature field of 11 bits with the bits above it. -/
def tempField (t : Int) (above : Nat) : Nat := lowBits 11 t + 2048 * above

/-- The stage field of REPORT bytes 14, 15: the channel code and the HFBk input of each stage; an absent stage's channel stays OFF. -/
def stageField (s : State) : Nat :=
  (allStages.map (fun k => (stageCode (stageAt k s).state + 8 * flag (debounced (.hfb k) s)) * 16 ^ k.val)).sum

/-- REPORT (R180). -/
def reportBody (s : State) : List Byte :=
  bytesOf 2 (s.msu.lf.toNat + 32768 * flag s.ftu.safeHold)
  ++ bytesOf 3 ((floorDiv s.msu.volume 10).toNat + 2097152 * guardCode s.ogu.state)
  ++ bytesOf 2 (lowBits 11 s.msu.rate + 2048 * stopField s.ogu.stop + 16384 * modeCode s.sld.mode)
  ++ bytesOf 2 (tempField s.msu.tw.value
      (frostCode s.frc.state + 4 * positionCode s.odu.position + 16 * flag s.odu.inletOpen))
  ++ bytesOf 2 (tempField s.msu.tr.value
      (fillCode s.flc.state + 8 * ((spare s).toNat % 2) + 16 * flag s.flc.unproductive))
  ++ bytesOf 2 (tempField s.msu.ta.value
      (flag (debounced .maint s) + 2 * flag s.odu.alarm + 4 * claimCode s.clu.ownSupply.state))
  ++ bytesOf 1 s.sld.clamped
  ++ bytesOf 2 (stageField s)
  ++ bytesOf 2 (faultBits s.ftu.inSet + 8192 * claimCode s.clu.ownLoad.state)
  ++ bytesOf 2 s.ftu.total
  ++ [char s.rpu.skippedField, char s.lnu.errors]
  ++ bytesOf 2 ((tRem s).toNat + 1024 * latchBits s)
  ++ bytesOf 2 (s.flc.qEst.getD 0).toNat
  ++ bytesOf 2 (floorDiv s.flc.shortfall 1000).toNat

/-- The twelve codes of TRIP bytes 5, 6, without STAGE_FAIL. -/
def tripFaults (v : Vector Bool 13) : Nat := bitsToNat (v.toList.take 7 ++ v.toList.drop 8)

/-- TRIP (R188). -/
def tripBody (x : Snapshot) : List Byte :=
  bytesOf 2 x.lf.toNat
  ++ bytesOf 3 ((floorDiv x.volume 10).toNat + 2097152 * guardCode x.guard)
  ++ bytesOf 2 (tripFaults x.faults + 4096 * bitsToNat x.stageMask.toList)
  ++ bytesOf 1 (levelCode x.level + 4 * claimCode x.supplyClaim + 32 * claimCode x.loadClaim)
  ++ bytesOf 1 x.capacity
  ++ bytesOf 4 x.elapsed
  ++ bytesOf 1 x.notes

/-- The code of a question with its u; for a question other than ALARM u is free (log 12). -/
def questionBody (q : Question) (s : State) : List Byte :=
  match q with
  | .hold .supply => [0, (spare s).setWidth 8]
  | .hold .load => [1, (spare s).setWidth 8]
  | .alarm u => [2, char u]
  | .stopping => [3, (spare s).setWidth 8]

/-- The body of a notice, from the state of its owner (R48). -/
def bodyOf (item : Outgoing) (s : State) : List Byte :=
  match item with
  | .report => reportBody s
  | .claim r refresh =>
    [char (resourceCode r), char (claimAmount r refresh s), if refresh then refreshFlag s else 0]
  | .release r => [char (resourceCode r)]
  | .alarm c => [char (alarmCodeNumber c), flagChar (alarmSet c s) s]
  | .stop =>
    match s.ogu.stop with
    | none => [flagChar false s, 0]
    | some d => [flagChar true s, char (causeCode d.cause)]
  | .tariff => flagChar s.flc.night s :: bytesOf 2 s.flc.elapsed
  | .rollcall q => questionBody q s
  | .trip => (s.ftu.snapshot.map tripBody).getD (List.replicate 14 0)

/-! ### The frame (R40) -/

/-- The kind codes of section 11.5. -/
def kindCode : Outgoing → Nat
  | .report => 1
  | .claim _ _ => 2
  | .release _ => 3
  | .alarm _ => 4
  | .stop => 5
  | .tariff => 6
  | .rollcall _ => 7
  | .trip => 8

/-- Header, body and check; the role of every TS240 is TOWER, code 0. -/
def frame (item : Outgoing) (urgency station : Nat) (body : List Byte) : List Byte :=
  let covered := [char (kindCode item + 16 * urgency), char station, char body.length] ++ body
  covered ++ bytesOf 2 (crcOf covered)

/-- Whether bit b of a notice is driven dominant: start bit, eight data bits with 0 dominant, stop bit recessive (R39). -/
def drivenDominant (chars : List Byte) (b : Nat) : Option Bool :=
  match chars[b / 10]? with
  | none => none
  | some c =>
    some (if b % 10 = 0 then true
      else if b % 10 = 9 then false
      else !(c.toNat.testBit (b % 10 - 1)))

/-- The characters of the notice on the line. -/
def lineChars (s : State) : List Byte :=
  match s.lnu.onLine with
  | none => []
  | some o => frame o.item o.urgency (setting s).station o.body

/-! ### Reading a notice (R42) -/

/-- The contents of a valid notice. -/
inductive Content where
  | report (level guardCode : Nat) (stop : Bool)
  | claim (r : Resource) (amount : Nat) (refresh : Bool)
  | release (r : Resource)
  | alarm (code : Nat) (set : Bool)
  | stop (on : Bool) (cause : StopCause)
  | tariff (night : Bool) (elapsed : Nat)
  | rollcall (q : Question)
  | trip
  | supply (slots pumps : Nat) (honoured : List Nat)
  | ack (target latches : Nat) (faults : Bool)
  deriving DecidableEq, Repr

/-- A valid notice as read: its urgency, sender, role and contents. -/
structure Heard where
  urgency : Nat
  station : Nat
  role : Role
  content : Content
  deriving DecidableEq, Repr

/-- The operand is one whole notice: its third character gives a body of 0..30 and the count agrees (R40, R42). -/
def complete (chars : List Byte) : Bool := byteAt chars 2 ≤ 30 && chars.length == byteAt chars 2 + 5

/-- The check characters agree (R40). -/
def checkAgrees (chars : List Byte) : Bool :=
  crcOf (chars.take (chars.length - 2)) == fieldAt chars (chars.length - 2) 2

/-- The body length that a kind code requires (R41); a SUPPLY carries up to eight honoured stations. -/
def lengthFits (kind len : Nat) : Bool :=
  match kind with
  | 1 => len == 28
  | 2 => len == 3
  | 3 => len == 1
  | 4 => len == 2
  | 5 => len == 2
  | 6 => len == 3
  | 7 => len == 2
  | 8 => len == 14
  | 9 => 2 ≤ len && len ≤ 10
  | 10 => len == 3
  | _ => false

/-- The role code of the second character; code 3 is undefined. -/
def roleOf (n : Nat) : Option Role :=
  match n with
  | 0 => some .tower
  | 1 => some .supply
  | 2 => some .gateway
  | _ => none

/-- A resource code. -/
def resourceOf (n : Nat) : Option Resource :=
  match n with
  | 0 => some .supply
  | 1 => some .load
  | _ => none

/-- A STOP cause code; any other value is UNKNOWN. -/
def causeOf (n : Nat) : StopCause :=
  match n with
  | 0 => .stuck
  | 1 => .leak
  | 2 => .spill
  | 3 => .safe
  | _ => .unknown

/-- A question code with its u, above 7 taken as 7. -/
def questionOf (n u : Nat) : Option Question :=
  match n with
  | 0 => some (.hold .supply)
  | 1 => some (.hold .load)
  | 2 => some (.alarm (min 7 u))
  | 3 => some .stopping
  | _ => none

/-- The STOP demand of a REPORT: off for 0, on for 1..4; the codes 5..7 have no meaning and are free (log 13). -/
def reportStop (n : Nat) : Bool :=
  if n = 0 then false else if n ≤ 4 then true else Config.undefinedStopCode n

/-- The contents of a body by its kind code; none where a named resource or question is undefined (R42). Fields of two
characters come high-order first (log 34). -/
def contentOf (kind : Nat) (body : List Byte) : Option Content :=
  let b := byteAt body
  match kind with
  | 1 => some (.report (fieldAt body 0 2 % 32768) (b 2 / 32) (reportStop (fieldAt body 5 2 / 2048 % 8)))
  | 2 => (resourceOf (b 0)).map (fun r => .claim r (b 1) (b 2 != 0))
  | 3 => (resourceOf (b 0)).map Content.release
  | 4 => some (.alarm (b 0) ((b 1).testBit 0))
  | 5 => some (.stop ((b 0).testBit 0) (causeOf (b 1)))
  | 6 => some (.tariff ((b 0).testBit 0) (fieldAt body 1 2))
  | 7 => (questionOf (b 0) (b 1)).map Content.rollcall
  | 8 => some .trip
  | 9 => some (.supply (b 0) (b 1) ((body.drop 2).map BitVec.toNat))
  | 10 => some (.ack (b 0) (b 1 % 64) ((b 2).testBit 0))
  | _ => none

/-- The tests made at completion, in the order of R42, and the notice where all of them pass. -/
def readNotice (chars : List Byte) : Except DiscardCause Heard :=
  let kind := byteAt chars 0 % 16
  let len := byteAt chars 2
  let station := byteAt chars 1 % 32
  if !checkAgrees chars then .error .check
  else if kind = 0 ∨ 11 ≤ kind then .error .undefinedKind
  else
    match roleOf (byteAt chars 1 / 32 % 4) with
    | none => .error .badSender
    | some role =>
      if station = 0 ∨ 24 < station then .error .badSender
      else if !lengthFits kind len then .error .wrongLength
      else
        match contentOf kind ((chars.drop 3).take len) with
        | none => .error .badField
        | some c => .ok { urgency := byteAt chars 0 / 16 % 8, station := station, role := role, content := c }

end Sys2Proof.Machine
end

