-- ==== Sys2Proof/Machine/FieldInputs.lean ====
section
/-! DEFINITION. Contact inputs: debouncing (R19), what a settled input does (R21 to R37), the start-up reading (R20); RAW_INPUT_CHANGE, INPUT_SETTLED and PROOF_TIMER_EXPIRY. -/

namespace Sys2Proof.Machine

/-! ### Position (R33, R34) -/

/-- The position decoded from the two limit contacts (R33). -/
def positionNow (s : State) : Position :=
  match debounced .inOpenFb s, debounced .inClosedFb s with
  | true, false => .opened
  | false, true => .closed
  | false, false => .travel
  | true, true => .invalid

/-- The position is computed anew; a change goes to the guard and the fill controller and keeps INLET_POS_INVALID (R33, R34). -/
def takePosition (s : State) : State :=
  let old := s.odu.position
  let new := positionNow s
  if old = new then s
  else
    let s1 := setCondition .inletPosInvalid (new == .invalid) { s with odu := { s.odu with position := new } }
    fillFollows (fillPosition old new (guardExamine false s1))

/-! ### Settled inputs (R21) -/

/-- A press of ACKIN reaches every latch and acknowledges all HOLD faults (R28), in that order; the guard, the frost controller and the
fill controller take what has changed once, after all of it (log 39). -/
def pressAck (s : State) : State :=
  fillFollows (frostJudge (guardExamine false (ackFaults (ackLatches allLatches s))))

/-- The new value goes to the blocks that take that input (R21). -/
def handSettled (i : ContactInput) (now : Bool) (s : State) : State :=
  match i with
  | .ovf => fillFollows (guardExamine (now && !latchSet .ovf s) (singleSettle .ovf now s))
  | .hifl => fillFollows (guardExamine false (singleSettle .hifl now s))
  | .lofl => singleSettle .lofl now s
  | .door => singleSettle .door now s
  | .fst _ => frostJudge (frostMember now s)
  | .maint => fillFollows (handField .maint s)
  | .tariff => tariffContact now s
  | .ackin => if now then pressAck s else s
  | .inOpenFb => takePosition s
  | .inClosedFb => takePosition s
  | .hfb k => feedbackSettles k now s

/-- The debounced input takes the raw value and the timer stops (R19). -/
def settleInput (i : ContactInput) (s : State) : State :=
  { s with ilu := { s.ilu with
    debounced := put s.ilu.debounced (inputIndex i) (rawInput i s)
    timer := put s.ilu.timer (inputIndex i) none } }

/-- The input settled event (R19). -/
def inputSettles (i : ContactInput) (s : State) : State := handSettled i (rawInput i s) (settleInput i s)

/-- The debounce count n of an input. -/
def debounceCount (i : ContactInput) (s : State) : Nat := (setting s).debounce[inputIndex i]

/-- A timer that runs for an input. -/
def debounceTimer (i : ContactInput) (s : State) : Option Nat := s.ilu.timer[inputIndex i]

/-- The contact of an input closes or opens. -/
def setPin (i : ContactInput) (closed : Bool) (s : State) : State :=
  { s with pins := put s.pins (inputIndex i) closed }

def setRaw (i : ContactInput) (now : Bool) (t : Option Nat) (s : State) : State :=
  { s with ilu := { s.ilu with
    raw := put s.ilu.raw (inputIndex i) now
    timer := put s.ilu.timer (inputIndex i) t } }

/-- The raw input follows its pin: the debounce timer starts, or stops where the debounced value is met again; with n = 0 the
input settles at once (R19). -/
def followPin (i : ContactInput) (s : State) : State :=
  let now := pinActive i s
  if rawInput i s = now then s
  else if debounced i s = now then setRaw i now none s
  else if debounceCount i s = 0 then inputSettles i (setRaw i now none s)
  else setRaw i now (some (debounceCount i s)) s

/-! ### Start-up (R20, R34, R36) -/

/-- Every raw and debounced input takes its pin's value at once. -/
def readInputs (s : State) : State :=
  let now : Vector Bool 17 := Vector.ofFn (fun j => s.pins[j] != (setting s).normallyClosed[j])
  { s with ilu := { s.ilu with raw := now, debounced := now, timer := Vector.replicate 17 none } }

/-- An input found ACTIVE counts as having changed to ACTIVE: the latch rules act on it (R20). ACKIN is no press. -/
def latchStartUp (i : ContactInput) (s : State) : State :=
  if debounced i s then
    match i with
    | .ovf => singleSettle .ovf true s
    | .hifl => singleSettle .hifl true s
    | .lofl => singleSettle .lofl true s
    | .door => singleSettle .door true s
    | .fst _ => frostMember true s
    | .maint => s
    | .tariff => s
    | .ackin => s
    | .inOpenFb => s
    | .inClosedFb => s
    | .hfb _ => s
  else s

/-- A present stage whose HFBk is ACTIVE at start-up is FAILED at once (R36). -/
def stageStartUp (k : Fin 4) (s : State) : State :=
  if stagePresent k s && feedback k s then failStage k s else s

/-! ### The commands -/

/-- RAW_INPUT_CHANGE (R19). The contact moves in every mode; the input unit takes it in JOINING and JOINED (R20). -/
def execRawInputChange (i : ContactInput) (closed : Bool) (s : State) : Host.Outcome State Fault Refusal :=
  occurs (active s) (followPin i) (setPin i closed s)

/-- INPUT_SETTLED (R19). -/
def execInputSettled (i : ContactInput) (s : State) : Host.Outcome State Fault Refusal :=
  occurs (active s && (debounceTimer i s).isSome) (inputSettles i) s

/-- PROOF_TIMER_EXPIRY (R35). -/
def execProofTimerExpiry (k : Fin 4) (s : State) : Host.Outcome State Fault Refusal :=
  occurs (active s && (stageAt k s).timer.isSome) (proofExpires k) s

end Sys2Proof.Machine
end

