-- ==== Sys2Proof/Machine/Loading.lean ====
section
/-! DEFINITION. Resets (R195) and the settings loader (R191 to R194): POWER_ON_RESET, EXTERNAL_RESET, RESET_PIN_RETURNS_HIGH, LOAD_ATTEMPT_DONE and RETRY_WAIT_EXPIRY, with the end of loading. -/

namespace Sys2Proof.Machine

/-! ### Resets -/

/-- Every item of state at its initial value; what is outside the part stays (log 7, log 12). -/
def resetAll (s : State) : State :=
  { State.reset with
    pending := s.pending, pins := s.pins, resetLow := s.resetLow, bodiesFilled := s.bodiesFilled }

/-- An external reset keeps q_est, the fault total and the trip snapshot (R195), and holds the part in reset. -/
def resetKeeping (s : State) : State :=
  { resetAll s with
    resetLow := true
    flc := { Fill.atReset with qEst := s.flc.qEst }
    ftu := { Faults.atReset with total := s.ftu.total, snapshot := s.ftu.snapshot } }

/-! ### The end of loading -/

/-- FAILED: the station is UNCONFIGURED, its time base runs, and the alarm relay follows (R193, R194, R1, R37). V stays at 0, for
the image is not used (log 9). -/
def loadFails (s : State) : State :=
  { s with
    sld := { s.sld with mode := .unconfigured, load := .failed, clamped := 0 }
    msu := { s.msu with running := true, secondCount := 0, sixty := 0 } }

/-- The loader is done: the image is the clamped one and the mode JOINING (R192, R193). -/
def loadDone (raw : Settings) (s : State) : State :=
  { s with sld := { s.sld with
    mode := .joining, load := .done, settings := clampSettings raw, clamped := clampedCount raw } }

/-- The time base starts, and V takes the strap volume at 0 (R1, R17). -/
def startMeasure (s : State) : State :=
  { s with msu := { s.msu with
    running := true, secondCount := 0, sixty := 0, volume := strapVolume (setting s).strap 0 } }

/-- q_est at the end of loading (R123). -/
def startInflow (s : State) : State :=
  { s with flc := { s.flc with qEst := some (
      match s.flc.qEst with
      | none => (setting s).qNom
      | some q => clampTo (setting s).qMin (setting s).qMax q) } }

/-- The listening timer starts (R101). -/
def startListening (s : State) : State := { s with clu := { s.clu with listening := some (claimRound s) } }

/-- The inputs are taken: latches, position, stage feedbacks (R20, R34, R36). A position other than TRAVEL is a change at which the
guard examines its state, before the set OVF latch reaches it as an onset and before the key is built (log 25). -/
def startInputs (s : State) : State :=
  let s1 := allInputs.foldl (fun t i => latchStartUp i t) (readInputs s)
  allStages.foldl (fun t k => stageStartUp k t) (takePosition s1)

/-- A source whose contact is ACTIVE begins NIGHT (R73). -/
def startTariff (s : State) : State := if debounced .tariff s then tariffContact true s else s

/-- A kept TRIP is queued (R190). -/
def startTrip (s : State) : State := if s.ftu.snapshot.isSome then queueNotice .trip 7 s else s

/-- The end of loading into JOINING, one event (R193; the order of the blocks is log 25). -/
def endLoading (raw : Settings) (s : State) : State :=
  let s1 := startListening (startInflow (startMeasure (loadDone raw s)))
  let s2 := startSituation (startInputs s1)
  let s3 := startTariff (guardExamine (latchSet .ovf s2) s2)
  startTrip (dueEvent (frostJudge (fillFollows s3)))

/-! ### Judging a read (R191) -/

/-- The bytes go into the settings image as they are read. -/
def takeBlock (block : List Byte) (s : State) : State :=
  { s with sld := { s.sld with settings := readSettings block } }

/-- A first non-answer waits for the retry, a second one fails (R191). -/
def noAnswer (s : State) : State :=
  if s.sld.attempt = 1 then { s with sld := { s.sld with load := .retryWait } } else loadFails s

/-- A read whose check matches: a structure that fails leaves in the image what its tests have clamped (R192). -/
def judgeStructure (raw : Settings) (s : State) : State :=
  if structureHolds raw then endLoading raw s
  else loadFails { s with sld := { s.sld with settings := testedImage raw } }

/-- The verdict on a read that has come to its end (R191, R192). -/
def judgeRead (block : List Byte) (s : State) : State :=
  let s1 := takeBlock block s
  if notAnswered block then noAnswer s1
  else if checkMatches block then judgeStructure (readSettings block) s1
  else loadFails s1

/-- A read is under way. -/
def isReading (s : State) : Bool := !s.resetLow && s.sld.mode == .loading && s.sld.load == .reading

/-- The retry wait runs. -/
def isRetryWait (s : State) : Bool := !s.resetLow && s.sld.mode == .loading && s.sld.load == .retryWait

/-- The second attempt begins (R191). -/
def retryRead (s : State) : State := { s with sld := { s.sld with load := .reading, attempt := 2 } }

/-- The pin is high again: the part leaves reset, and loading begins with the first attempt (R195, R191). -/
def leaveReset (s : State) : State :=
  { s with resetLow := false, sld := { s.sld with mode := .loading, load := .reading, attempt := 1, clamped := 0 } }

/-! ### The commands -/

/-- POWER_ON_RESET (R195). -/
def execPowerOnReset (s : State) : Host.Outcome State Fault Refusal := .next (resetAll s)

/-- EXTERNAL_RESET (R195): RESET has been low for 1 ms and stays low. -/
def execExternalReset (s : State) : Host.Outcome State Fault Refusal := .next (resetKeeping s)

/-- RESET_PIN_RETURNS_HIGH (R195). -/
def execResetPinReturnsHigh (s : State) : Host.Outcome State Fault Refusal := occurs s.resetLow leaveReset s

/-- LOAD_ATTEMPT_DONE (R191 to R194). An operand that is not the 1024 bytes of a read is refused (log 29). -/
def execLoadAttemptDone (block : List Byte) (s : State) : Host.Outcome State Fault Refusal :=
  if block.length = 1024 then occurs (isReading s) (judgeRead block) s else .refused .notASettingsBlock

/-- RETRY_WAIT_EXPIRY (R191). -/
def execRetryWaitExpiry (s : State) : Host.Outcome State Fault Refusal := occurs (isRetryWait s) retryRead s

end Sys2Proof.Machine
end

