-- ==== Sys2Proof/Machine/TimeBase.lean ====
section
/-! DEFINITION. The time base: SECOND_EVENT with its counts and samples (R1 to R9, R13 to R16), MINUTE_MARK with its record (R10 to R12) and what the jobs do at it. -/

namespace Sys2Proof.Machine

/-! ### Counting (R1) -/

/-- The second count rises, and every sixtieth second event leaves a minute mark due (R1, log 5). -/
def countSecond (s : State) : State :=
  { s with msu := { s.msu with
    secondCount := satSucc 4294967295 s.msu.secondCount
    sixty := if s.msu.sixty + 1 < 60 then s.msu.sixty + 1 else 0
    minuteDue := s.msu.minuteDue || decide (60 ≤ s.msu.sixty + 1) } }

/-- Silence counts of HEARD records (R63). -/
def countSilence (p : Peer) : Peer := if p.state = .heard then { p with silence := satSucc 900 p.silence } else p

/-- The age and settle timer of a peer entry (R81, R82). -/
def countHolding (h : Holding) : Holding :=
  { h with
    age := h.age + 1
    share :=
      match h.share with
      | .held a => .held a
      | .settling p x t late => .settling p x (t - 1) late }

/-- The entries of other stations count; the own entries do not age (R82). -/
def countTable (r : Resource) (s : State) : State :=
  setTable r (Vector.ofFn (fun (i : Fin 24) =>
    if i.val + 1 = (setting s).station then (claimTable r s)[i] else ((claimTable r s)[i]).map countHolding)) s

/-- The settle timer and refresh time of an own claim (R87, R92). -/
def countOwn (c : OwnClaim) : OwnClaim := { c with settle := tickDown c.settle, refresh := tickDown c.refresh }

/-- The timers of the claim unit count (R81, R82, R87, R92, R99, R101). -/
def countClaims (s : State) : State :=
  let s1 := countTable .load (countTable .supply s)
  { s1 with clu := { s1.clu with
    ownSupply := countOwn s1.clu.ownSupply, ownLoad := countOwn s1.clu.ownLoad
    incompleteSupply := tickDown s1.clu.incompleteSupply, incompleteLoad := tickDown s1.clu.incompleteLoad
    listening := tickDown s1.clu.listening, answer := tickDown s1.clu.answer } }

/-- The report age rises; where it reaches the interval, REPORT_TIMER_DUE is to follow (R178, log 5). -/
def countReport (s : State) : State :=
  let n := satSucc 4294967295 s.rpu.age
  { s with rpu := { s.rpu with age := n, timerDue := s.rpu.timerDue || decide (reportLimit s ≤ n) } }

/-- Every timer counted on second events, before the samples (log 3). -/
def countTimers (s : State) : State :=
  let s1 := countReport (countClaims s)
  { s1 with
    ptb := { s1.ptb with records := s1.ptb.records.map countSilence }
    lnu := { s1.lnu with dupTimer := tickUp 600 s1.lnu.dupTimer }
    flc := { s1.flc with openTimer := tickDown s1.flc.openTimer, clearing := tickUp 900 s1.flc.clearing }
    ogu := { s1.ogu with stroke := tickDown s1.ogu.stroke, confirmTimer := tickDown s1.ogu.confirmTimer } }

/-! ### Pressure (R3 to R9) -/

/-- The head of a pressure code; none where the sample is invalid (R3). -/
def headOf (x : Settings) (p : Int) : Option Int :=
  if p < x.z - 200 then none
  else if p < x.z then some 0
  else if p ≤ x.f then some (floorDiv ((p - x.z) * x.hFs) (x.f - x.z))
  else if p ≤ x.f + 100 then some x.hFs
  else none

/-- The level of a head (R5). -/
def levelOf (x : Settings) (h : Int) : Int := clampTo 0 x.lMax (h - x.dOff)

/-- The mean of the ring (R6). -/
def ringMean (ring : Vector Int 8) : Int := floorDiv ring.toList.sum 8

/-- A valid level enters the ring, or restarts the filter after NONE or STALE (R6, R7). A restart leaves the index of the oldest
slot where it is (log 9). -/
def enterLevel (l : Int) (m : Measure) : Measure :=
  if m.level = .fresh then
    let ring := put m.ring m.oldest l
    { m with ring := ring, oldest := m.oldest + 1, lf := ringMean ring }
  else { m with ring := Vector.replicate 8 l, lf := l, level := .fresh }

/-- An invalid sample makes FRESH STALE (R4, R7). -/
def missLevel (m : Measure) : Measure := if m.level = .fresh then { m with level := .stale } else m

/-- V follows L_f once a real reading has been taken (R9). -/
def volumeFollows (x : Settings) (m : Measure) : Measure :=
  if m.level = .unread then m else { m with volume := strapVolume x.strap m.lf }

/-- The pressure sample of a second (R3 to R9). -/
def samplePressure (p : AnalogCode) (s : State) : State :=
  match headOf (setting s) (p.toNat : Int) with
  | some h =>
    clearCondition .lvlSensor
      { s with msu := volumeFollows (setting s) (enterLevel (levelOf (setting s) h) s.msu) }
  | none => raiseCondition .lvlSensor { s with msu := volumeFollows (setting s) (missLevel s.msu) }

/-! ### Temperatures (R13, R14) -/

/-- The temperature of a code (R13). -/
def temperatureOf (c : Calibration) (code : Int) : Int :=
  c.t0 + floorDiv ((code - c.c0) * (c.t1 - c.t0)) (c.c1 - c.c0)

/-- The valid band (R13). -/
def goodTemperature (t : Int) : Bool := decide (-500 ≤ t) && decide (t ≤ 800)

/-- A channel after a converted temperature (R14). -/
def channelAfter (t : Int) (c : TempChannel) : TempChannel :=
  if goodTemperature t then { value := t, state := .good } else { c with state := .held }

/-- The three temperature samples of a second (R14). -/
def sampleTemperatures (tw tr ta : AnalogCode) (s : State) : State :=
  let w := temperatureOf (setting s).calW (tw.toNat : Int)
  let r := temperatureOf (setting s).calR (tr.toNat : Int)
  let a := temperatureOf (setting s).calA (ta.toNat : Int)
  let s1 := { s with msu := { s.msu with
    tw := channelAfter w s.msu.tw, tr := channelAfter r s.msu.tr, ta := channelAfter a s.msu.ta } }
  setCondition .tempA (!goodTemperature a)
    (setCondition .tempR (!goodTemperature r) (setCondition .tempW (!goodTemperature w) s1))

/-! ### The second event -/

/-- The sample-taken event goes to the blocks that read the measurement (R2, R16; the order is log 21). -/
def sampleTaken (s : State) : State :=
  frostSample (fillSample (guardSample (handField .measurement s)))

/-- The sampling of a second, with the evaluation put off to it at its start (R2, R172). -/
def takeSamples (p tw tr ta : AnalogCode) (s : State) : State :=
  sampleTaken (sampleTemperatures tw tr ta (samplePressure p (takePending s)))

/-- The second event (R1, R2). In UNCONFIGURED only the time base counts. -/
def secondPasses (p tw tr ta : AnalogCode) (s : State) : State :=
  let s1 := countSecond s
  if active s1 then takeSamples p tw tr ta (countTimers s1) else s1

/-! ### The minute mark -/

/-- The minute-mark record (R11, R12). -/
def markRecord (m : Measure) : Measure :=
  if m.level = .fresh then
    { m with
      lm := m.lf, vm := m.volume
      rate := if m.primed then clampTo (-999) 999 (m.lf - m.lm) else 0
      dv := if m.primed then m.volume - m.vm else 0
      stale := false, primed := true }
  else { m with rate := 0, dv := 0, stale := true, primed := false }

/-- The change rule at a minute mark (R179). -/
def changeRule (s : State) : State :=
  if s.rpu.changeSeen then dueEvent { s with rpu := { s.rpu with changeSeen := false } } else s

/-- The jobs take the minute mark (log 21). -/
def markJobs (s : State) : State := stagnationMinute (fillFollows (guardMinute (fillMinute (changeRule s))))

/-- The minute mark (R1, R10). -/
def minutePasses (s : State) : State :=
  let s1 := { s with msu := { markRecord s.msu with minuteDue := false } }
  if active s1 then markJobs s1 else s1

/-! ### The commands -/

/-- SECOND_EVENT (R1, R2). -/
def execSecondEvent (p tw tr ta : AnalogCode) (s : State) : Host.Outcome State Fault Refusal :=
  occurs (loaded s && s.msu.running) (secondPasses p tw tr ta) s

/-- MINUTE_MARK (R1, R10). -/
def execMinuteMark (s : State) : Host.Outcome State Fault Refusal :=
  occurs (loaded s && s.msu.minuteDue) minutePasses s

end Sys2Proof.Machine
end

