-- ==== Sys2Proof/Machine/LineEvents.lean ====
section
/-! DEFINITION. The line unit's own events: line states (R45), win-time (R46 to R48), echo conflict and driver failure (R49), notice sent (R50), discarded (R42), line fault (R51), roll call (R56 to R58), duplicate timer (R44). -/

namespace Sys2Proof.Machine

/-! ### Line state -/

/-- Quiet begins: the slot count starts at 0; out of SKIP this station's starts are held off (R45). -/
def beginQuiet (s : State) : State :=
  { s with lnu := { s.lnu with
    state := .quiet, slot := 0, heldOff := s.lnu.state == .skip, recessive := 16, parser := .atReset } }

/-- A start bit from another station: the parser begins and any slot count is abandoned (R42, R45). -/
def beginReceiving (s : State) : State :=
  { s with lnu := { s.lnu with
    state := .receiving, slot := 0, heldOff := false, recessive := 0, parser := .atReset } }

/-- The entry whose notice is on the line returns to WAITING; a renewed one takes its new kind (R49, R53). -/
def backToWaiting (e : QueueEntry) : QueueEntry :=
  if e.sending then { e.holding (e.renewed.getD e.item) with sending := false, renewed := none } else e

/-- The notice on the line ends unsent. -/
def abandonSending (s : State) : State :=
  { s with lnu := { s.lnu with queue := s.lnu.queue.map backToWaiting, onLine := none } }

/-- The line state becomes SKIP with an empty parser (R42, R45). The 16 recessive bit times that end it are counted from here, also
where some had passed before (log 52). -/
def enterSkip (s : State) : State :=
  { s with lnu := { s.lnu with state := .skip, recessive := 0, parser := .atReset } }

/-- A discarded notice: a line error, a NOTE occurrence where notices are handed on, and SKIP (R42, R194, log 35). -/
def discardNotice (s : State) : State :=
  let s1 := lineError (enterSkip (abandonSending s))
  if active s then noteOccurrence s1 else s1

/-! ### Win-time (R46 to R48, R86) -/

/-- The slot of an entry (R46). -/
def slotOf (e : QueueEntry) (s : State) : Nat := (7 - e.urgency) * 25 + (setting s).station

/-- The slot at whose beginning a head starts: its own where that is the present one or still to come, else the next one (R47), the
slot begun last being the present one (log 15);
while the starts after SKIP are held off, the first one past the 64 bit times of quiet that remain (R45, logs 14, 52). -/
def startSlot (e : QueueEntry) (s : State) : Nat :=
  let fair := if slotOf e s < s.lnu.slot then s.lnu.slot + 1 else slotOf e s
  if s.lnu.heldOff then max 8 fair else fair

/-- The slot that begins is that of the head. -/
def headStarts (slot : Nat) (s : State) : Bool :=
  s.lnu.state == .quiet &&
    match queueHead s.lnu.queue with
    | none => false
    | some e => slot == startSlot e s

/-- A slot passes while nothing is commanded: in QUIET the next slot begins, unless the head is to start at it, which WIN_TIME
tells (R46, log 15). -/
def passSlot (s : State) : State :=
  if s.lnu.state == .quiet && ((queueHead s.lnu.queue).map (fun e => decide (s.lnu.slot + 1 < startSlot e s))).getD true then
    { s with lnu := { s.lnu with slot := s.lnu.slot + 1 } }
  else s

/-- An initial CLAIM of the own claim or its raise stands ANNOUNCING. -/
def announcing (r : Resource) (s : State) : Bool :=
  (own r s).state == .announcing || ((own r s).raise.map Raise.phase) == some .announcing

/-- The owner, or for a CLAIM under DUP_STATION the line unit, cancels the notice (R48, R86). -/
def cancelled (item : Outgoing) (u : Nat) (s : State) : Bool :=
  match item with
  | .claim r false =>
    dupPresent s || !announcing r s ||
      (decide (u < 6) && (!fits r (claimAmount r false s) s || (incomplete r s).isSome))
  | .claim r true => dupPresent s || (own r s).state != .held
  | _ => false

/-- A cancelled notice leaves the queue; an initial CLAIM returns its claim to WAITING, which is re-examined (R48, R86). -/
def cancelHead (item : Outgoing) (s : State) : State :=
  let s1 := { s with lnu := { s.lnu with queue := removeUnder (keyOf item) s.lnu.queue } }
  match item with
  | .claim r false => emit (.reexamine r) (claimBackToWaiting r s1)
  | _ => s1

/-- The body is filled and the start bit driven (R46, R48). -/
def startSending (e : QueueEntry) (s : State) : State :=
  { s with
    bodiesFilled := s.bodiesFilled + 1
    lnu := { s.lnu with
      state := .sending, recessive := 0, heldOff := false
      queue := changeUnder (keyOf e.item) (fun x => { x with sending := true }) s.lnu.queue
      onLine := some { item := e.item, urgency := e.urgency, body := bodyOf e.item s } } }

/-- The head is asked for its body; where it is cancelled the next head is asked if this slot is its own (R48). -/
def winSlot (slot : Nat) : Nat → State → State
  | 0, s => s
  | n + 1, s =>
    match queueHead s.lnu.queue with
    | none => s
    | some e =>
      if cancelled e.item e.urgency s then
        let s1 := cancelHead e.item s
        match queueHead s1.lnu.queue with
        | none => s1
        | some e1 => if startSlot e1 s1 = slot then winSlot slot n s1 else s1
      else startSending e s

/-- The slot begins, those before it having passed: at most the eight entries of the queue are asked. -/
def winTime (slot : Nat) (s : State) : State :=
  winSlot slot 8 { s with lnu := { s.lnu with slot := slot } }

/-! ### Read-back (R49) -/

/-- The notice on the line drives a bit to a level. The stop bit of the second check character is its last bit (log 37). -/
def drives (dominant : Bool) (b : Nat) (s : State) : Bool :=
  s.lnu.state == .sending && drivenDominant (lineChars s) b == some dominant

/-- Characters still expected once three are known (R42). -/
def expectedAfter (chars : List Byte) : Option Nat :=
  if 3 ≤ chars.length then some (byteAt chars 2 + 5 - chars.length) else none

/-- The levels of the character under way that have been read when bit b is lost: those driven since its start bit, then the
dominant bit just read (R49). -/
def readBits (b : Nat) (s : State) : List Bool :=
  (List.range (b % 10)).map (fun i => (drivenDominant (lineChars s) (10 * (b / 10) + i)).getD false) ++ [true]

/-- Another station holds the line: this one receives, from the characters and bits already read (R49). -/
def loseEcho (b : Nat) (s : State) : State :=
  let read := (lineChars s).take (b / 10)
  let s1 := noteOccurrence (abandonSending s)
  { s1 with lnu := { s1.lnu with
    state := .receiving
    parser := { chars := read, bits := readBits b s, expected := expectedAfter read, gapBits := 0 } } }

/-- The own driver has not reached the line (R49). -/
def failDriver (s : State) : State := lineError (enterSkip (abandonSending s))

/-! ### Sent (R50) -/

/-- The entry on the line leaves the queue, or stays if it was renewed (R50, R53); whether its initial CLAIM has now been sent is
kept (R54). -/
def afterSending : List QueueEntry → List QueueEntry
  | [] => []
  | e :: rest =>
    if e.sending then
      match e.renewed with
      | none => afterSending rest
      | some item =>
        { QueueEntry.holding item { e with everSent := e.everSent || isInitialClaim e.item } with
          renewed := none, sending := false } :: afterSending rest
    else e :: afterSending rest

/-- The answer of this station to a roll call, as the owning block stands (R56, R32, R69, R98). -/
def answerTo (q : Question) (s : State) : Bool :=
  match q with
  | .hold r => (own r s).state == .held
  | .alarm u => alarmAnswer u s
  | .stopping => s.ogu.stop.isSome

/-- ANSWER WAIT with the question and this station's answer (R56). -/
def beginRollCall (q : Question) (mine : Bool) (s : State) : State :=
  { s with lnu := { s.lnu with
    state := .answerWait
    rollCall := some { question := q, mine := mine, answer := answerTo q s, samples := 0 } } }

/-- The report unit on a REPORT sent, with the figures its body carried (R180, R59). -/
def reportSent (body : List Byte) (s : State) : State :=
  { s with
    rpu := { s.rpu with
      sent := s.rpu.sent + 1, queued := false, skippedField := s.rpu.skippedField - byteAt body 20 }
    lnu := { s.lnu with errors := s.lnu.errors - byteAt body 21 } }

/-- The owner is told that its notice has been sent, with the body as filled (R50). -/
def tellSent (o : OnLine) (s : State) : State :=
  match o.item with
  | .report => reportSent o.body s
  | .claim r refresh => claimSent r refresh (byteAt o.body 1) o.urgency s
  | .release _ => s
  | .alarm .spill => spillAlarmSent ((byteAt o.body 1).testBit 0) s
  | .alarm _ => s
  | .stop => stopSent ((byteAt o.body 0).testBit 0) (byteAt o.body 1) s
  | .tariff => s
  | .rollcall _ => s
  | .trip => s

/-- The line after a notice sent: GAP, or ANSWER WAIT after a ROLLCALL (R45, R50, R56). -/
def lineAfterSent (o : OnLine) (s : State) : State :=
  match o.item with
  | .rollcall q => beginRollCall q true s
  | _ => { s with lnu := { s.lnu with state := .gap } }

/-- The notice on the line is sent (R50). -/
def finishSending (s : State) : State :=
  match s.lnu.onLine with
  | none => s
  | some o =>
    let s1 := tellSent o s
    lineAfterSent o { s1 with lnu := { s1.lnu with queue := afterSending s1.lnu.queue, onLine := none } }

/-! ### Line fault (R51) -/

/-- LINE FAULT: LINE_ISOLATED is present, a notice or roll call in progress is abandoned, and the frost controller
evaluates (R51, R158, log 27). -/
def enterLineFault (s : State) : State :=
  let s1 := abandonSending s
  let s2 := { s1 with lnu := { s1.lnu with
    state := .lineFault, dominantRun := 65, recessive := 0, slot := 0, heldOff := false
    parser := .atReset, rollCall := none } }
  emit .frostEvaluate (raiseCondition .lineIsolated s2)

/-- LINE FAULT ends: QUIET, LINE_ISOLATED absent, both resources incomplete, the peer table's questions (R51, R71, R100). -/
def leaveLineFault (s : State) : State :=
  let s1 := { s with lnu := { s.lnu with state := .quiet, slot := 0, dominantRun := 0, recessive := 16 } }
  let s2 := setIncomplete .load (setIncomplete .supply (clearCondition .lineIsolated s1))
  emit .frostEvaluate (askAfterFault s2)

/-! ### Window (R57, R58) -/

/-- The two halves of the window agree position by position (R58). -/
def mirrored (samples : WindowSamples) : Bool := samples.extractLsb' 0 24 == samples.extractLsb' 24 24

/-- A valid result goes to the block of its question (R58). -/
def giveResult (q : Question) (samples : WindowSamples) (s : State) : State :=
  match q with
  | .hold r => reconcile r samples s
  | .alarm u => alarmResult u samples s
  | .stopping => stoppingResult samples s

/-- The positions of the window that this station drives dominant: its two where its answer is yes (R57). -/
def drivenPositions (c : RollCall) (s : State) : WindowSamples :=
  if c.answer then
    BitVec.twoPow 48 ((setting s).station - 1) ||| BitVec.twoPow 48 (24 + ((setting s).station - 1))
  else 0

/-- What the window reads: a position is dominant where any station drives it, this one included (R57). -/
def readWindow (samples : WindowSamples) (s : State) : WindowSamples :=
  match s.lnu.rollCall with
  | none => samples
  | some c => samples ||| drivenPositions c s

/-- The samples stay in the roll-call context (log 23). -/
def keepSamples (samples : WindowSamples) (s : State) : State :=
  { s with lnu := { s.lnu with rollCall := s.lnu.rollCall.map (fun c => { c with samples := samples }) } }

/-- The verdict on a window (R58): a garbled one is a NOTE and marks a HOLD resource incomplete. -/
def judgeWindow (c : RollCall) (samples : WindowSamples) (s : State) : State :=
  let s1 :=
    if mirrored samples then giveResult c.question samples s
    else markIncompleteFor c.question (noteOccurrence s)
  if c.mine then questionDone c.question s1 else s1

/-- The window ends (R57, R58), the line as the other stations drive it given. Without a context, after a duplicate's ROLLCALL,
no block asked for the result (log 22). -/
def endWindow (line : WindowSamples) (s : State) : State :=
  let samples := readWindow line s
  let s1 := keepSamples samples { s with lnu := { s.lnu with state := .gap } }
  match s.lnu.rollCall with
  | some c => judgeWindow c samples s1
  | none => if mirrored samples then s1 else noteOccurrence s1

/-! ### The duplicate timer (R44) -/

/-- DUP_STATION becomes absent and the waiting claims are re-examined, SUPPLY before LOAD (R44, R100, log 46). -/
def endDuplicate (s : State) : State :=
  emit (.reexamine .load) (emit (.reexamine .supply)
    (clearCondition .dupStation { s with lnu := { s.lnu with dupTimer := none } }))

/-! ### The commands -/

/-- QUIET_REACHED (R45). -/
def execQuietReached (s : State) : Host.Outcome State Fault Refusal :=
  occurs (loaded s && (s.lnu.state == .gap || s.lnu.state == .skip)) beginQuiet s

/-- START_BIT_FROM_ANOTHER_STATION (R45). -/
def execStartBitFromAnotherStation (s : State) : Host.Outcome State Fault Refusal :=
  occurs (loaded s && (s.lnu.state == .gap || s.lnu.state == .quiet)) beginReceiving s

/-- WIN_TIME (R46 to R48). -/
def execWinTime (slot : Nat) (s : State) : Host.Outcome State Fault Refusal :=
  occurs (active s && headStarts slot s) (winTime slot) s

/-- ECHO_CONFLICT (R49): the bit is one that this station drives recessive. -/
def execEchoConflict (b : Nat) (s : State) : Host.Outcome State Fault Refusal :=
  occurs (active s && drives false b s) (loseEcho b) s

/-- DRIVER_FAILURE (R49): the bit is one that this station drives dominant. -/
def execDriverFailure (b : Nat) (s : State) : Host.Outcome State Fault Refusal :=
  occurs (active s && drives true b s) failDriver s

/-- NOTICE_SENT (R50). -/
def execNoticeSent (s : State) : Host.Outcome State Fault Refusal :=
  occurs (active s && s.lnu.state == .sending) finishSending s

/-- NOTICE_DISCARDED (R42): the cause decides nothing further. -/
def execNoticeDiscarded (_ : DiscardCause) (s : State) : Host.Outcome State Fault Refusal :=
  occurs (loaded s && (s.lnu.state == .receiving || s.lnu.state == .sending)) discardNotice s

/-- DUP_TIMER_EXPIRY (R44). -/
def execDupTimerExpiry (s : State) : Host.Outcome State Fault Refusal :=
  occurs (active s && decide (600 ≤ s.lnu.dupTimer.getD 0)) endDuplicate s

/-- LINE_FAULT_ENTRY (R51): from any state but WINDOW. -/
def execLineFaultEntry (s : State) : Host.Outcome State Fault Refusal :=
  occurs (active s && s.lnu.state != .window && s.lnu.state != .lineFault) enterLineFault s

/-- LINE_FAULT_EXIT (R51). -/
def execLineFaultExit (s : State) : Host.Outcome State Fault Refusal :=
  occurs (active s && s.lnu.state == .lineFault) leaveLineFault s

/-- ANSWER_WAIT_END (R56). -/
def execAnswerWaitEnd (s : State) : Host.Outcome State Fault Refusal :=
  occurs (active s && s.lnu.state == .answerWait) (fun t => { t with lnu := { t.lnu with state := .window } }) s

/-- WINDOW_END (R57, R58). -/
def execWindowEnd (samples : WindowSamples) (s : State) : Host.Outcome State Fault Refusal :=
  occurs (active s && s.lnu.state == .window) (endWindow samples) s

end Sys2Proof.Machine
end

