-- ==== Sys2Proof/Machine/NoticeEvents.lean ====
section
/-! DEFINITION. NOTICE_HEARD: what each valid notice does (R43), a notice with this station's own number (R44), ACK (R29, R30), and what UNCONFIGURED makes of a notice (R194). -/

namespace Sys2Proof.Machine

/-! ### The line after a notice heard -/

/-- GAP with an empty parser (R45). -/
def lineAfterHeard (s : State) : State :=
  { s with lnu := { s.lnu with state := .gap, recessive := 0, parser := .atReset } }

/-- The contents are a ROLLCALL. -/
def isRollcall : Content → Bool
  | .rollcall _ => true
  | _ => false

/-- In UNCONFIGURED nothing is handed on; the window of a roll call passes in SKIP (R43, R56, R194). -/
def heardUnconfigured (h : Heard) (s : State) : State :=
  if isRollcall h.content then enterSkip s else lineAfterHeard s

/-! ### Duplicate station (R44, R100) -/

/-- DUP_STATION becomes present: the own claims are released, SUPPLY before LOAD (R100, log 46). -/
def beginDuplicate (s : State) : State :=
  releaseForDuplicate .load (releaseForDuplicate .supply (raiseCondition .dupStation s))

/-- A notice with this station's number from elsewhere: the timer restarts, the line state moves as for any notice (R44, log 22). -/
def heardDuplicate (h : Heard) (s : State) : State :=
  let s1 := lineAfterHeard s
  let s2 := { s1 with lnu := { s1.lnu with
    dupTimer := some 0
    state := if isRollcall h.content then .answerWait else .gap
    rollCall := if isRollcall h.content then none else s1.lnu.rollCall } }
  if dupPresent s2 then s2 else beginDuplicate s2

/-! ### ACK (R29, R30) -/

/-- An ACK acts unless MAINT is ACTIVE with the remote-ack setting OFF (R30). -/
def ackPermitted (s : State) : Bool := !debounced .maint s || (setting s).remoteAck

/-- The latches that the latch set of an ACK names, in the order of the ALARM codes. -/
def namedLatches (bits : Nat) : List Latch := allLatches.filter (fun l => bits.testBit (latchIndex l).val)

/-- An ACK from a gateway (R29): the latches it names, then the HOLD faults (log 39). -/
def takeAck (target bits : Nat) (faults : Bool) (s : State) : State :=
  if target = (setting s).station ∧ ackPermitted s = true then
    let s1 := ackLatches (namedLatches bits) s
    let s2 := if faults then ackFaults s1 else s1
    fillFollows (frostJudge (guardExamine false s2))
  else s

/-! ### Handing on (R43) -/

/-- The peer table takes the contents that it uses, by the sender's role (R62, R64 to R67). -/
def writePeer (h : Heard) (s : State) : State :=
  let p := peerAt h.station s
  match h.role with
  | .tower =>
    match h.content with
    | .report level g stop => setPeer h.station (reportRecord level g stop p) s
    | .alarm code set => setPeer h.station (alarmRecord code set p) s
    | .stop on cause => setPeer h.station (stopRecord on cause p) s
    | .trip => setPeer h.station (tripRecord p) s
    | _ => s
  | .supply =>
    match h.content with
    | .supply slots pumps honoured => setPeer h.station (supplyRecord slots pumps honoured p) s
    | _ => s
  | .gateway => s

/-- Then the block of the kind takes it (R43). -/
def handOn (h : Heard) (s : State) : State :=
  match h.content with
  | .report _ _ _ => s
  | .claim r amount refresh => claimHeard r refresh h.station amount h.urgency s
  | .release r => removeEntry r h.station s
  | .alarm _ _ => s
  | .stop _ _ => s
  | .tariff night elapsed => tariffHeard night elapsed s
  | .rollcall q => beginRollCall q false s
  | .trip => s
  | .supply _ _ _ => if h.role = .supply then examineConfirmation s else s
  | .ack target bits faults => if h.role = .gateway then takeAck target bits faults s else s

/-- A valid notice of another station: the peer table first, then the block of its kind (R43, R62). -/
def heardPeer (h : Heard) (s : State) : State :=
  handOn h (peersChanged (writePeer h (hearSender h.station h.role (lineAfterHeard s))))

/-- A valid notice (R43, R44, R194). -/
def heardValid (h : Heard) (s : State) : State :=
  if active s then
    if h.station = (setting s).station then heardDuplicate h s else heardPeer h s
  else heardUnconfigured h s

/-- A notice completed by the parser (R42, log 28). -/
def noticeCompleted (chars : List Byte) (s : State) : State :=
  match readNotice chars with
  | .error _ => discardNotice s
  | .ok h => heardValid h s

/-- The parser is receiving, and the notice continues the characters and the bits it has read (R42, R49). -/
def receives (chars : List Byte) (s : State) : Bool :=
  s.lnu.state == .receiving && complete chars && s.lnu.parser.chars.isPrefixOf chars &&
    (List.range s.lnu.parser.bits.length).all (fun i =>
      drivenDominant chars (10 * s.lnu.parser.chars.length + i) == s.lnu.parser.bits[i]?)

/-- NOTICE_HEARD (R43). -/
def execNoticeHeard (chars : List Byte) (s : State) : Host.Outcome State Fault Refusal :=
  occurs (loaded s && receives chars s) (noticeCompleted chars) s

end Sys2Proof.Machine
end

