-- ==== Sys2Proof/Machine/TimerEvents.lean ====
section
/-! DEFINITION. The timer rows of the jobs, the claim unit, the peer table and the report unit: each acts once its count in State is reached (log 3, log 5). -/

namespace Sys2Proof.Machine

/-- A count-down that has run out. -/
def runOut (t : Option Nat) : Bool := t == some 0

/-! ### Peers and their entries -/

/-- A record whose silence has reached the peer timeout (R63). -/
def silent (n : Nat) (s : State) : Bool :=
  (peerAt n s).state == .heard && decide ((setting s).peerTimeout ≤ (peerAt n s).silence)

/-- The settle timer of a peer entry has run out (R81). -/
def settled (h : Holding) : Bool :=
  match h.share with
  | .held _ => false
  | .settling _ _ t _ => t == 0

/-- The entry becomes HELD at its pending amount (R81). -/
def settleHolding (h : Holding) : Holding := { h with share := .held (yieldPart h.share) }

/-- A peer entry's settle ends (R81). -/
def settlePeer (r : Resource) (n : Nat) (s : State) : State :=
  emit (.reexamine r) (setEntry r n ((entryAt r n s).map settleHolding) s)

/-- The age at which a peer entry is removed (R82). -/
def ageLimit (s : State) : Nat := ((setting s).allowance + 1) * (setting s).tRefresh + (setting s).tSettle

/-- The entry of another station, tested. -/
def peerEntryIs (p : Holding → Bool) (r : Resource) (n : Nat) (s : State) : Bool :=
  n != (setting s).station && ((entryAt r n s).map p).getD false

/-! ### Own claims -/

/-- A settling claim or raise whose timer has run out (R89). -/
def settleDue (r : Resource) (s : State) : Bool := ownSettling r s && runOut (own r s).settle

/-- The refresh lead of a HELD claim has come and is not yet acted on (R92). -/
def leadDue (r : Resource) (s : State) : Bool :=
  let c := own r s
  c.state == .held && !c.leadDone && (c.refresh.map (fun t => decide (t ≤ (setting s).tSettle))).getD false

/-- The refresh time of a HELD claim has come (R92). -/
def refreshDue (r : Resource) (s : State) : Bool := (own r s).state == .held && runOut (own r s).refresh

/-! ### Joining (R101) -/

/-- The listening period ends: both HOLD questions, the first queued, the answer timer at 30 s (R101). -/
def endListening (s : State) : State :=
  askNext { s with clu := { s.clu with
    listening := none, answer := some 30, questions := [.hold .supply, .hold .load] } }

/-- The answer timer ends: unanswered resources are incomplete and the station is JOINED (R101). -/
def endAnswering (s : State) : State :=
  let s1 := if s.clu.answeredSupply then s else setIncomplete .supply s
  becomeJoined (if s1.clu.answeredLoad then s1 else setIncomplete .load s1)

/-! ### The commands -/

/-- PEER_LOST (R63). -/
def execPeerLost (n : Nat) (s : State) : Host.Outcome State Fault Refusal :=
  occurs (active s && silent n s) (losePeer n) s

/-- TARIFF_NIGHT_TIMEOUT (R74): the row that follows a mark whose count ends the night (log 5). -/
def execTariffNightTimeout (s : State) : Host.Outcome State Fault Refusal :=
  occurs (active s && s.flc.nightTimeoutDue) nightTimesOut s

/-- PEER_SETTLE_EXPIRY (R81). -/
def execPeerSettleExpiry (n : Nat) (r : Resource) (s : State) : Host.Outcome State Fault Refusal :=
  occurs (active s && peerEntryIs settled r n s) (settlePeer r n) s

/-- ENTRY_AGED_OUT (R82). -/
def execEntryAgedOut (n : Nat) (r : Resource) (s : State) : Host.Outcome State Fault Refusal :=
  occurs (active s && peerEntryIs (fun h => decide (ageLimit s ≤ h.age)) r n s) (removeEntry r n) s

/-- OWN_SETTLE_EXPIRY (R89, R91). -/
def execOwnSettleExpiry (r : Resource) (s : State) : Host.Outcome State Fault Refusal :=
  occurs (active s && settleDue r s) (ownSettleDone r) s

/-- REFRESH_LEAD (R92, R93). -/
def execRefreshLead (r : Resource) (s : State) : Host.Outcome State Fault Refusal :=
  occurs (active s && leadDue r s) (refreshLeadReached r) s

/-- REFRESH_TIME (R92). -/
def execRefreshTime (r : Resource) (s : State) : Host.Outcome State Fault Refusal :=
  occurs (active s && refreshDue r s) (refreshMissed r) s

/-- INCOMPLETE_TIMER_EXPIRY (R99). -/
def execIncompleteTimerExpiry (r : Resource) (s : State) : Host.Outcome State Fault Refusal :=
  occurs (active s && runOut (incomplete r s)) (fun t => emit (.reexamine r) (setIncompleteTimer r none t)) s

/-- LISTENING_TIMER_EXPIRY (R101). -/
def execListeningTimerExpiry (s : State) : Host.Outcome State Fault Refusal :=
  occurs (active s && runOut s.clu.listening) endListening s

/-- ANSWER_TIMER_EXPIRY (R101). -/
def execAnswerTimerExpiry (s : State) : Host.Outcome State Fault Refusal :=
  occurs (active s && runOut s.clu.answer && s.sld.mode == .joining) endAnswering s

/-- OPEN_TIMER_EXPIRY (R118). -/
def execOpenTimerExpiry (s : State) : Host.Outcome State Fault Refusal :=
  occurs (active s && runOut s.flc.openTimer && isFill s.flc.state && s.odu.position != .opened) openExpires s

/-- CLEARING_TIMER_EXPIRY (R119). -/
def execClearingTimerExpiry (s : State) : Host.Outcome State Fault Refusal :=
  occurs (active s && decide (900 ≤ s.flc.clearing.getD 0)) clearingExpires s

/-- STROKE_TIMER_EXPIRY (R129). -/
def execStrokeTimerExpiry (s : State) : Host.Outcome State Fault Refusal :=
  occurs (active s && runOut s.ogu.stroke && s.ogu.state == .cut && s.odu.position != .closed)
    (fun t => fillFollows (strokeExpires t)) s

/-- CONFIRM_TIMER_EXPIRY (R140). -/
def execConfirmTimerExpiry (s : State) : Host.Outcome State Fault Refusal :=
  occurs (active s && runOut s.ogu.confirmTimer && s.ogu.confirm == .waiting)
    (fun t => fillFollows (confirmExpires t)) s

/-- STAGNATION_PERIOD_END (R159, R160). -/
def execStagnationPeriodEnd (s : State) : Host.Outcome State Fault Refusal :=
  occurs (active s && decide (60 * (setting s).stagHours ≤ s.frc.stagMinutes)) stagnationEnds s

/-- REPORT_TIMER_DUE (R178, log 5). -/
def execReportTimerDue (s : State) : Host.Outcome State Fault Refusal :=
  occurs (active s && s.rpu.timerDue) (fun t => dueEvent { t with rpu := { t.rpu with timerDue := false } }) s

end Sys2Proof.Machine
end

