-- ==== Sys2Proof/Machine/Dispatch.lean ====
section
/-! DEFINITION. One arm for each command, each a direct call of its meaning. -/

namespace Sys2Proof.Machine

def exec (i : Instr) (s : State) : Host.Outcome State Fault Refusal :=
  match i with
  | .powerOnReset => Sys2Proof.Machine.execPowerOnReset s
  | .externalReset => Sys2Proof.Machine.execExternalReset s
  | .loadAttemptDone block => Sys2Proof.Machine.execLoadAttemptDone block s
  | .retryWaitExpiry => Sys2Proof.Machine.execRetryWaitExpiry s
  | .secondEvent p tw tr ta => Sys2Proof.Machine.execSecondEvent p tw tr ta s
  | .minuteMark => Sys2Proof.Machine.execMinuteMark s
  | .rawInputChange input closed => Sys2Proof.Machine.execRawInputChange input closed s
  | .inputSettled input => Sys2Proof.Machine.execInputSettled input s
  | .proofTimerExpiry stage => Sys2Proof.Machine.execProofTimerExpiry stage s
  | .quietReached => Sys2Proof.Machine.execQuietReached s
  | .winTime slot => Sys2Proof.Machine.execWinTime slot s
  | .echoConflict bit => Sys2Proof.Machine.execEchoConflict bit s
  | .driverFailure bit => Sys2Proof.Machine.execDriverFailure bit s
  | .noticeSent => Sys2Proof.Machine.execNoticeSent s
  | .noticeHeard chars => Sys2Proof.Machine.execNoticeHeard chars s
  | .noticeDiscarded cause => Sys2Proof.Machine.execNoticeDiscarded cause s
  | .dupTimerExpiry => Sys2Proof.Machine.execDupTimerExpiry s
  | .lineFaultEntry => Sys2Proof.Machine.execLineFaultEntry s
  | .lineFaultExit => Sys2Proof.Machine.execLineFaultExit s
  | .answerWaitEnd => Sys2Proof.Machine.execAnswerWaitEnd s
  | .windowEnd samples => Sys2Proof.Machine.execWindowEnd samples s
  | .peerLost station => Sys2Proof.Machine.execPeerLost station s
  | .tariffNightTimeout => Sys2Proof.Machine.execTariffNightTimeout s
  | .peerSettleExpiry station resource => Sys2Proof.Machine.execPeerSettleExpiry station resource s
  | .entryAgedOut station resource => Sys2Proof.Machine.execEntryAgedOut station resource s
  | .ownSettleExpiry resource => Sys2Proof.Machine.execOwnSettleExpiry resource s
  | .refreshLead resource => Sys2Proof.Machine.execRefreshLead resource s
  | .refreshTime resource => Sys2Proof.Machine.execRefreshTime resource s
  | .incompleteTimerExpiry resource => Sys2Proof.Machine.execIncompleteTimerExpiry resource s
  | .listeningTimerExpiry => Sys2Proof.Machine.execListeningTimerExpiry s
  | .answerTimerExpiry => Sys2Proof.Machine.execAnswerTimerExpiry s
  | .openTimerExpiry => Sys2Proof.Machine.execOpenTimerExpiry s
  | .clearingTimerExpiry => Sys2Proof.Machine.execClearingTimerExpiry s
  | .strokeTimerExpiry => Sys2Proof.Machine.execStrokeTimerExpiry s
  | .confirmTimerExpiry => Sys2Proof.Machine.execConfirmTimerExpiry s
  | .stagnationPeriodEnd => Sys2Proof.Machine.execStagnationPeriodEnd s
  | .reportTimerDue => Sys2Proof.Machine.execReportTimerDue s
  | .startBitFromAnotherStation => Sys2Proof.Machine.execStartBitFromAnotherStation s
  | .resetPinReturnsHigh => Sys2Proof.Machine.execResetPinReturnsHigh s

end Sys2Proof.Machine
end

