-- ==== Sys2Proof/Safety.lean ====
section
/-! DEFINITION. What counts as a safe state: the laws of the device that every step is to keep, and the terms the statements use. -/

namespace Sys2Proof.Machine

/-! ### Answers -/

/-- The command answers a next state, and that state has the property. -/
def Answers (o : Host.Outcome State Fault Refusal) (p : State → Prop) : Prop := ∃ t, o = .next t ∧ p t

/-- No hand-on is left over from an earlier event (log 6). -/
def Settled (s : State) : Prop := s.handOns = []

/-! ### What hand-ons leave alone -/

/-- What no hand-on of an event changes: a command changes these only by its own effect (log 6). Left out are what the
hand-ons work on: the queue, the own claims and entries, the fill state and plan, the stages, the situation key, the orders,
the report counts, the NOTE count and the mode. -/
structure Quiet where
  pending : List Instr
  pins : Vector Bool 17
  resetLow : Bool
  bodiesFilled : Nat
  settings : Settings
  load : LoadState
  attempt : Nat
  clamped : Nat
  msu : Measure
  ilu : Inputs
  position : Position
  line : Line
  ptb : Peers
  others : Resource → Nat → Option Holding
  night : Bool
  elapsed : Nat
  silence : Nat
  timeoutDue : Bool
  qEst : Option Int
  clearing : Option Nat
  shortfall : Int
  ogu : Guard
  airWatch : Bool
  critical : Bool
  failed : Vector Bool 4
  stagLow : Option Int
  stagHigh : Option Int
  stagMinutes : Nat
  turnover : Bool
  ftu : Faults

/-- The entries of other stations for a resource. -/
def othersOf (s : State) (r : Resource) (n : Nat) : Option Holding :=
  if n = (setting s).station then none else entryAt r n s

/-- The unchanging part of a state. -/
def quiet (s : State) : Quiet :=
  { pending := s.pending, pins := s.pins, resetLow := s.resetLow, bodiesFilled := s.bodiesFilled
    settings := s.sld.settings, load := s.sld.load, attempt := s.sld.attempt, clamped := s.sld.clamped
    msu := s.msu, ilu := s.ilu, position := s.odu.position
    line := { s.lnu with queue := [], nextAge := 0 }
    ptb := s.ptb, others := othersOf s
    night := s.flc.night, elapsed := s.flc.elapsed, silence := s.flc.silence
    timeoutDue := s.flc.nightTimeoutDue, qEst := s.flc.qEst, clearing := s.flc.clearing, shortfall := s.flc.shortfall
    ogu := s.ogu
    airWatch := s.frc.airWatch, critical := s.frc.critical, failed := s.frc.failed
    stagLow := s.frc.stagLow, stagHigh := s.frc.stagHigh, stagMinutes := s.frc.stagMinutes
    turnover := s.frc.turnoverRequest
    ftu := { s.ftu with notes := 0 } }

/-! ### Terms of the statements -/

/-- A condition has been made present by an event: where it was absent its code has entered the fault set (R182). -/
def Raised (c : FaultCode) (s t : State) : Prop :=
  conditionPresent c t = true ∧ (conditionPresent c s = false → inFaultSet c t = true)

/-- A DEGRADE condition has been made absent by an event: where it was present its code is out of the fault set (R183). -/
def Ended (c : FaultCode) (s t : State) : Prop :=
  conditionPresent c t = false ∧ (conditionPresent c s = true → inFaultSet c t = false)

/-- The capacity is the sum of the slots that HEARD supply stations last offered (R67), and the summary bits say of the HEARD records
what R68 states. -/
def PeersSummed (t : State) : Prop :=
  t.ptb.capacity = (t.ptb.records.toList.map (fun p =>
    if p.state = .heard ∧ p.role = some .supply then (p.supply.map LastSupply.slots).getD 0 else 0)).sum ∧
  (t.ptb.anySpill = true ↔ ∃ p ∈ t.ptb.records.toList, p.state = .heard ∧ p.spill = true) ∧
  (t.ptb.supplyAbsent = true ↔
    (∀ p ∈ t.ptb.records.toList, ¬ (p.state = .heard ∧ p.role = some .supply)) ∨ t.ptb.capacity = 0) ∧
  (t.ptb.alone = true ↔ ∀ p ∈ t.ptb.records.toList, p.state ≠ .heard)

/-- The demand is confirmed: some supply station is HEARD, and each one HEARD lists this station and shows no pump running (R139). -/
def SupplyConfirmed (s : State) : Prop :=
  (∃ p ∈ s.ptb.records.toList, p.state = .heard ∧ p.role = some .supply) ∧
  ∀ p ∈ s.ptb.records.toList, p.state = .heard → p.role = some .supply →
    ∃ x, p.supply = some x ∧ (setting s).station ∈ x.honoured ∧ x.pumps = 0

/-- The slot at whose beginning the head starts, in the words of R45 to R47: (7 - u) x 25 + s, the next one where that has gone by,
and none before the 64 bit times of quiet that remain after SKIP (logs 14, 15, 52). -/
def slotOfStart (e : QueueEntry) (s : State) : Nat :=
  let mine := (7 - e.urgency) * 25 + (setting s).station
  let fair := if mine < s.lnu.slot then s.lnu.slot + 1 else mine
  if s.lnu.heldOff then max 8 fair else fair

/-- What the line reads as in a window: a position is dominant where a station drives it, this one its own two where its answer is
yes (R57). -/
def windowRead (samples : WindowSamples) (c : RollCall) (s : State) : WindowSamples :=
  samples ||| (if c.answer then
    BitVec.twoPow 48 ((setting s).station - 1) ||| BitVec.twoPow 48 (24 + ((setting s).station - 1)) else 0)

/-- A notice has come in whole and passed every check (R42). -/
def HeardAs (chars : List Byte) (h : Heard) (s : State) : Prop := receives chars s = true ∧ readNotice chars = .ok h

/-- What another station reads in a notice as this one fills it (sections 9.2, 11.5). -/
def contentSent (item : Outgoing) (s : State) : Content :=
  match item with
  | .report => .report (s.msu.lf.toNat % 32768) (guardCode s.ogu.state) s.ogu.stop.isSome
  | .claim r refresh => .claim r (claimAmount r refresh s % 256) refresh
  | .release r => .release r
  | .alarm c => .alarm (alarmCodeNumber c) (alarmSet c s)
  | .stop =>
    match s.ogu.stop with
    | none => .stop false .stuck
    | some d => .stop true (if d.cause = .unknown then .stuck else d.cause)
  | .tariff => .tariff s.flc.night (s.flc.elapsed % 65536)
  | .rollcall q =>
    match q with
    | .alarm u => .rollcall (.alarm (min 7 (u % 256)))
    | _ => .rollcall q
  | .trip => .trip

/-- The own claim of a station is among the yielders (R95, R97). The candidates, each a station with its urgency and amount, yield in
the order least urgent first and, of equals, highest station first, until their amounts reach the excess: so one yields exactly where
the amounts of those before it have not. -/
def MustYield (candidates : List (Nat × Nat × Nat)) (me excess : Nat) : Prop :=
  ∃ u a, (me, u, a) ∈ candidates ∧
    ((candidates.filter (fun c => decide (c.2.1 < u ∨ c.2.1 = u ∧ me < c.1))).map (fun c => c.2.2)).sum < excess

/-! ### Outputs -/

/-- The INLET and ALARM relays, and the unproductive mark, stand as their conditions give them (R33, R125, R37, R124). -/
def OutputsFollow (s : State) : Prop :=
  s.odu.inletOpen = inletWanted s ∧ s.odu.alarm = alarmWanted s ∧ s.flc.unproductive = unproductiveNow s

/-- A state between events: no hand-on is left over and the outputs follow. -/
def Rested (s : State) : Prop := Settled s ∧ OutputsFollow s

/-! ### Safe hold -/

/-- In safe hold the STOP demand is on with cause SAFE (R137, R187). -/
def StopsInSafeHold (s : State) : Prop :=
  s.ftu.safeHold = true → ∃ d, s.ogu.stop = some d ∧ d.cause = .safe

/-- The law of safe hold: the demand stands with cause SAFE and the outputs follow, so the inlet is commanded closed (R187). -/
def SafeHoldKept (s : State) : Prop := StopsInSafeHold s ∧ OutputsFollow s

/-! ### The outgoing queue and the reports -/

/-- At most 8 entries, at most one for each replacement key, a renewed entry keeping its key (R52, R53). -/
def QueueKept (s : State) : Prop :=
  s.lnu.queue.length ≤ 8 ∧ (s.lnu.queue.map (fun e => keyOf e.item)).Nodup ∧
  ∀ e ∈ s.lnu.queue, ∀ x, e.renewed = some x → keyOf x = keyOf e.item

/-- A notice on the line stands in the queue under its key as SENDING (R50, R52). -/
def LineInQueue (s : State) : Prop :=
  ∀ o, s.lnu.onLine = some o → ∃ e ∈ s.lnu.queue, e.sending = true ∧ keyOf e.item = keyOf o.item

/-- The law of R177: due events are the reports sent, those skipped, and one while a REPORT is queued. -/
def ReportsAccounted (s : State) : Prop :=
  s.rpu.due = s.rpu.sent + s.rpu.skipped + (if s.rpu.queued then 1 else 0)

/-- The queued flag is set while a REPORT entry stands in the queue (R177). -/
def ReportFlagged (s : State) : Prop := (∃ e ∈ s.lnu.queue, e.item = .report) → s.rpu.queued = true

/-- A REPORT entry is not renewed: a due event that finds one queued is counted as skipped (R177). -/
def ReportNotRenewed (s : State) : Prop := ∀ e ∈ s.lnu.queue, e.item = .report → e.renewed = none

/-- The report law with what it rests on. -/
def ReportsKept (s : State) : Prop :=
  QueueKept s ∧ LineInQueue s ∧ ReportFlagged s ∧ ReportNotRenewed s ∧ ReportsAccounted s

/-! ### Measurement, learning, orders -/

/-- A configured station has loaded, and a station held in reset has not (R193, R195). -/
def LoadedModes (s : State) : Prop :=
  ((s.sld.mode = .joining ∨ s.sld.mode = .joined) → s.sld.load = .done) ∧
  (s.resetLow = true → s.sld.mode = .loading ∧ s.sld.load ≠ .done)

/-- The ring and the filtered level lie in 0..L_max once loaded, and are 0 before (R6, R17). -/
def LevelKept (s : State) : Prop :=
  LoadedModes s ∧
  (s.sld.load = .done → 0 ≤ s.msu.lf ∧ s.msu.lf ≤ (setting s).lMax ∧
    ∀ x ∈ s.msu.ring.toList, 0 ≤ x ∧ x ≤ (setting s).lMax) ∧
  (s.sld.load ≠ .done → s.msu.lf = 0 ∧ ∀ x ∈ s.msu.ring.toList, x = 0)

/-- Once loaded, q_est is set and lies in q_min..q_max (R122, R123). -/
def InflowKept (s : State) : Prop :=
  s.sld.load = .done →
    (setting s).qMin ≤ (setting s).qMax ∧
    ∃ q, s.flc.qEst = some q ∧ (setting s).qMin ≤ q ∧ q ≤ (setting s).qMax

/-- Nothing is handed on any more, and at most two questions of this station wait to be asked (R71, R101). -/
def ComesToRest (s : State) : Prop := Settled s ∧ s.clu.questions.length ≤ 2

/-- At most two orders changes have been issued in the event taken last (R172). -/
def OrdersBounded (s : State) : Prop := s.stu.changeCount ≤ 2

/-! ### Stages and the LOAD claim -/

/-- The failed-stage set, the failure signals, STAGE_FAIL with its mask and the group's quiet flag say the same (R36, R156, R183). -/
def StagesAgree (s : State) : Prop :=
  (∀ k : Fin 4, s.frc.failed[k] = failureSignal k s) ∧
  conditionPresent .stageFail s = anySet s.frc.failed ∧ inFaultSet .stageFail s = anySet s.frc.failed ∧
  s.ftu.stageMask = s.frc.failed ∧ s.ilu.tripQuiet = !anySet s.frc.failed

/-- No LOAD amount of this station, and none recorded, exceeds what a CLAIM carries (R76, R151). -/
def LoadAmountsKept (s : State) : Prop :=
  s.clu.ownLoad.amount ≤ 255 ∧ s.clu.ownLoad.held ≤ 255 ∧ (∀ x, s.clu.ownLoad.raise = some x → x.pending ≤ 255) ∧
  ∀ n h, entryAt .load n s = some h → largerPart h.share ≤ 255

/-- The law of R153: a stage is energised only on command, at a configured station, and the energised ratings lie within the held
amount of the HELD LOAD claim, save under local authority (R158) and before an evaluation already handed on. -/
def HeatingKept (s : State) : Prop :=
  StagesAgree s ∧ LoadAmountsKept s ∧
  (∀ k, heatRelay k s = true → (stageAt k s).command = true ∧ active s = true) ∧
  (localAuthority s = true ∨ HandOn.frostEvaluate ∈ s.handOns ∨
    ratingSum (fun k => heatRelay k s) s ≤ coveredAmount s)

/-! ### The SUPPLY claim -/

/-- Where the claim unit takes no part it stays at its reset values, and no block has anything to hand on (R85, R102, R193). -/
def RestsUntilLoaded (s : State) : Prop := active s = false → Settled s ∧ s.clu = Claims.atReset

/-- The law of R76: whatever is asked, the own SUPPLY claim is one of 1 slot, in its record, in its entry and on the line; and the
claim and the open request agree with the fill state (R107). -/
def SupplyClaimKept (s : State) : Prop :=
  RestsUntilLoaded s ∧
  s.flc.openRequest = isFill s.flc.state ∧
  (s.clu.ownSupply.state = .none ↔ holdsRequest s.flc.state = false) ∧
  (s.clu.ownSupply.state ≠ .none → s.clu.ownSupply.amount = 1) ∧
  s.clu.ownSupply.raise = none ∧
  (s.clu.ownSupply.state = .held → s.clu.ownSupply.held = 1) ∧
  (∀ h, entryAt .supply (setting s).station s = some h →
    (s.clu.ownSupply.state = .settling ∨ s.clu.ownSupply.state = .held) ∧ yieldPart h.share = 1) ∧
  ∀ o refresh, s.lnu.onLine = some o → o.item = .claim .supply refresh → byteAt o.body 1 = 1

/-- A safe state: all of these laws hold. -/
def Safe (s : State) : Prop :=
  SafeHoldKept s ∧ ReportsKept s ∧ LevelKept s ∧ InflowKept s ∧ OrdersBounded s ∧ HeatingKept s ∧ SupplyClaimKept s ∧
  ComesToRest s

end Sys2Proof.Machine
end

