-- ==== Sys2Proof/Certificates/Slice0/Obligations.lean ====
section
/-! DEFINITION. The statements for the provers. `Answers (exec c s) p` says that the command answers a next state with p; `quiet` is the
part of the state that only a command's own effect changes; `beginEvent` sets the change count of R172 back to 0. -/

open Sys2Proof Sys2Proof.Machine

/-! ### Steps, resets, loading -/

/-- One step takes the command at the front of the queue, on the state with the queue's rest. On an empty queue it idles, and in
QUIET the slot count moves on where no head starts at the next slot: both are the model's choice (log 1, log 15). -/
def Obligations.StepTakesFrontCommand : Prop :=
  (∀ (c : Instr) (rest : List Instr) (s : State), s.pending = c :: rest → step s = exec c { s with pending := rest }) ∧
  (∀ s : State, s.pending = [] →
    (s.lnu.state ≠ .quiet ∨ (∃ e, queueHead s.lnu.queue = some e ∧ slotOfStart e s ≤ s.lnu.slot + 1) → step s = .next s) ∧
    (s.lnu.state = .quiet → (∀ e, queueHead s.lnu.queue = some e → s.lnu.slot + 1 < slotOfStart e s) →
      step s = .next { s with lnu := { s.lnu with slot := s.lnu.slot + 1 } }))

/-- The values after a power-on reset: R17, R27, R34, R36, R60, R61, R75, R102, R123, R144, R162, R175, R181, R190, R193. -/
def Obligations.ResetValues : Prop :=
  (let m := State.reset.msu
   m.secondCount = 0 ∧ m.sixty = 0 ∧ m.running = false ∧ (∀ i : Fin 8, m.ring[i] = 0) ∧ m.lf = 0 ∧ m.level = .unread ∧
   m.lm = 0 ∧ m.vm = 0 ∧ m.rate = 0 ∧ m.dv = 0 ∧ m.stale = true ∧ m.primed = false ∧
   ∀ c ∈ [m.tw, m.tr, m.ta], c.value = 0 ∧ c.state = .unread) ∧
  (let i := State.reset.ilu
   (∀ k : Fin 17, i.raw[k] = false ∧ i.debounced[k] = false ∧ i.timer[k] = none) ∧
   (∀ k : Fin 6, i.latch[k] = false ∧ i.ackTaken[k] = false) ∧ i.frostQuiet = true ∧ i.tripQuiet = true) ∧
  (let o := State.reset.odu
   o.inletOpen = false ∧ o.position = .travel ∧ o.alarm = false ∧
   ∀ k : Fin 4, o.stages[k].command = false ∧ o.stages[k].state = .off ∧ o.stages[k].timer = none) ∧
  (let l := State.reset.lnu
   l.state = .gap ∧ l.parser.chars = [] ∧ l.parser.expected = none ∧ l.recessive = 0 ∧ l.slot = 0 ∧ l.dominantRun = 0 ∧
   l.queue = [] ∧ l.onLine = none ∧ l.rollCall = none ∧ l.dupTimer = none ∧ l.errors = 0) ∧
  (let p := State.reset.ptb
   (∀ i : Fin 24, p.records[i] =
     { state := .never, role := none, silence := 0, report := none, spill := false, stop := false, cause := .unknown
       alarm := false, supply := none }) ∧
   p.capacity = 0 ∧ p.anySpill = false ∧ p.supplyAbsent = true ∧ p.alone = true) ∧
  (let c := State.reset.clu
   (∀ i : Fin 24, c.supplyTable[i] = none ∧ c.loadTable[i] = none) ∧
   (∀ w ∈ [c.ownSupply, c.ownLoad], w.state = .none ∧ w.raise = none ∧ w.settle = none ∧ w.refresh = none) ∧
   c.incompleteSupply = none ∧ c.incompleteLoad = none ∧ c.questions = [] ∧ c.listening = none ∧ c.answer = none) ∧
  (let f := State.reset.flc
   f.night = false ∧ f.elapsed = 0 ∧ f.silence = 0 ∧ f.state = .blocked ∧
   f.causes = { guard := false, maint := false, level := true, safeHold := false, inlet := false, notJoined := true } ∧
   f.plan.need = false ∧ f.plan.tReq = none ∧ f.plan.slack = 9999 ∧ f.plan.urgency = 2 ∧ f.qEst = none ∧ f.learning = false ∧
   f.openRequest = false ∧ f.openTimer = none ∧ f.clearing = none ∧ f.turnoverStart = none ∧ f.shortfall = 0 ∧
   f.unproductive = false) ∧
  (let g := State.reset.ogu
   g.state = .watch ∧ g.hold = .none ∧ g.stroke = none ∧ g.baseline = none ∧ g.stop = none ∧ g.stopOwed = false ∧
   g.spillOwed = false ∧ g.confirm = .idle ∧ g.confirmTimer = none ∧ g.floatCount = 0) ∧
  (let f := State.reset.frc
   f.airWatch = false ∧ f.critical = false ∧ f.state = .off ∧ f.target = 0 ∧ f.required = 0 ∧ f.asked = none ∧
   f.starved = false ∧ f.stagLow = none ∧ f.stagHigh = none ∧ f.stagMinutes = 0 ∧ f.turnoverRequest = false ∧
   ∀ k : Fin 4, f.wishes[k] = false ∧ f.selected[k] = false ∧ f.failed[k] = false) ∧
  (let r := State.reset.rpu
   r.age = 0 ∧ r.changeSeen = false ∧ r.due = 0 ∧ r.sent = 0 ∧ r.skipped = 0 ∧ r.skippedField = 0 ∧ r.queued = false) ∧
  (let f := State.reset.ftu
   (∀ k : Fin 13, f.inSet[k] = false ∧ f.condition[k] = false) ∧ f.total = 0 ∧ f.notes = 0 ∧ f.safeHold = false ∧
   f.snapshot = none) ∧
  (let t := State.reset.stu
   t.key = 0 ∧ t.orders = none ∧ t.changeCount = 0 ∧ t.pendingFlag = false) ∧
  State.reset.sld.mode = .loading ∧ State.reset.sld.load = .reading ∧ State.reset.sld.attempt = 1 ∧
  State.reset.sld.clamped = 0

/-- Both resets (R195): every item at its initial value, an external reset keeping q_est, the fault total and the trip snapshot,
with RESET low from then on. That the pins, the waiting commands and the count of bodies filled stand outside the reset is the
model's choice (log 7, log 12). -/
def Obligations.ResetsRestore : Prop :=
  ∀ s : State,
    exec .powerOnReset s = .next { State.reset with
      pending := s.pending, pins := s.pins, resetLow := s.resetLow, bodiesFilled := s.bodiesFilled } ∧
    exec .externalReset s = .next { State.reset with
      pending := s.pending, pins := s.pins, resetLow := true, bodiesFilled := s.bodiesFilled
      flc := { Fill.atReset with qEst := s.flc.qEst }
      ftu := { Faults.atReset with total := s.ftu.total, snapshot := s.ftu.snapshot } }

/-- When RESET returns high the first read begins, and the retry wait ends in the second (R191, R195). A read that cannot be
trusted (R191, R192, R194): a first non-answer waits, a second one, a wrong check or a wrong structure makes the station
UNCONFIGURED, its alarm relay energised and its time base running. What the image then holds, the bytes as they were read or, where
the station number holds and the strap levels do not rise, these with the clamped strap count and levels, is the model's choice
(log 8), and so is that V stays as it is (log 9) and that an operand which is not 1024 bytes is refused (log 29). -/
def Obligations.ReadsBeginAndFail : Prop :=
  (∀ s : State, Rested s → s.sld.mode = .loading →
    (s.resetLow = true → exec .resetPinReturnsHigh s = .next (beginEvent { s with
      resetLow := false
      sld := { s.sld with mode := .loading, load := .reading, attempt := 1, clamped := 0 } })) ∧
    (s.resetLow = false → s.sld.load = .retryWait → exec .retryWaitExpiry s = .next (beginEvent { s with
      sld := { s.sld with load := .reading, attempt := 2 } }))) ∧
  ∀ (block : List Byte) (s : State),
    let raw := readSettings block
    let unconfigured := fun (image : Settings) => beginEvent { s with
      sld := { s.sld with mode := .unconfigured, load := .failed, clamped := 0, settings := image }
      msu := { s.msu with running := true, secondCount := 0, sixty := 0 }
      odu := { s.odu with alarm := true } }
    (block.length ≠ 1024 → exec (.loadAttemptDone block) s = .refused .notASettingsBlock) ∧
    (block.length = 1024 → isReading s = true → Rested s →
      (notAnswered block = true → s.sld.attempt = 1 →
        exec (.loadAttemptDone block) s = .next (beginEvent { s with
          sld := { s.sld with load := .retryWait, settings := raw } })) ∧
      (notAnswered block = true ∧ s.sld.attempt ≠ 1 ∨ notAnswered block = false ∧ checkMatches block = false →
        exec (.loadAttemptDone block) s = .next (unconfigured raw)) ∧
      (notAnswered block = false → checkMatches block = true → structureHolds raw = false →
        exec (.loadAttemptDone block) s = .next (unconfigured
          (if 1 ≤ raw.station ∧ raw.station ≤ 24 then
            { raw with strapCount := max 2 (min 16 raw.strapCount), strap := clampLevels raw.strap }
          else raw))))

/-- A trusted read (R192, R193): the clamped image and its count, in which a strap point beyond the strap count does not count (the
model's reading, log 11), the time base from 0 with V at the strap volume at 0 (R1, R17),
the inputs taken from the pins (R20), q_est set or clamped (R123). The mode is JOINING where the claim unit is at its reset values,
as it is in every state before loading ends (`SupplyClaimLawKept`); else it is JOINING or, with the questions of an earlier joining
answered meanwhile, JOINED. -/
def Obligations.TrustedReadConfigures : Prop :=
  ∀ (block : List Byte) (s : State), isReading s = true → block.length = 1024 → notAnswered block = false →
    checkMatches block = true → structureHolds (readSettings block) = true →
    Answers (exec (.loadAttemptDone block) s) fun t =>
      let x := clampSettings (readSettings block)
      t.sld.load = .done ∧ t.sld.settings = x ∧ t.sld.clamped = clampedCount (readSettings block) ∧
      (s.clu = Claims.atReset → t.sld.mode = .joining) ∧ (t.sld.mode = .joining ∨ t.sld.mode = .joined) ∧
      t.msu = { s.msu with running := true, secondCount := 0, sixty := 0, volume := strapVolume x.strap 0 } ∧
      t.flc.qEst = some (match s.flc.qEst with | none => x.qNom | some q => clampTo x.qMin x.qMax q) ∧
      (∀ i : Fin 17, t.ilu.raw[i] = (s.pins[i] != x.normallyClosed[i]) ∧
        t.ilu.debounced[i] = (s.pins[i] != x.normallyClosed[i]) ∧ t.ilu.timer[i] = none) ∧
      t.pins = s.pins ∧ t.pending = s.pending

/-- Whatever a block held, each field of the clamped image with a range in the tables lies in it, the dependent ranges of R192
included; a stage rating is one byte; and in a block whose structure holds the station number is 1 to 24 and the clamped levels of
its strap points, as many as the strap count, strictly rise. -/
def Obligations.ClampedSettingsInRange : Prop :=
  (∀ block : List Byte,
    let r := readSettings block
    let c := clampSettings r
    (∀ i : Fin 4, c.ratings[i] = r.ratings[i] ∧ c.ratings[i] ≤ 255) ∧ c.strap.length = c.strapCount ∧
    (structureHolds r = true → 1 ≤ c.station ∧ c.station ≤ 24 ∧ c.strap.Pairwise (fun p q => p.1 < q.1))) ∧
  ∀ r : Settings, let c := clampSettings r
    c.lineRate ≤ 2 ∧ (∀ i : Fin 17, c.debounce[i] ≤ 200) ∧
    (0 ≤ c.z ∧ c.z + 101 ≤ c.f ∧ c.f ≤ 4095) ∧ (1000 ≤ c.hFs ∧ c.hFs ≤ 65000) ∧ (0 ≤ c.dOff ∧ c.dOff ≤ 60000) ∧
    (1000 ≤ c.lMax ∧ c.lMax ≤ 30000) ∧ (2 ≤ c.strapCount ∧ c.strapCount ≤ 16) ∧
    (∀ p ∈ c.strap, 0 ≤ p.1 ∧ p.1 ≤ 30000 ∧ 0 ≤ p.2 ∧ p.2 ≤ 16000000) ∧
    c.strap.Pairwise (fun p q => p.2 ≤ q.2) ∧
    (∀ k ∈ [c.calW, c.calR, c.calA], 0 ≤ k.c0 ∧ k.c0 < k.c1 ∧ k.c1 ≤ 4095 ∧
      -1000 ≤ k.t0 ∧ k.t0 ≤ 2000 ∧ -1000 ≤ k.t1 ∧ k.t1 ≤ 2000) ∧
    (500 ≤ c.hHi ∧ c.hHi < c.hOvf ∧ c.hOvf ≤ c.lMax) ∧ (0 ≤ c.hHys ∧ c.hHys ≤ 5000) ∧
    (5 ≤ c.strokeTime ∧ c.strokeTime ≤ 180) ∧ (5 ≤ c.leakThreshold ∧ c.leakThreshold ≤ 500) ∧
    (10 ≤ c.confirmTime ∧ c.confirmTime ≤ 600) ∧ (0 ≤ c.floatHeight ∧ c.floatHeight ≤ 30000) ∧
    (0 ≤ c.floatTolerance ∧ c.floatTolerance ≤ 2000) ∧ c.floatAllowance ≤ 2 ∧
    (∀ i : Fin 4, 0 ≤ c.targets[i] ∧ c.targets[i] ≤ 16000000) ∧ (0 ≤ c.draw ∧ c.draw ≤ 20000) ∧
    (100 ≤ c.qMin ∧ c.qMin ≤ c.qNom ∧ c.qNom ≤ c.qMax ∧ c.qMax ≤ 20000) ∧ (0 ≤ c.tDefer ∧ c.tDefer ≤ 600) ∧
    (0 ≤ c.reliefMargin ∧ c.reliefMargin ≤ 5000) ∧ (50 ≤ c.turnoverAmount ∧ c.turnoverAmount ≤ 5000) ∧
    (60 ≤ c.window ∧ c.window ≤ 720) ∧ (30 ≤ c.peerTimeout ∧ c.peerTimeout ≤ 900) ∧ (1 ≤ c.budget ∧ c.budget ≤ 2000) ∧
    (1 ≤ c.tSettle ∧ c.tSettle ≤ 10) ∧ (20 ≤ c.tRefresh ∧ c.tRefresh ≤ 300) ∧ c.allowance ≤ 2 ∧
    (∀ i : Fin 4, -500 ≤ c.theta[i] ∧ c.theta[i] ≤ 800) ∧ (0 ≤ c.hysteresis ∧ c.hysteresis ≤ 100) ∧
    (∀ x ∈ [c.tAirOn, c.tCrit, c.tTurn], -500 ≤ x ∧ x ≤ 800) ∧ (10 ≤ c.stagThreshold ∧ c.stagThreshold ≤ 2000) ∧
    (1 ≤ c.stagHours ∧ c.stagHours ≤ 24) ∧ (1 ≤ c.proofTime ∧ c.proofTime ≤ 10) ∧
    (∀ i : Fin 4, 1 ≤ c.intervals[i] ∧ c.intervals[i] ≤ 60) ∧
    (c.defaults.target ≤ 3 ∧ c.defaults.heatCap ≤ 4 ∧ c.defaults.turnover ≤ 1 ∧ c.defaults.relief ≤ 1 ∧
      c.defaults.interval ≤ 3 ∧ c.defaults.alarm ≤ 1) ∧
    (∀ i : Fin 8, 0 ≤ c.lambda[i] ∧ c.lambda[i] ≤ 30000) ∧
    (∀ i : Fin 4, ∀ v ∈ [c.tauW, c.tauR, c.tauA], -500 ≤ v[i] ∧ v[i] ≤ 800) ∧
    (∀ i : Fin 4, -9999 ≤ c.sigma[i] ∧ c.sigma[i] ≤ 9999) ∧
    (∀ e ∈ c.entries, e.target ≤ 4 ∧ e.heatCap ≤ 5 ∧ e.turnover ≤ 2 ∧ e.relief ≤ 2 ∧ e.interval ≤ 4)

/-! ### Measurement -/

/-- R3: the head of a pressure code band by band, and it lies in 0..H_fs. -/
def Obligations.HeadOfPressureCode : Prop :=
  ∀ (x : Settings) (p : Int), x.z + 101 ≤ x.f → 0 ≤ x.hFs →
    (p < x.z - 200 → headOf x p = none) ∧
    (x.z - 200 ≤ p → p < x.z → headOf x p = some 0) ∧
    (x.z ≤ p → p ≤ x.f → headOf x p = some ((p - x.z) * x.hFs / (x.f - x.z))) ∧
    (x.f < p → p ≤ x.f + 100 → headOf x p = some x.hFs) ∧
    (x.f + 100 < p → headOf x p = none) ∧
    ∀ h, headOf x p = some h → 0 ≤ h ∧ h ≤ x.hFs

/-- R8: the strap volume point by point, within the first and last volumes, and not decreasing; the fill controller uses it for
the ceiling volume and the float-limited target. -/
def Obligations.StrapVolumeInterpolates : Prop :=
  ∀ (first : Int × Int) (rest : List (Int × Int)), rest ≠ [] →
    (first :: rest).Pairwise (fun p q => p.1 < q.1 ∧ p.2 ≤ q.2) →
    let points := first :: rest
    let last := points.getLast (by simp)
    (∀ x, x < first.1 → strapVolume points x = first.2) ∧
    (∀ x, last.1 ≤ x → strapVolume points x = last.2) ∧
    (∀ (before after : List (Int × Int)) (p q : Int × Int), points = before ++ p :: q :: after →
      ∀ x, p.1 ≤ x → x < q.1 → strapVolume points x = p.2 + (x - p.1) * (q.2 - p.2) / (q.1 - p.1)) ∧
    (∀ x, first.2 ≤ strapVolume points x ∧ strapVolume points x ≤ last.2) ∧
    (∀ x y, x ≤ y → strapVolume points x ≤ strapVolume points y) ∧
    (∀ p ∈ points, strapVolume points p.1 = p.2) ∧
    ∀ s : State, (setting s).strap = points →
      planCeiling s = strapVolume points (max 0 ((setting s).hHi - (setting s).hHys)) ∧
      (inFaultSet .floatDisagree s = true →
        planTarget s ≤ strapVolume points (max 0 ((setting s).floatHeight - (setting s).floatTolerance)))

/-- A second event in JOINING or JOINED (R2 to R9, R13, R14): the level, the volume and the three channels after the sample.
The minute-mark record is left alone, on the sixtieth second event too: the mark is a command of its own, which is the model's
choice (log 5). -/
def Obligations.SecondEventMeasures : Prop :=
  ∀ (p w r a : AnalogCode) (s : State), active s = true → s.msu.running = true →
    Answers (exec (.secondEvent p w r a) s) fun t =>
      (match headOf (setting s) (p.toNat : Int) with
       | some h =>
         let l := max 0 (min (setting s).lMax (h - (setting s).dOff))
         t.msu.level = .fresh ∧
         (s.msu.level = .fresh →
           (∀ i : Fin 8, t.msu.ring[i] = if i = s.msu.oldest then l else s.msu.ring[i]) ∧
           t.msu.oldest = s.msu.oldest + 1 ∧ t.msu.lf = t.msu.ring.toList.sum / 8) ∧
         (s.msu.level ≠ .fresh → (∀ i : Fin 8, t.msu.ring[i] = l) ∧ t.msu.lf = l)
       | none =>
         t.msu.level = (if s.msu.level = .fresh then .stale else s.msu.level) ∧ t.msu.ring = s.msu.ring ∧
         t.msu.oldest = s.msu.oldest ∧ t.msu.lf = s.msu.lf) ∧
      t.msu.volume = (if t.msu.level = .unread then s.msu.volume else strapVolume (setting s).strap t.msu.lf) ∧
      (∀ c ∈ [(w, (setting s).calW, s.msu.tw, t.msu.tw), (r, (setting s).calR, s.msu.tr, t.msu.tr),
              (a, (setting s).calA, s.msu.ta, t.msu.ta)],
        let v := c.2.1.t0 + ((c.1.toNat : Int) - c.2.1.c0) * (c.2.1.t1 - c.2.1.t0) / (c.2.1.c1 - c.2.1.c0)
        c.2.2.2 = if -500 ≤ v ∧ v ≤ 800 then { value := v, state := .good } else { value := c.2.2.1.value, state := .held }) ∧
      t.msu.lm = s.msu.lm ∧ t.msu.vm = s.msu.vm ∧ t.msu.rate = s.msu.rate ∧ t.msu.dv = s.msu.dv ∧
      t.msu.stale = s.msu.stale ∧ t.msu.primed = s.msu.primed

/-- A second event in JOINING or JOINED counts (R1, R63, R81, R82, R44, R119), and leaves inputs, pins, settings and the rest of
the peer table alone. The own claims' timers, the incomplete, listening, answer, open, stroke and confirm timers and the report age
count as well, before the samples of that second are taken (R87, R92, R99, R101, R118, R127, R178). That the sixtieth leaves a
minute mark due, and that timers count down and what a count reaches is taken by a command of its own, so that a record at its
timeout is still HEARD here, is the model's choice (log 5, log 3). -/
def Obligations.SecondEventCounts : Prop :=
  ∀ (p w r a : AnalogCode) (s : State), active s = true → s.msu.running = true →
    Answers (exec (.secondEvent p w r a) s) fun t =>
      t.msu.secondCount = min 4294967295 (s.msu.secondCount + 1) ∧
      t.msu.sixty = (if s.msu.sixty + 1 < 60 then s.msu.sixty + 1 else 0) ∧
      t.msu.minuteDue = (s.msu.minuteDue || decide (60 ≤ s.msu.sixty + 1)) ∧
      t.ptb = { s.ptb with records := s.ptb.records.map (fun x =>
        if x.state = .heard then { x with silence := min 900 (x.silence + 1) } else x) } ∧
      (∀ k n, othersOf t k n = (othersOf s k n).map (fun h =>
        { h with
          age := h.age + 1
          share := match h.share with
            | .held m => .held m
            | .settling m o u late => .settling m o (u - 1) late })) ∧
      t.lnu.dupTimer = s.lnu.dupTimer.map (fun n => min 600 (n + 1)) ∧
      t.flc.clearing = s.flc.clearing.map (fun n => min 900 (n + 1)) ∧
      t.ilu = s.ilu ∧ t.pins = s.pins ∧ t.sld.settings = s.sld.settings ∧ t.flc.qEst = s.flc.qEst ∧
      ∃ counted : State, exec (.secondEvent p w r a) s = .next (event (fun _ => takeSamples p w r a counted) s) ∧
        (let less := Option.map (fun n : Nat => n - 1)
         (∀ k : Resource, own k counted = { own k s with settle := less (own k s).settle, refresh := less (own k s).refresh } ∧
           incomplete k counted = less (incomplete k s)) ∧
         counted.clu.listening = less s.clu.listening ∧ counted.clu.answer = less s.clu.answer ∧
         counted.flc = { s.flc with openTimer := less s.flc.openTimer, clearing := s.flc.clearing.map (fun n => min 900 (n + 1)) } ∧
         counted.ogu = { s.ogu with stroke := less s.ogu.stroke, confirmTimer := less s.ogu.confirmTimer } ∧
         counted.rpu = { s.rpu with
           age := min 4294967295 (s.rpu.age + 1)
           timerDue := s.rpu.timerDue || decide (reportLimit s ≤ min 4294967295 (s.rpu.age + 1)) })

/-- A minute mark (R10 to R12): the record after a fresh mark and after any other; the level, the inputs, the peer table and the
settings stay. -/
def Obligations.MinuteMarkRecord : Prop :=
  ∀ s : State, loaded s = true → s.msu.minuteDue = true →
    Answers (exec .minuteMark s) fun t =>
      (s.msu.level = .fresh → t.msu = { s.msu with
        minuteDue := false, lm := s.msu.lf, vm := s.msu.volume, stale := false, primed := true
        rate := if s.msu.primed then max (-999) (min 999 (s.msu.lf - s.msu.lm)) else 0
        dv := if s.msu.primed then s.msu.volume - s.msu.vm else 0 }) ∧
      (s.msu.level ≠ .fresh → t.msu = { s.msu with
        minuteDue := false, rate := 0, dv := 0, stale := true, primed := false }) ∧
      t.ilu = s.ilu ∧ t.ptb = s.ptb ∧ t.sld.settings = s.sld.settings ∧ t.pins = s.pins ∧ t.odu.position = s.odu.position

/-- R122: the learned inflow at a minute mark. -/
def Obligations.MinuteMarkLearnsInflow : Prop :=
  ∀ s : State, active s = true → s.msu.minuteDue = true →
    Answers (exec .minuteMark s) fun t =>
      let learns := s.flc.learning = true ∧ (s.flc.state = .fill .tariff ∨ s.flc.state = .fill .turnover) ∧
        s.odu.position = .opened ∧ s.msu.level = .fresh
      let dv := if s.msu.primed then s.msu.volume - s.msu.vm else 0
      (learns → ∀ q, s.flc.qEst = some q →
        t.flc.qEst = some (max (setting s).qMin (min (setting s).qMax (q + (dv + (setting s).draw - q) / 4)))) ∧
      (¬ learns → t.flc.qEst = s.flc.qEst)

/-! ### Contact inputs -/

/-- R19: a change of a raw input starts, stops or, with n = 0, at once ends the debounce; outside JOINING and JOINED the contact
moves and nothing else (R20). That the contact is held in the state and moves in every mode (log 7), and that a running timer holds
the length it runs for (log 4), is the model's choice. -/
def Obligations.RawInputDebounce : Prop :=
  ∀ (i : ContactInput) (closed : Bool) (s : State), Rested s →
    let now := closed != (setting s).normallyClosed[inputIndex i]
    let moved := { s with pins := put s.pins (inputIndex i) closed }
    let ran := fun (t : Option Nat) => { moved with ilu := { s.ilu with
      raw := put s.ilu.raw (inputIndex i) now, timer := put s.ilu.timer (inputIndex i) t } }
    (active s = false → exec (.rawInputChange i closed) s = .next moved) ∧
    (active s = true → rawInput i s = now → exec (.rawInputChange i closed) s = .next (beginEvent moved)) ∧
    (active s = true → rawInput i s ≠ now → debounced i s = now →
      exec (.rawInputChange i closed) s = .next (beginEvent (ran none))) ∧
    (active s = true → rawInput i s ≠ now → debounced i s ≠ now → debounceCount i s ≠ 0 →
      exec (.rawInputChange i closed) s = .next (beginEvent (ran (some (debounceCount i s))))) ∧
    (active s = true → rawInput i s ≠ now → debounced i s ≠ now → debounceCount i s = 0 →
      exec (.rawInputChange i closed) s = exec (.inputSettled i) (ran (some 0)))

/-- R22, R25: the settle of OVF, HIFL, LOFL or DOOR and its latch; no other latch and no other input moves. -/
def Obligations.SingleLatchFollowsInput : Prop :=
  ∀ x ∈ [(ContactInput.ovf, Latch.ovf), (.hifl, .hifl), (.lofl, .lofl), (.door, .door)], ∀ s : State,
    active s = true → (debounceTimer x.1 s).isSome = true →
    Answers (exec (.inputSettled x.1) s) fun t =>
      let clears := rawInput x.1 s = false ∧ latchSet x.2 s = true ∧ edgeLevel x.2 s = true ∧ ackTaken x.2 s = true
      t.ilu = { s.ilu with
        debounced := put s.ilu.debounced (inputIndex x.1) (rawInput x.1 s)
        timer := put s.ilu.timer (inputIndex x.1) none
        latch := put s.ilu.latch (latchIndex x.2) (if rawInput x.1 s then true else latchSet x.2 s && !decide clears)
        ackTaken := put s.ilu.ackTaken (latchIndex x.2) (ackTaken x.2 s && !decide clears) } ∧
      t.pins = s.pins ∧ t.msu = s.msu ∧ t.ptb = s.ptb ∧ t.odu.position = s.odu.position

/-- R23, R25: the settle of FST1..FST4, the group quiet flag and FROSTGRP. -/
def Obligations.FrostGroupOnset : Prop :=
  ∀ (k : Fin 4) (s : State), active s = true → (debounceTimer (.fst k) s).isSome = true →
    Answers (exec (.inputSettled (.fst k)) s) fun t =>
      let now := rawInput (.fst k) s
      let others := [0, 1, 2, 3].any (fun j : Fin 4 => j != k && debounced (.fst j) s)
      let clears := now = false ∧ others = false ∧ latchSet .frostgrp s = true ∧ edgeLevel .frostgrp s = true ∧
        ackTaken .frostgrp s = true
      t.ilu = { s.ilu with
        debounced := put s.ilu.debounced (inputIndex (.fst k)) now
        timer := put s.ilu.timer (inputIndex (.fst k)) none
        frostQuiet := if now then false else if others then s.ilu.frostQuiet else true
        latch := put s.ilu.latch 4
          (if now then latchSet .frostgrp s || s.ilu.frostQuiet else latchSet .frostgrp s && !decide clears)
        ackTaken := put s.ilu.ackTaken 4 (ackTaken .frostgrp s && !decide clears) } ∧
      t.pins = s.pins ∧ t.msu = s.msu ∧ t.ptb = s.ptb ∧ t.odu.position = s.odu.position

/-- R33: the inlet position after the settle of a limit contact; the latches stay. -/
def Obligations.PositionFromContacts : Prop :=
  ∀ s : State, active s = true →
    (∀ i ∈ [ContactInput.inOpenFb, .inClosedFb], (debounceTimer i s).isSome = true →
      Answers (exec (.inputSettled i) s) fun t =>
        let opens := if i = .inOpenFb then rawInput i s else debounced .inOpenFb s
        let closes := if i = .inClosedFb then rawInput i s else debounced .inClosedFb s
        t.odu.position =
          (if opens then (if closes then .invalid else .opened) else if closes then .closed else .travel) ∧
        t.ilu = { s.ilu with
          debounced := put s.ilu.debounced (inputIndex i) (rawInput i s), timer := put s.ilu.timer (inputIndex i) none } ∧
        t.msu = s.msu ∧ t.ptb = s.ptb ∧ t.pins = s.pins)

/-- R24, R25, R28, R31, R184: a press of ACKIN reaches all six latches, and every HOLD fault that then stands is acknowledged.
Reaching TRIPGRP is the stage health event (R157): of the failed stages those whose feedback is ACTIVE fail again, the others are
back in health, and TRIPGRP and STAGE_FAIL stand where some stage has failed again: that all go OFF before any fails again is the
model's reading (log 20). The premise of that clause is part of the law `HeatingLawKept`. -/
def Obligations.AckPressReachesAll : Prop :=
  ∀ s : State, active s = true → (debounceTimer .ackin s).isSome = true → rawInput .ackin s = true →
    Answers (exec (.inputSettled .ackin) s) fun t =>
      (∀ l ∈ [Latch.ovf, .hifl, .lofl, .door, .frostgrp],
        latchSet l t = (latchSet l s && edgeLevel l s && latchCause l s) ∧
        (latchSet l t = true → ackTaken l t = true)) ∧
      (StagesAgree s →
        let again := anySet (Vector.ofFn (fun k : Fin 4 => s.frc.failed[k] && feedback k s))
        (∀ k : Fin 4, t.frc.failed[k] = (s.frc.failed[k] && feedback k s) ∧ (t.frc.failed[k] = true → failureSignal k t = true)) ∧
        latchSet .tripgrp t = again ∧ conditionPresent .stageFail t = again ∧ inFaultSet .stageFail t = again) ∧
      (∀ c ∈ [FaultCode.inletStuck, .inletLeak, .stopUnconfirmed],
        (inFaultSet c t = true → faultAcked c t = true) ∧ (conditionPresent c s = false → inFaultSet c t = false)) ∧
      t.msu = s.msu ∧ t.ptb = s.ptb ∧ t.pins = s.pins

/-- R21, R28, R125: while MAINT is ACTIVE the inlet is commanded closed; a release of ACKIN only settles. -/
def Obligations.MaintAndAckRelease : Prop :=
  ∀ s : State, active s = true →
    ((debounceTimer .maint s).isSome = true →
      Answers (exec (.inputSettled .maint) s) fun t =>
        t.ilu = { s.ilu with
          debounced := put s.ilu.debounced (inputIndex .maint) (rawInput .maint s)
          timer := put s.ilu.timer (inputIndex .maint) none } ∧
        (rawInput .maint s = true → t.odu.inletOpen = false) ∧
        t.msu = s.msu ∧ t.ptb = s.ptb ∧ t.pins = s.pins ∧ t.odu.position = s.odu.position) ∧
    (Rested s → (debounceTimer .ackin s).isSome = true → rawInput .ackin s = false →
      exec (.inputSettled .ackin) s = .next (beginEvent { s with ilu := { s.ilu with
        debounced := put s.ilu.debounced (inputIndex .ackin) false
        timer := put s.ilu.timer (inputIndex .ackin) none } }))

/-- R73, R74: the period of a source follows its contact; at another station the contact does nothing to it and the period is
that of the TARIFF heard. The command that ends a night at a minute mark tests the night again, for a TARIFF may have been heard
since the mark's count: that command, and its test, are the model's (log 5); a night that still is over ends, its shortfall recorded
with the plan as it stood, and what it wanted ends with it (R111). -/
def Obligations.TariffPeriodChanges : Prop :=
  ∀ s : State, active s = true →
    ((debounceTimer .tariff s).isSome = true →
      Answers (exec (.inputSettled .tariff) s) fun t =>
        t.flc.night = (if (setting s).tariffSource then rawInput .tariff s else s.flc.night) ∧
        t.flc.elapsed = (if (setting s).tariffSource then 0 else s.flc.elapsed) ∧
        t.flc.shortfall = (if (setting s).tariffSource = true ∧ s.flc.night = true ∧ rawInput .tariff s = false then
          max 0 (s.flc.plan.vTgt - s.msu.volume) else s.flc.shortfall) ∧
        t.ilu.latch = s.ilu.latch ∧ t.msu = s.msu ∧ t.ptb = s.ptb) ∧
    (s.flc.nightTimeoutDue = true →
      Answers (exec .tariffNightTimeout s) fun t =>
        let isOver := s.flc.night = true ∧ (setting s).window ≤ s.flc.elapsed ∧ 15 ≤ s.flc.silence
        (isOver → t.flc.night = false ∧ t.flc.elapsed = 0 ∧ t.flc.shortfall = max 0 (s.flc.plan.vTgt - s.msu.volume) ∧
          t.flc.state ∉ [FillState.wait, .claim .tariff, .fill .tariff]) ∧
        (¬ isOver → t.flc.night = s.flc.night ∧ t.flc.elapsed = s.flc.elapsed ∧ t.flc.shortfall = s.flc.shortfall) ∧
        t.flc.nightTimeoutDue = false ∧ t.flc.silence = s.flc.silence ∧ t.ilu = s.ilu ∧ t.msu = s.msu ∧ t.ptb = s.ptb) ∧
    (∀ (chars : List Byte) (h : Heard) (night : Bool) (e : Nat), HeardAs chars h s →
      h.station ≠ (setting s).station → h.content = .tariff night e →
      Answers (exec (.noticeHeard chars) s) fun t =>
        ((setting s).tariffSource = false →
          t.flc.night = night ∧ t.flc.elapsed = (if night then e else 0) ∧ t.flc.silence = 0) ∧
        ((setting s).tariffSource = true →
          t.flc.night = s.flc.night ∧ t.flc.elapsed = s.flc.elapsed ∧ t.flc.silence = s.flc.silence) ∧
        t.msu = s.msu ∧ t.ilu = s.ilu)

/-- R35, R36, R156: the channel's own next state by a proof timer and by the settle of HFBk, before the evaluation that follows it
in the event; which of them are failures, and what a failure report does: the channel stays FAILED with its relay
released. -/
def Obligations.StageFailureReports : Prop :=
  ∀ (k : Fin 4) (s : State), active s = true →
    let x := stageAt k s
    let failed : Stage := { command := false, state := .failed, timer := none }
    let verdict := fun (fails : Prop) (t : State) =>
      (fails → t.frc.failed = put s.frc.failed k true ∧ t.ftu.stageMask = put s.frc.failed k true ∧ Raised .stageFail s t ∧
        t.ilu.tripQuiet = false ∧ (s.ilu.tripQuiet = true → latchSet .tripgrp t = true) ∧
        (stageAt k t).state = .failed ∧ heatRelay k t = false) ∧
      (¬ fails → t.frc.failed = s.frc.failed ∧ t.ftu.inSet = s.ftu.inSet ∧ t.ilu.latch = s.ilu.latch) ∧
      t.msu = s.msu ∧ t.ptb = s.ptb ∧ t.odu.position = s.odu.position
    (x.timer.isSome = true →
      exec (.proofTimerExpiry k) s = .next (event (proofExpires k) s) ∧
      stageAt k (proofExpires k s) =
        (match x.state, feedback k s with
        | .proving, true => { x with state := .on, timer := none }
        | .proving, false => failed
        | .dropping, true => failed
        | .dropping, false => { x with state := .off, timer := none }
        | _, _ => x) ∧
      Answers (exec (.proofTimerExpiry k) s)
        (verdict (x.state = .proving ∧ feedback k s = false ∨ x.state = .dropping ∧ feedback k s = true))) ∧
    ((debounceTimer (.hfb k) s).isSome = true →
      exec (.inputSettled (.hfb k)) s = .next (event (inputSettles (.hfb k)) s) ∧
      stageAt k (inputSettles (.hfb k) s) =
        (if stagePresent k s then
          match x.state, rawInput (.hfb k) s with
          | .off, true => failed
          | .on, false => failed
          | .dropping, false => { x with state := .off, timer := none }
          | _, _ => x
        else x) ∧
      Answers (exec (.inputSettled (.hfb k)) s)
        (verdict (stagePresent k s = true ∧
          (x.state = .off ∧ rawInput (.hfb k) s = true ∨ x.state = .on ∧ rawInput (.hfb k) s = false))))

/-! ### The line -/

/-- R45, R56: quiet begins, a start bit of another station is received, the answer wait becomes the window; nothing else moves. -/
def Obligations.LineStateMoves : Prop :=
  ∀ s : State, Rested s →
    (loaded s = true → s.lnu.state = .gap ∨ s.lnu.state = .skip →
      exec .quietReached s = .next (beginEvent { s with lnu := { s.lnu with
        state := .quiet, slot := 0, heldOff := s.lnu.state == .skip, recessive := 16, parser := .atReset } })) ∧
    (loaded s = true → s.lnu.state = .gap ∨ s.lnu.state = .quiet →
      exec .startBitFromAnotherStation s = .next (beginEvent { s with lnu := { s.lnu with
        state := .receiving, slot := 0, heldOff := false, recessive := 0, parser := .atReset } })) ∧
    (active s = true → s.lnu.state = .answerWait →
      exec .answerWaitEnd s = .next (beginEvent { s with lnu := { s.lnu with state := .window } }))

/-- R52: the head is the most urgent WAITING entry, of equals the oldest. R55: a notice under a new key with the queue full: either
the youngest WAITING entry of the lowest urgency is dropped for it, its urgency being below the newcomer's, or the newcomer is. The
owner is told at once: an initial CLAIM's claim waits again, a HELD claim whose refresh is dropped is LOST (R92), a REPORT is
counted as skipped (R180). That a claim so LOST keeps the amount last requested, also where a raise was pending, is the model's
reading (log 26). -/
def Obligations.QueueHeadAndDrops : Prop :=
  (∀ q : List QueueEntry,
      (∀ e, queueHead q = some e → e ∈ q ∧ e.sending = false ∧
        ∀ x ∈ q, x.sending = false → x.urgency < e.urgency ∨ x.urgency = e.urgency ∧ e.age ≤ x.age) ∧
      (queueHead q = none → ∀ x ∈ q, x.sending = true)) ∧
  (∀ (item : Outgoing) (u : Nat) (s : State), active s = true → s.sld.mode = .joined ∨ 6 ≤ u ∨ isClaim item = false →
    s.lnu.queue.length = 8 → (s.lnu.queue.map (fun e => keyOf e.item)).Nodup →
    (∀ e ∈ s.lnu.queue, keyOf e.item ≠ keyOf item) →
    let t := queueNotice item u s
    let afterDrop := fun (dropped : Outgoing) (q : List QueueEntry) =>
      ((∀ r, dropped = .claim r true → (own r s).state ≠ .held) →
        t.lnu.queue = q ∧ t.ftu.notes = min 255 (s.ftu.notes + 1)) ∧
      (∀ r, dropped = .claim r true → (own r s).state = .held →
        (own r t).state = .waiting ∧ (own r t).amount = (own r s).amount ∧ (own r t).urgency = (own r s).urgency ∧
        entryAt r (setting s).station t = none) ∧
      (∀ r, dropped = .claim r false → (own r s).state = .announcing → (own r t).state = .waiting) ∧
      (dropped = .report → t.rpu.skipped = s.rpu.skipped + 1 ∧ t.rpu.queued = false)
    ((∃ e ∈ s.lnu.queue, e.sending = false ∧ e.urgency < u) →
      ∃ e ∈ s.lnu.queue, e.sending = false ∧ e.urgency < u ∧
        (∀ x ∈ s.lnu.queue, x.sending = false → e.urgency < x.urgency ∨ e.urgency = x.urgency ∧ x.age ≤ e.age) ∧
        afterDrop e.item
          (s.lnu.queue.filter (fun x => keyOf x.item != keyOf e.item) ++ [newEntry item u s.lnu.nextAge])) ∧
    ((∀ e ∈ s.lnu.queue, e.sending = false → u ≤ e.urgency) → afterDrop item s.lnu.queue))

/-- R46 to R48: the head starts at its own slot, a late one at the next, and after SKIP none before the eighth: that a late head's
next slot is counted from the slot begun last, and how many slots the hold-off takes, is the model's reading (logs 15, 14, 52).
At that slot the head is sent with the body filled at that moment; at every other nothing happens. A refresh CLAIM, and an initial
CLAIM that may not be announced, is cancelled there and leaves the queue with nothing driven where the next head has a slot of its
own, the initial one's claim waiting again (R86). -/
def Obligations.WinTimeSendsHead : Prop :=
  ∀ (e : QueueEntry) (s : State), Rested s → active s = true → s.lnu.state = .quiet → queueHead s.lnu.queue = some e →
    let mine := fun (x : QueueEntry) => (7 - x.urgency) * 25 + (setting s).station
    let fair := if mine e < s.lnu.slot then s.lnu.slot + 1 else mine e
    let slot := if s.lnu.heldOff then max 8 fair else fair
    let rest := s.lnu.queue.filter (fun x => keyOf x.item != keyOf e.item)
    let cancelledFrom := fun (t : State) => beginEvent { t with lnu := { t.lnu with slot := slot, queue := rest } }
    (∀ other, other ≠ slot → exec (.winTime other) s = .next s) ∧
    (cancelled e.item e.urgency s = false →
      exec (.winTime slot) s = .next (beginEvent { s with
        bodiesFilled := s.bodiesFilled + 1
        lnu := { s.lnu with
          state := .sending, recessive := 0, heldOff := false, slot := slot
          queue := s.lnu.queue.map (fun x => if keyOf x.item == keyOf e.item then { x with sending := true } else x)
          onLine := some { item := e.item, urgency := e.urgency, body := bodyOf e.item s } } })) ∧
    ((∀ x, queueHead rest = some x → mine x ≠ slot) →
      (∀ r, e.item = .claim r true → dupPresent s = true ∨ (own r s).state ≠ .held →
        exec (.winTime slot) s = .next (cancelledFrom s)) ∧
      (∀ r, e.item = .claim r false → (own r s).state = .announcing →
        dupPresent s = true ∨ e.urgency < 6 ∧ (own r s).urgency < 6 ∧
          (capacityOf r s < (own r s).amount + othersSum r s ∨ (incomplete r s).isSome = true) →
        exec (.winTime slot) s = .next (cancelledFrom (setOwn r { own r s with state := .waiting } s))))

/-- R42, R49, R194: a lost echo, a failed driver and a discarded notice; the entry on the line goes back to WAITING, with its new
kind where it was renewed (R53). After a lost echo the parser goes on from the characters and bits read, the dominant one among them.
Four points are the model's: whether an entry's initial CLAIM has been sent is its own mark (log 16), the stop bit of the second
check character is the last bit of a notice, so that a conflict there leaves it unsent (log 37), a notice discarded in
UNCONFIGURED counts no NOTE (log 35), and the recessive count begins anew on the entry into SKIP (log 52). -/
def Obligations.UnsentNotices : Prop :=
  ∀ s : State, Rested s →
    let back := s.lnu.queue.map (fun e =>
      if e.sending then
        let x := e.renewed.getD e.item
        { e with sending := false, item := x, renewed := none, everSent := e.everSent && isInitialClaim x }
      else e)
    let noted := { s.ftu with notes := min 255 (s.ftu.notes + 1) }
    let skipped := { s.lnu with
      state := .skip, recessive := 0, parser := .atReset, queue := back, onLine := none
      errors := min 255 (s.lnu.errors + 1) }
    (∀ b, active s = true → drives false b s = true →
      exec (.echoConflict b) s = .next (beginEvent { s with
        ftu := noted
        lnu := { s.lnu with
          state := .receiving, queue := back, onLine := none
          parser := {
            chars := (lineChars s).take (b / 10)
            bits := (List.range (b % 10)).map (fun i => (drivenDominant (lineChars s) (10 * (b / 10) + i)).getD false) ++ [true]
            expected := expectedAfter ((lineChars s).take (b / 10)), gapBits := 0 } } })) ∧
    (∀ b, active s = true → drives true b s = true →
      exec (.driverFailure b) s = .next (beginEvent { s with lnu := skipped })) ∧
    (∀ c, loaded s = true → s.lnu.state = .receiving ∨ s.lnu.state = .sending →
      exec (.noticeDiscarded c) s =
        .next (beginEvent (if active s then { s with ftu := noted, lnu := skipped } else { s with lnu := skipped })))

/-- R50, R59, R180: a REPORT sent. R50, R56: a ROLLCALL sent is followed by the answer wait, with this station's own answer as its
blocks stand (R32, R69, R98). -/
def Obligations.ReportAndRollCallSent : Prop :=
  ∀ (o : OnLine) (s : State), Rested s → active s = true → s.lnu.state = .sending → s.lnu.onLine = some o →
    (o.item = .report →
      exec .noticeSent s = .next (beginEvent { s with
        rpu := { s.rpu with
          sent := s.rpu.sent + 1, queued := false, skippedField := s.rpu.skippedField - byteAt o.body 20 }
        lnu := { s.lnu with
          state := .gap, onLine := none, errors := s.lnu.errors - byteAt o.body 21, queue := afterSending s.lnu.queue } })) ∧
    (∀ q, o.item = .rollcall q →
      exec .noticeSent s = .next (beginEvent { s with lnu := { s.lnu with
        state := .answerWait, onLine := none, queue := afterSending s.lnu.queue
        rollCall := some {
          question := q, mine := true, samples := 0
          answer := match q with
            | .hold r => (own r s).state == .held
            | .alarm u => alarmAnswer u s
            | .stopping => s.ogu.stop.isSome } } }))

/-- R87: an initial CLAIM sent. Where the sent amount with what the others hold, the larger of held and pending amounts, is within
the capacity, or the claim's urgency is 6 or 7, the claim stays settling; else it is LOST by R88, the new entry being a change of
the table. -/
def Obligations.InitialClaimSentSettles : Prop :=
  ∀ (o : OnLine) (r : Resource) (s : State), Settled s → active s = true → s.lnu.state = .sending →
    s.lnu.onLine = some o → o.item = .claim r false → (own r s).state = .announcing →
    1 ≤ (setting s).station → (setting s).station ≤ 24 →
    let others := (((entriesOf r s).filter (fun e => e.1 != (setting s).station)).map (fun e => largerPart e.2.share)).sum
    (6 ≤ (own r s).urgency ∨ byteAt o.body 1 + others ≤ capacityOf r s →
      Answers (exec .noticeSent s) fun t =>
        own r t = { own r s with
          state := .settling, settle := some (setting s).tSettle, refresh := some (setting s).tRefresh, leadDone := false
          missed := 0 } ∧
        entryAt r (setting s).station t = some {
          share := .settling (byteAt o.body 1) none (setting s).tSettle false, urgency := o.urgency, age := 0 } ∧
        (∀ n, n ≠ (setting s).station → entryAt r n t = clearLate (entryAt r n s)) ∧
        (∀ r', r' ≠ r → own r' t = own r' s ∧ ∀ n, entryAt r' n t = entryAt r' n s) ∧
        t.lnu = { s.lnu with state := .gap, onLine := none, queue := afterSending s.lnu.queue } ∧
        t.msu = s.msu ∧ t.ilu = s.ilu ∧ t.ptb = s.ptb ∧ t.ogu = s.ogu ∧ t.ftu = s.ftu ∧
        t.flc = { s.flc with unproductive := t.flc.unproductive }) ∧
    ((own r s).urgency < 6 → capacityOf r s < byteAt o.body 1 + others →
      exec .noticeSent s = .next (event finishSending s) ∧
      (let sent := finishSending s
       settleCheck r sent = loseOwn r true sent ∧ (own r (loseOwn r true sent)).state = .waiting ∧
       entryAt r (setting s).station (loseOwn r true sent) = none))

/-- R136, R138, R139: the first STOP(on) sent of a demand starts its confirmation. R140: the confirm timer runs out in WAITING, the
demand on. -/
def Obligations.StopConfirmation : Prop :=
  (∀ (o : OnLine) (d : StopDemand) (s : State), active s = true → s.lnu.state = .sending → s.lnu.onLine = some o →
    o.item = .stop → (byteAt o.body 0).testBit 0 = true → s.ogu.stop = some d → s.ogu.confirm = .pending →
    Answers (exec .noticeSent s) fun t =>
      (SupplyConfirmed s → t.ogu.confirm = .confirmed ∧ t.ogu.confirmTimer = none) ∧
      (¬ SupplyConfirmed s → t.ogu.confirm = .waiting ∧ t.ogu.confirmTimer = some (setting s).confirmTime) ∧
      t.ogu = { s.ogu with
        stopOwed := if causeCode d.cause = byteAt o.body 1 then false else s.ogu.stopOwed
        confirm := t.ogu.confirm, confirmTimer := t.ogu.confirmTimer } ∧
      t.lnu.state = .gap ∧ t.lnu.onLine = none ∧ t.msu = s.msu ∧ t.ilu = s.ilu ∧ t.ptb = s.ptb) ∧
  (∀ (d : StopDemand) (s : State), active s = true → s.ogu.confirmTimer = some 0 → s.ogu.confirm = .waiting →
    s.ogu.stop = some d →
    Answers (exec .confirmTimerExpiry s) fun t =>
      t.ogu.confirm = .unconfirmed ∧ t.ogu.confirmTimer = none ∧ Raised .stopUnconfirmed s t ∧
      (s.ogu.stopOwed = true → t.ogu.stopOwed = true) ∧
      (∃ d', t.ogu.stop = some d' ∧ d'.urgency = 7 ∧ d'.escalated = true) ∧
      t.ogu.state = s.ogu.state ∧ t.ogu.hold = s.ogu.hold ∧ t.msu = s.msu ∧ t.ilu = s.ilu ∧ t.ptb = s.ptb)

/-- R51, R99, R100: LINE FAULT begins and ends. That it empties the roll-call context, so that a roll call under way gives no result,
and from which states it is entered, is the model's choice (log 23, log 27). -/
def Obligations.LineFaultBeginsAndEnds : Prop :=
  ∀ s : State, active s = true →
    (s.lnu.state ≠ .window → s.lnu.state ≠ .lineFault →
      Answers (exec .lineFaultEntry s) fun t =>
        t.lnu.state = .lineFault ∧ t.lnu.onLine = none ∧ t.lnu.rollCall = none ∧ t.lnu.parser = .atReset ∧
        t.lnu.dupTimer = s.lnu.dupTimer ∧ t.lnu.errors = s.lnu.errors ∧ Raised .lineIsolated s t ∧
        t.msu = s.msu ∧ t.ilu = s.ilu ∧ t.ptb = s.ptb ∧ t.ogu = s.ogu) ∧
    (s.lnu.state = .lineFault →
      Answers (exec .lineFaultExit s) fun t =>
        t.lnu.state = .quiet ∧ t.lnu.slot = 0 ∧ Ended .lineIsolated s t ∧
        incomplete .supply t = some ((setting s).tRefresh + (setting s).tSettle) ∧
        incomplete .load t = some ((setting s).tRefresh + (setting s).tSettle) ∧
        othersOf t = othersOf s ∧ t.msu = s.msu ∧ t.ilu = s.ilu ∧ t.ptb = s.ptb ∧ t.ogu = s.ogu)

/-- R57, R58, R98, R99: a window reads what the stations drive, this one's own two positions included. One whose halves differ
changes no record and no entry, and a HOLD question leaves its resource incomplete. A valid HOLD result removes the silent HELD
entries of other stations, and no other. -/
def Obligations.HoldWindowJudged : Prop :=
  ∀ (samples : WindowSamples) (c : RollCall) (s : State), active s = true → s.lnu.state = .window →
    s.lnu.rollCall = some c →
    let read := windowRead samples c s
    (read.extractLsb' 0 24 ≠ read.extractLsb' 24 24 →
      Answers (exec (.windowEnd samples) s) fun t =>
        t.lnu.state = .gap ∧ t.ptb = s.ptb ∧ othersOf t = othersOf s ∧ t.msu = s.msu ∧ t.ilu = s.ilu ∧ t.ogu = s.ogu ∧
        ∀ r, c.question = .hold r → incomplete r t = some ((setting s).tRefresh + (setting s).tSettle)) ∧
    (∀ r, c.question = .hold r → read.extractLsb' 0 24 = read.extractLsb' 24 24 →
      Answers (exec (.windowEnd samples) s) fun t =>
        (∀ n, 1 ≤ n → n ≤ 24 → othersOf t r n =
          match othersOf s r n with
          | some { share := .held a, urgency := u, age := g } =>
            if read.toNat.testBit (n - 1) then some { share := .held a, urgency := u, age := g } else none
          | e => e) ∧
        (∀ r' n, r' ≠ r → othersOf t r' n = othersOf s r' n) ∧
        (∀ n, 1 ≤ n → n ≤ 24 → n ≠ (setting s).station → read.toNat.testBit (n - 1) = true → othersOf s r n = none →
          incomplete r t = some ((setting s).tRefresh + (setting s).tSettle)) ∧
        t.lnu.state = .gap ∧ t.ptb = s.ptb ∧ t.msu = s.msu ∧ t.ilu = s.ilu ∧ t.ogu = s.ogu)

/-- R69, R70: a valid STOPPING or ALARM(u) result writes the records of towers heard, other than this station's, and no other. -/
def Obligations.RollCallWritesTowers : Prop :=
  ∀ (samples : WindowSamples) (c : RollCall) (s : State), active s = true → s.lnu.state = .window →
    s.lnu.rollCall = some c →
    let read := windowRead samples c s
    read.extractLsb' 0 24 = read.extractLsb' 24 24 →
    (∀ f : Bool → Peer → Peer,
      (c.question = .stopping ∧
        f = fun yes p => { p with stop := yes, cause := if yes && p.stop then p.cause else .unknown }) ∨
      (∃ u, c.question = .alarm u ∧ f = fun yes p => { p with alarm := yes || (p.alarm && !decide (u ≤ 4)) }) →
      Answers (exec (.windowEnd samples) s) fun t =>
        (∀ i : Fin 24, t.ptb.records[i] =
          if s.ptb.records[i].state = .heard ∧ s.ptb.records[i].role = some .tower ∧ i.val + 1 ≠ (setting s).station then
            f (read.toNat.testBit i.val) s.ptb.records[i]
          else s.ptb.records[i]) ∧
        t.ptb.capacity = s.ptb.capacity ∧ t.ptb.anySpill = s.ptb.anySpill ∧ t.ptb.supplyAbsent = s.ptb.supplyAbsent ∧
        t.ptb.alone = s.ptb.alone ∧ othersOf t = othersOf s ∧ t.lnu.state = .gap ∧ t.msu = s.msu ∧ t.ilu = s.ilu)

/-- R44: a notice with this station's own number from elsewhere, and the end of the duplicate timer. That a ROLLCALL among them is
followed by the answer wait is the model's reading of R45 (log 22). -/
def Obligations.DuplicateStation : Prop :=
  ∀ s : State, active s = true →
    (∀ chars h, HeardAs chars h s → h.station = (setting s).station →
      Answers (exec (.noticeHeard chars) s) fun t =>
        t.lnu.dupTimer = some 0 ∧ Raised .dupStation s t ∧ t.ptb = s.ptb ∧ othersOf t = othersOf s ∧
        t.lnu.state = (if isRollcall h.content then .answerWait else .gap) ∧ t.msu = s.msu ∧ t.ilu = s.ilu ∧
        t.flc.night = s.flc.night) ∧
    (600 ≤ s.lnu.dupTimer.getD 0 →
      Answers (exec .dupTimerExpiry s) fun t =>
        t.lnu.dupTimer = none ∧ Ended .dupStation s t ∧ t.ptb = s.ptb ∧ othersOf t = othersOf s ∧
        t.lnu.state = s.lnu.state ∧ t.msu = s.msu ∧ t.ilu = s.ilu ∧ t.ogu = s.ogu)

/-! ### Notices heard -/

/-- R62 to R68: a valid notice of another station makes its record HEARD, writes what the kind and the role say, and leaves every
other record; the capacity and the summary bits are those of the records. That guard codes 6 and 7 of a REPORT clear the spill flag
(log 38), and that an ALARM code above 9 counts as any other (log 30), is the model's. -/
def Obligations.PeerNoticeWritesRecord : Prop :=
  ∀ (chars : List Byte) (h : Heard) (s : State), active s = true → HeardAs chars h s →
    h.station ≠ (setting s).station →
    Answers (exec (.noticeHeard chars) s) fun t =>
      let before := heardRecord h.role (peerAt h.station s)
      peerAt h.station t =
        (match h.role, h.content with
         | .tower, .report level g on => { before with
             report := some { level := level, guardCode := g, stop := on }
             spill := before.spill && g == 5, stop := on
             cause := if on && before.stop then before.cause else .unknown }
         | .tower, .alarm code set => { before with
             spill := if code = 6 then set else before.spill, alarm := before.alarm || set }
         | .tower, .stop on cause => { before with stop := on, cause := if on then cause else .unknown }
         | .tower, .trip => { before with alarm := true, stop := true, cause := .safe }
         | .supply, .supply slots pumps honoured => { before with
             supply := some { slots := min 8 slots, pumps := min 15 pumps, honoured := honoured } }
         | _, _ => before) ∧
      (before.state = .heard ∧ before.silence = 0 ∧ before.role = some h.role) ∧
      (∀ n, n ≠ h.station → peerAt n t = peerAt n s) ∧ PeersSummed t ∧
      t.lnu.state = (if isRollcall h.content then .answerWait else .gap) ∧ t.msu = s.msu ∧ t.pins = s.pins

/-- R76, R78 to R80: a CLAIM or RELEASE of another station acts on that station's entry of that resource, and on no other. The late
flag says whether the own claim of the resource was settling; where the notice, by its sender's change of role, makes the capacity
fall, the own claim may yield first (R97). What the own claim does at an initial CLAIM: below urgency 6 a HELD one without a raise
under way objects where the newcomer does not fit (R94); at 6 or 7 it yields, LOST with a RELEASE, exactly where the amounts of the
entries that come before its own, less urgent or of a higher station, do not cover the excess (R95); at a fall of the capacity the
same is so among the HELD entries (R97). -/
def Obligations.ClaimNoticeWritesEntry : Prop :=
  ∀ (chars : List Byte) (h : Heard) (r : Resource) (s : State), active s = true → HeardAs chars h s →
    h.station ≠ (setting s).station →
    (∀ a refresh, h.content = .claim r a refresh →
      Answers (exec (.noticeHeard chars) s) fun t =>
        (a = 0 → othersOf t r h.station = none) ∧
        (a ≠ 0 → refresh = true → othersOf t r h.station = some { share := .held a, urgency := h.urgency, age := 0 }) ∧
        (a ≠ 0 → refresh = false → ∃ late, (ownSettling r s = false → late = false) ∧
          (s.ptb.capacity ≤ t.ptb.capacity → late = ownSettling r s) ∧
          othersOf t r h.station = some {
            share := .settling a ((othersOf s r h.station).bind (fun e =>
              match e.share with | .held m => some m | .settling _ m _ _ => m)) (setting s).tSettle late
            urgency := h.urgency, age := 0 }) ∧
        (∀ r' n, (r', n) ≠ (r, h.station) → othersOf t r' n = othersOf s r' n) ∧ t.msu = s.msu ∧ t.ilu = s.ilu) ∧
    (h.content = .release r →
      Answers (exec (.noticeHeard chars) s) fun t =>
        othersOf t r h.station = none ∧
        (∀ r' n, (r', n) ≠ (r, h.station) → othersOf t r' n = othersOf s r' n) ∧ t.msu = s.msu ∧ t.ilu = s.ilu) ∧
    (∀ a refresh, h.content = .claim r a refresh →
      exec (.noticeHeard chars) s = .next (event (heardPeer h) s) ∧
      ∀ x : State, handOn h x = claimHeard r refresh h.station a h.urgency x ∧
        (a ≠ 0 → refresh = false →
          let entered := enterInitial r h.station a h.urgency x
          let all := entriesOf r entered
          let amount := fun (e : Share) => match e with | .held m => m | .settling p _ _ _ => p
          let larger := fun (e : Share) => match e with | .held m => m | .settling p m _ _ => max p (m.getD 0)
          let others := (all.filter (fun e => e.1 != h.station && decide (e.2.urgency < 6))).map
            (fun e => (e.1, e.2.urgency, amount e.2.share))
          let yields := MustYield others (setting x).station ((all.map (fun e => larger e.2.share)).sum - capacityOf r x)
          let objects := (own r x).state = .held ∧ (∀ y, (own r x).raise = some y → y.phase = .waiting) ∧
            (∀ e, entryUnder (.side r) x.lnu.queue = some e → isClaim e.item = false) ∧
            capacityOf r x < (all.map (fun e => if e.1 = h.station then amount e.2.share else larger e.2.share)).sum
          let acts := fun (t : State) => claimHeard r refresh h.station a h.urgency x = emit (.reexamine r) t
          (6 ≤ h.urgency → (yields → acts (loseOwn r true entered)) ∧ (¬ yields → acts entered)) ∧
          (h.urgency < 6 → (objects → acts (queueNotice (.claim r true) (own r x).urgency entered)) ∧
            (¬ objects → acts entered)))) ∧
    (∀ (before : Nat) (x : State), x.ptb.capacity < before →
      let held := (entriesOf .supply x).filterMap (fun e =>
        match e.2.share with | .held m => some (e.1, e.2.urgency, m) | .settling _ _ _ _ => none)
      let yields := MustYield (held.filter (fun e => decide (e.2.1 < 6))) (setting x).station
        ((held.map (fun e => e.2.2)).sum - x.ptb.capacity)
      (yields → takeCapacity before x = emit (.reexamine .supply) (loseOwn .supply true x)) ∧
      (¬ yields → takeCapacity before x = emit (.reexamine .supply) x)) ∧
    (∀ x : State, (own r (loseOwn r true x)).state = .waiting ∧ entryAt r (setting x).station (loseOwn r true x) = none ∧
      (active x = true → x.lnu.queue.length < 8 → (∀ e ∈ x.lnu.queue, keyOf e.item ≠ .side r) →
        (loseOwn r true x).lnu.queue = x.lnu.queue ++ [newEntry (.release r) 5 x.lnu.nextAge]))

/-- R29, R30, R31: an ACK of a gateway that names another station, or comes under maintenance protection, reaches no latch and
acknowledges nothing; a permitted one reaches those of the six latches that it names, TRIPGRP by the stage health event (R157), as a
press does, with the model's reading that all stages go OFF before any fails again (log 20). It acknowledges the HOLD faults where
its flag says so, and otherwise none: those not acknowledged stand as they were. -/
def Obligations.AckNoticeActs : Prop :=
  ∀ (chars : List Byte) (h : Heard) (target bits : Nat) (faults : Bool) (s : State), active s = true →
    HeardAs chars h s → h.station ≠ (setting s).station → h.content = .ack target bits faults →
    Answers (exec (.noticeHeard chars) s) fun t =>
      (h.role ≠ .gateway ∨ target ≠ (setting s).station ∨ debounced .maint s = true ∧ (setting s).remoteAck = false →
        t.ilu = s.ilu ∧ t.ftu.acked = s.ftu.acked ∧ t.ftu.inSet = s.ftu.inSet ∧ t.frc.failed = s.frc.failed) ∧
      (h.role = .gateway → target = (setting s).station → debounced .maint s = false ∨ (setting s).remoteAck = true →
        (∀ l ∈ [Latch.ovf, .hifl, .lofl, .door, .frostgrp], latchSet l t =
          if bits.testBit (latchIndex l).val then latchSet l s && edgeLevel l s && latchCause l s else latchSet l s) ∧
        (bits.testBit 5 = false → latchSet .tripgrp t = latchSet .tripgrp s ∧ t.frc.failed = s.frc.failed) ∧
        (bits.testBit 5 = true → StagesAgree s →
          let again := anySet (Vector.ofFn (fun k : Fin 4 => s.frc.failed[k] && feedback k s))
          (∀ k : Fin 4, t.frc.failed[k] = (s.frc.failed[k] && feedback k s) ∧
            (t.frc.failed[k] = true → failureSignal k t = true)) ∧
          latchSet .tripgrp t = again ∧ conditionPresent .stageFail t = again ∧ inFaultSet .stageFail t = again) ∧
        (faults = true → ∀ c ∈ [FaultCode.inletStuck, .inletLeak, .stopUnconfirmed],
          inFaultSet c t = true → faultAcked c t = true) ∧
        (faults = false → ∀ c ∈ [FaultCode.inletStuck, .inletLeak, .stopUnconfirmed], faultAcked c s = false →
          faultAcked c t = false ∧ inFaultSet c t = inFaultSet c s)) ∧
      t.msu = s.msu ∧ t.ilu.raw = s.ilu.raw ∧ t.ilu.debounced = s.ilu.debounced

/-- R1, R2, R56, R194: in UNCONFIGURED a second event only counts, and a notice only moves the line state and, discarded, the line
error count. That the sixtieth second leaves a minute mark due (log 5), that a notice discarded there counts no NOTE and a window
passes in SKIP (log 35), and that the recessive count begins anew on the entry into SKIP (log 52), is the model's. -/
def Obligations.UnconfiguredOnlyListens : Prop :=
  ∀ s : State, Rested s → s.resetLow = false → s.sld.mode = .unconfigured →
    (∀ p w r a, s.msu.running = true →
      exec (.secondEvent p w r a) s = .next (beginEvent { s with msu := { s.msu with
        secondCount := min 4294967295 (s.msu.secondCount + 1)
        sixty := if s.msu.sixty + 1 < 60 then s.msu.sixty + 1 else 0
        minuteDue := s.msu.minuteDue || decide (60 ≤ s.msu.sixty + 1) } })) ∧
    (∀ chars h, HeardAs chars h s →
      exec (.noticeHeard chars) s = .next (beginEvent { s with lnu := { s.lnu with
        state := if isRollcall h.content then .skip else .gap, recessive := 0, parser := .atReset } })) ∧
    (∀ chars d, receives chars s = true → readNotice chars = .error d → s.lnu.onLine = none →
      (∀ e ∈ s.lnu.queue, e.sending = false) →
      exec (.noticeHeard chars) s = .next (beginEvent { s with lnu := { s.lnu with
        state := .skip, recessive := 0, parser := .atReset, errors := min 255 (s.lnu.errors + 1) } }))

/-! ### Peers and claims over time -/

/-- R63, R80: a station whose silence reached the peer timeout. -/
def Obligations.PeerLostIsForgotten : Prop :=
  ∀ (n : Nat) (s : State), active s = true → (peerAt n s).state = .heard →
    (setting s).peerTimeout ≤ (peerAt n s).silence →
    Answers (exec (.peerLost n) s) fun t =>
      peerAt n t = { peerAt n s with
        state := .lost, spill := false, stop := false, alarm := false, cause := .unknown, report := none, supply := none } ∧
      (∀ m, m ≠ n → peerAt m t = peerAt m s) ∧ PeersSummed t ∧ (∀ r, othersOf t r n = none) ∧
      (∀ r m, m ≠ n → othersOf t r m = othersOf s r m) ∧ t.msu = s.msu ∧ t.ilu = s.ilu

/-- R81, R82: a peer entry settles at its pending amount, and one that has aged goes; no other entry of another station and no
peer record moves. -/
def Obligations.PeerEntrySettlesAndAges : Prop :=
  ∀ (n : Nat) (r : Resource) (h : Holding) (s : State), active s = true → n ≠ (setting s).station →
    entryAt r n s = some h →
    (∀ p o late, h.share = .settling p o 0 late →
      Answers (exec (.peerSettleExpiry n r) s) fun t =>
        entryAt r n t = some { h with share := .held p } ∧
        (∀ r' m, (r', m) ≠ (r, n) → othersOf t r' m = othersOf s r' m) ∧ t.ptb = s.ptb ∧ t.msu = s.msu ∧ t.ilu = s.ilu) ∧
    (((setting s).allowance + 1) * (setting s).tRefresh + (setting s).tSettle ≤ h.age →
      Answers (exec (.entryAgedOut n r) s) fun t =>
        entryAt r n t = none ∧
        (∀ r' m, (r', m) ≠ (r, n) → othersOf t r' m = othersOf s r' m) ∧ t.ptb = s.ptb ∧ t.msu = s.msu ∧ t.ilu = s.ilu)

/-- R84, R88, R89, R91: the amount of the other stations against which a claim fits; a re-examination withdraws a settling claim or
raise below urgency 6 that no longer fits, and nothing else settling; and when the settle timer of an own claim or raise has run
out: where it fits, or at urgency 6 or 7, the claim is HELD at the settled amount and the event is that grant; else a claim is LOST
and a raise withdrawn. -/
def Obligations.OwnSettleVerdict : Prop :=
  (∀ (r : Resource) (s : State), othersSum r s = ((List.range 24).map (fun i =>
    if i + 1 = (setting s).station then 0
    else match entryAt r (i + 1) s with
      | none => 0
      | some e => match e.share with
        | .held a => a
        | .settling p m _ late => if late = true ∧ ownSettling r s = true then m.getD 0 else max p (m.getD 0))).sum) ∧
  (∀ (r : Resource) (s : State), takeHandOn (.reexamine r) s = announce r (settleCheck r s) ∧
    ((own r s).state = .settling ∨ (own r s).state = .held ∧ (own r s).raise.map Raise.phase = some .settling →
      settleCheck r s =
        if (own r s).urgency < 6 ∧ capacityOf r s < settlingAmount r s + othersSum r s then
          (if (own r s).state = .settling then loseOwn r true s else withdrawRaise r s)
        else s)) ∧
  ∀ (r : Resource) (s : State), active s = true → ownSettling r s = true → (own r s).settle = some 0 →
    1 ≤ (setting s).station → (setting s).station ≤ 24 →
    let a := settlingAmount r s
    (a + othersSum r s ≤ capacityOf r s ∨ 6 ≤ (own r s).urgency →
      exec (.ownSettleExpiry r) s = .next (event (grantOwn r a) s) ∧
      ((own r s).refreshOwed = false ∨ s.lnu.queue.length < 8 →
       let g := grantOwn r a s
       (own r g).state = .held ∧ (own r g).held = a ∧ (own r g).raise = none ∧ (own r g).settle = none ∧
       (entryAt r (setting s).station g).map Holding.share = some (.held a)) ∧
      (r = .supply → (own r s).refreshOwed = false → Settled s →
        Answers (exec (.ownSettleExpiry r) s) fun t =>
          (own .supply t).state = .held ∧ (own .supply t).held = a ∧ own .load t = own .load s ∧
          t.lnu.queue = s.lnu.queue ∧ othersOf t = othersOf s)) ∧
    (capacityOf r s < a + othersSum r s → (own r s).urgency < 6 →
      exec (.ownSettleExpiry r) s =
        .next (event (if (own r s).state = .settling then loseOwn r true else withdrawRaise r) s) ∧
      ((own r s).state = .settling →
        (own r (loseOwn r true s)).state = .waiting ∧ (own r (loseOwn r true s)).amount = (own r s).amount ∧
        (own r (loseOwn r true s)).urgency = (own r s).urgency ∧
        entryAt r (setting s).station (loseOwn r true s) = none) ∧
      ((own r s).state ≠ .settling → s.lnu.queue.length < 8 →
        (own r (withdrawRaise r s)).held = (own r s).held ∧
        ((own r (withdrawRaise r s)).raise.map Raise.phase) = some .waiting ∧
        (entryAt r (setting s).station (withdrawRaise r s)).map Holding.share = some (.held (own r s).held)))

/-- R92, R93: the refresh lead of a HELD claim queues a refresh CLAIM, unless a refresh is queued, or the initial CLAIM of a raise is
waiting or on the line, or the raise is settling; a stale initial CLAIM is no such notice and becomes the refresh. The refresh time
with no CLAIM sent counts a miss, and past the allowance the event is a local loss without RELEASE, the amount kept also where a
raise was pending: that is the model's reading (log 26). -/
def Obligations.RefreshLeadAndTime : Prop :=
  ∀ (r : Resource) (s : State), Rested s → active s = true → (own r s).state = .held →
    let c := own r s
    let mine := fun (e : QueueEntry) => keyOf e.item = .side r
    (c.leadDone = false → (∃ n, c.refresh = some n ∧ n ≤ (setting s).tSettle) →
      (c.raise.map Raise.phase = some .settling →
        exec (.refreshLead r) s = .next (beginEvent (setOwn r { c with leadDone := true, refreshOwed := true } s))) ∧
      (c.raise.map Raise.phase ≠ some .settling → (∃ e ∈ s.lnu.queue, mine e) →
        (∀ e ∈ s.lnu.queue, mine e → e.item = .claim r true ∨ e.renewed = some (.claim r true) ∨
          isClaim e.item = true ∧ c.raise.map Raise.phase = some .announcing) →
        exec (.refreshLead r) s = .next (beginEvent (setOwn r { c with leadDone := true } s))) ∧
      (c.raise = none → s.sld.mode = .joined ∨ 6 ≤ c.urgency → (∃ e ∈ s.lnu.queue, mine e) →
        (∀ e ∈ s.lnu.queue, mine e → e.item = .claim r false ∧ e.sending = false ∧ e.renewed = none) →
        exec (.refreshLead r) s = .next (beginEvent { setOwn r { c with leadDone := true } s with
          lnu := { s.lnu with queue := s.lnu.queue.map (fun e =>
            if keyOf e.item == .side r then
              { e with item := .claim r true, urgency := max e.urgency c.urgency, everSent := false } else e) } })) ∧
      (c.raise.map Raise.phase ≠ some .settling → (∀ e ∈ s.lnu.queue, ¬ mine e) → s.lnu.queue.length < 8 →
        s.sld.mode = .joined ∨ 6 ≤ c.urgency →
        exec (.refreshLead r) s = .next (beginEvent { setOwn r { c with leadDone := true } s with
          lnu := { s.lnu with
            queue := s.lnu.queue ++ [newEntry (.claim r true) c.urgency s.lnu.nextAge]
            nextAge := s.lnu.nextAge + 1 } }))) ∧
    (c.refresh = some 0 → c.missed + 1 ≤ (setting s).allowance →
      exec (.refreshTime r) s = .next (beginEvent (setOwn r { c with
        missed := c.missed + 1, refresh := some (setting s).tRefresh, leadDone := false } s))) ∧
    (c.refresh = some 0 → (setting s).allowance < c.missed + 1 →
      exec (.refreshTime r) s = .next (event (loseOwn r false) s) ∧
      (let t := loseOwn r false s
       (own r t).state = .waiting ∧ (own r t).raise = none ∧ (own r t).amount = c.amount ∧ (own r t).urgency = c.urgency ∧
       t.lnu = s.lnu ∧ entryAt r (setting s).station t = none))

/-- R99, R85: the incomplete flag clears, and a WAITING claim that now may be is announced. -/
def Obligations.IncompleteFlagClears : Prop :=
  ∀ (r : Resource) (s : State), Rested s → active s = true → incomplete r s = some 0 →
    ((own r s).state = .none →
      exec (.incompleteTimerExpiry r) s = .next (beginEvent (setIncompleteTimer r none s))) ∧
    ((own r s).state = .waiting → s.sld.mode = .joined → dupPresent s = false →
      (own r s).amount + othersSum r s ≤ capacityOf r s → s.lnu.queue.length < 8 →
      (∀ e ∈ s.lnu.queue, keyOf e.item ≠ .side r) →
      exec (.incompleteTimerExpiry r) s = .next (beginEvent
        { setOwn r { own r s with state := .announcing } (setIncompleteTimer r none s) with
          lnu := { s.lnu with
            queue := s.lnu.queue ++ [newEntry (.claim r false) (own r s).urgency s.lnu.nextAge]
            nextAge := s.lnu.nextAge + 1 } }))

/-- R101: the listening period ends with the first HOLD question queued and the answer timer at 30 s. R99, R101: the answer timer
ends the joining, a resource whose question is unanswered left incomplete. -/
def Obligations.JoiningTimers : Prop :=
  (∀ s : State, Rested s → active s = true → s.clu.listening = some 0 → s.clu.inFlight = none → s.lnu.queue.length < 8 →
    (∀ e ∈ s.lnu.queue, keyOf e.item ≠ .rollcall) →
    exec .listeningTimerExpiry s = .next (beginEvent { s with
      clu := { s.clu with
        listening := none, answer := some 30, questions := [.hold .load], inFlight := some (.hold .supply) }
      lnu := { s.lnu with
        queue := s.lnu.queue ++ [newEntry (.rollcall (.hold .supply)) 4 s.lnu.nextAge], nextAge := s.lnu.nextAge + 1 } })) ∧
  (∀ s : State, active s = true → s.clu.answer = some 0 → s.sld.mode = .joining →
    Answers (exec .answerTimerExpiry s) fun t =>
      t.sld.mode = .joined ∧ quiet t = quiet s ∧
      (s.clu.answeredSupply = false → incomplete .supply t = some ((setting s).tRefresh + (setting s).tSettle)) ∧
      (s.clu.answeredLoad = false → incomplete .load t = some ((setting s).tRefresh + (setting s).tSettle)))

/-! ### The jobs -/

/-- R105, R106: need, net inflow, minutes required, slack and urgency of a plan. -/
def Obligations.PlanSlackAndUrgency : Prop :=
  ∀ s : State,
    let p := computePlan s
    p.n = planTarget s - planVolume s ∧ p.vTgt ≤ p.vCeil ∧ p.qNet = s.flc.qEst.getD 0 - (setting s).draw ∧
    (p.n ≤ 0 → p.need = false ∧ p.tReq = none ∧ p.cannotFill = false ∧ p.slack = 9999) ∧
    (0 < p.n → p.need = true) ∧
    (0 < p.n → p.qNet ≤ 0 → p.cannotFill = true ∧ p.tReq = none ∧ p.slack = -9999) ∧
    (0 < p.n → 0 < p.qNet → p.cannotFill = false ∧ ∃ m, p.tReq = some m ∧
      (m - 1) * p.qNet < p.n ∧ p.n ≤ m * p.qNet ∧ p.slack = max (-9999) (min 9999 (tRem s - m))) ∧
    (p.slack ≤ 0 → p.urgency = 4) ∧ (0 < p.slack → p.slack ≤ 60 → p.urgency = 3) ∧ (60 < p.slack → p.urgency = 2)

/-- R118, R119: an inlet that did not open, and the end of the clearing timer. -/
def Obligations.InletOpenFailure : Prop :=
  ∀ s : State, active s = true →
    (s.flc.openTimer = some 0 → isFill s.flc.state = true → s.odu.position ≠ .opened →
      Answers (exec .openTimerExpiry s) fun t =>
        Raised .inletNoOpen s t ∧ t.flc.clearing = some 0 ∧ t.msu = s.msu ∧ t.ilu = s.ilu ∧ t.ptb = s.ptb ∧
        t.ogu = s.ogu ∧ t.odu.position = s.odu.position) ∧
    (900 ≤ s.flc.clearing.getD 0 →
      Answers (exec .clearingTimerExpiry s) fun t =>
        Ended .inletNoOpen s t ∧ t.flc.clearing = none ∧ t.msu = s.msu ∧ t.ilu = s.ilu ∧ t.ptb = s.ptb ∧
        t.ogu = s.ogu ∧ t.odu.position = s.odu.position)

/-- R107 to R110, R114, R116, R117: the plan-time transitions row by row; what entering a state makes of the open request and of the
own SUPPLY claim; GRANTED and LOST; and the block causes with what a new one and the last one to leave do. -/
def Obligations.FillStateMoves : Prop :=
  (∀ s : State,
    let refill := max 0 ((setting s).hHi - (setting s).hHys)
    let relief := (ordersNow s).relief = true ∧ s.ptb.anySpill = true ∧ s.msu.lf ≤ refill - (setting s).reliefMargin ∧
      s.ogu.state = .watch
    let needed := s.flc.night = true ∧ s.flc.plan.need = true
    let turnover := s.frc.turnoverRequest = true ∧ (ordersNow s).turnover = true
    let room := s.msu.lf ≤ refill - (setting s).turnoverAmount
    let reached := s.flc.plan.vTgt ≤ s.msu.volume
    let c := s.flc.causes
    let next := (planStep s).flc.state
    (s.flc.state = .rest ∨ s.flc.state = .wait →
      (relief → next = .fill .relief) ∧
      (¬ relief → needed ∧ s.flc.plan.slack ≤ (setting s).tDefer → next = .claim .tariff) ∧
      (¬ relief → ¬ (needed ∧ s.flc.plan.slack ≤ (setting s).tDefer) →
        (turnover ∧ room → next = .claim .turnover) ∧ (¬ (turnover ∧ room) → needed → next = .wait) ∧
        (¬ (turnover ∧ room) → ¬ needed → next = .rest))) ∧
    (s.flc.state = .claim .tariff →
      (s.flc.plan.need = false ∨ reached → next = .rest) ∧ (s.flc.plan.need = true → ¬ reached → next = .claim .tariff)) ∧
    (s.flc.state = .claim .turnover → (turnover → next = .claim .turnover) ∧ (¬ turnover → next = .rest)) ∧
    (s.flc.state = .fill .tariff → (reached → next = .rest) ∧ (¬ reached → next = .fill .tariff)) ∧
    (s.flc.state = .fill .turnover ∨ s.flc.state = .fill .relief → next = s.flc.state) ∧
    (s.flc.state = .blocked →
      (relief → c = { guard := false, maint := false, level := false, safeHold := false, inlet := false, notJoined := true } →
        next = .fill .relief) ∧
      (¬ relief ∨ c ≠ { guard := false, maint := false, level := false, safeHold := false, inlet := false, notJoined := true } →
        next = .blocked))) ∧
  (∀ (new : FillState) (s : State), s.flc.state ≠ new →
    let t := setFill new s
    let asks := fun (f : FillState) => f ≠ .rest ∧ f ≠ .wait ∧ f ≠ .fill .relief ∧ f ≠ .blocked
    t.flc.state = new ∧ (t.flc.openRequest = true ↔ ∃ why, new = .fill why) ∧ t.rpu.changeSeen = true ∧
    (asks s.flc.state → ¬ asks new → t.clu.ownSupply.state = .none) ∧
    (∀ why, new = .claim why → ¬ asks s.flc.state → s.clu.ownSupply.state = .none →
      (t.clu.ownSupply.state = .waiting ∨ t.clu.ownSupply.state = .announcing) ∧ t.clu.ownSupply.amount = 1 ∧
      t.clu.ownSupply.urgency = (if why = .tariff then s.flc.plan.urgency else 3)) ∧
    (asks s.flc.state → asks new → t.clu = s.clu)) ∧
  (∀ s : State,
    (fillGranted s).flc.state =
      (match s.flc.state with | .claim .tariff => .fill .tariff | .claim .turnover => .fill .turnover | f => f) ∧
    (fillLost s).flc.state =
      (match s.flc.state with | .fill .tariff => .claim .tariff | .fill .turnover => .claim .turnover | f => f)) ∧
  (∀ s : State,
    let c : BlockCauses := {
      guard := decide (s.ogu.state ≠ .watch), maint := debounced .maint s, level := decide (s.msu.level ≠ .fresh)
      safeHold := s.ftu.safeHold, inlet := conditionPresent .inletNoOpen s, notJoined := decide (s.sld.mode ≠ .joined) }
    let t := takeCauses s
    let noCauses : BlockCauses :=
      { guard := false, maint := false, level := false, safeHold := false, inlet := false, notJoined := false }
    t.flc.causes = c ∧
    (c = noCauses → s.flc.state ≠ .blocked → t.flc.state = s.flc.state) ∧
    (c = noCauses → s.flc.state = .blocked →
      t = planAndStep true (setFill .rest { s with flc := { s.flc with causes := c } })) ∧
    (c ≠ noCauses → s.flc.state = .fill .relief → c = { noCauses with notJoined := true } → t.flc.state = .fill .relief) ∧
    (c ≠ noCauses → s.flc.state ≠ .fill .relief ∨ c ≠ { noCauses with notJoined := true } → t.flc.state = .blocked))

/-- R127 to R133: the guard's departures state by state; from WATCH to CUT on the sample that reaches H_hi with the valve not CLOSED;
and the leak comparison of a fresh minute mark in SHUT, on to SPILL where the level is at H_ovf. The refill level lies below H_ovf
in every clamped image (R192). -/
def Obligations.GuardStateMoves : Prop :=
  (∀ (ovfOnset : Bool) (s : State),
    let valid := s.msu.level = .fresh
    let refill := max 0 ((setting s).hHi - (setting s).hHys)
    let spills := ovfOnset = true ∨ valid ∧ (setting s).hOvf ≤ s.msu.lf
    let top := valid ∧ (setting s).hHi ≤ s.msu.lf ∨ debounced .hifl s = true ∨ latchSet .hifl s = true
    let acked := fun (c : FaultCode) => inFaultSet c s = true ∧ faultAcked c s = true
    let held := s.ogu.hold = .stuck ∧ acked .inletStuck ∨ s.ogu.hold = .leak ∧ acked .inletLeak
    let goes := fun (p : State → Prop) => ∃ t, guardMove ovfOnset s = some t ∧ p t
    let calm := s.ogu.state = .spill ∨ ¬ spills
    (s.ogu.state ≠ .spill → spills → goes fun t =>
      t.ogu.state = .spill ∧ t.ogu.hold = s.ogu.hold ∧ t.ogu.stroke = none ∧ t.ogu.baseline = none ∧
      t.ogu.spillOwed = true ∧ ∃ d, t.ogu.stop = some d ∧ d.urgency = 7) ∧
    (calm → s.ogu.state = .watch →
      (top → s.odu.position = .closed → goes fun t => t.ogu.state = .shut ∧ t.ogu.baseline = some s.msu.lf) ∧
      (top → s.odu.position ≠ .closed → goes fun t => t.ogu.state = .cut ∧ t.ogu.stroke = some (setting s).strokeTime) ∧
      (¬ top → guardMove ovfOnset s = none)) ∧
    (calm → s.ogu.state = .cut →
      (s.odu.position = .closed → goes fun t =>
        t.ogu.state = .shut ∧ t.ogu.stroke = none ∧ t.ogu.baseline = some s.msu.lf ∧
        (s.ftu.safeHold = false → t.ogu.stop = none)) ∧
      (s.odu.position ≠ .closed → guardMove ovfOnset s = none)) ∧
    (calm → s.ogu.state = .shut →
      let below := valid ∧ s.msu.lf ≤ refill ∧ debounced .hifl s = false ∧ latchSet .hifl s = false
      (below → goes fun t => t.ogu.state = .watch ∧ t.ogu.baseline = none) ∧ (¬ below → guardMove ovfOnset s = none)) ∧
    (calm → s.ogu.state = .stuck ∨ s.ogu.state = .leak →
      let safe := valid ∧ s.msu.lf ≤ refill ∧ s.odu.position = .closed ∧ held
      (safe → goes fun t =>
        t.ogu.state = .watch ∧ t.ogu.hold = .none ∧ (s.ftu.safeHold = false → t.ogu.stop = none) ∧
        (s.ogu.hold = .stuck → conditionPresent .inletStuck t = false) ∧
        (s.ogu.hold = .leak → conditionPresent .inletLeak t = false)) ∧
      (¬ safe → guardMove ovfOnset s = none)) ∧
    (s.ogu.state = .spill →
      let isOver := latchSet .ovf s = false ∧ debounced .ovf s = false ∧ valid ∧ s.msu.lf < refill
      (isOver → goes fun t =>
        t.ogu.spillOwed = true ∧ t.ogu.hold = s.ogu.hold ∧
        (s.ogu.hold = .stuck → t.ogu.state = .stuck ∧ t.ogu.stop.isSome = true) ∧
        (s.ogu.hold = .leak → t.ogu.state = .leak ∧ t.ogu.stop.isSome = true) ∧
        (s.ogu.hold = .none → s.odu.position ≠ .closed → t.ogu.state = .cut ∧
          t.ogu.stroke = some (setting s).strokeTime ∧ t.ogu.stop.map StopDemand.cause = s.ogu.stop.map StopDemand.cause) ∧
        (s.ogu.hold = .none → s.odu.position = .closed → t.ogu.state = .shut ∧ t.ogu.baseline = some s.msu.lf ∧
          (s.ftu.safeHold = false → t.ogu.stop = none))) ∧
      (¬ isOver → guardMove ovfOnset s = none))) ∧
  (∀ (p w r a : AnalogCode) (s : State), active s = true → s.msu.running = true → s.ogu.state = .watch →
    s.odu.position ≠ .closed →
    Answers (exec (.secondEvent p w r a) s) fun t =>
      t.msu.level = .fresh → (setting s).hHi ≤ t.msu.lf → t.msu.lf < (setting s).hOvf →
        t.ogu.state = .cut ∧ t.ogu.stroke = some (setting s).strokeTime) ∧
  (∀ (b : Int) (s : State), active s = true → s.msu.minuteDue = true → s.msu.level = .fresh → s.ogu.state = .shut →
    s.ogu.baseline = some b → (setting s).leakThreshold ≤ s.msu.lf - b → inFaultSet .inletLeak s = false →
    max 0 ((setting s).hHi - (setting s).hHys) < (setting s).hOvf →
    Answers (exec .minuteMark s) fun t =>
      t.ogu.hold = .leak ∧ Raised .inletLeak s t ∧ t.ogu.baseline = none ∧ t.ogu.stop.isSome = true ∧
      t.ogu.state = (if (setting s).hOvf ≤ s.msu.lf then .spill else .leak))

/-- R129, R135, R137: the stroke timer runs out in CUT with the valve not CLOSED: STUCK with its HOLD fault and a standing demand,
or at once SPILL where the level is at H_ovf (R127, R132). The demand's cause is the state's, and SAFE in safe hold, also where
this fault begins it (R187). The refill level lies below H_ovf in every clamped image (R192). What a HOLD code entering the set
does (R182, R185, R187, R188): the fault total rises by one; and where another HOLD code is in the set safe hold begins, once, the
snapshot of the station as it then stands frozen, TRIP queued at urgency 7, and the demand on with cause SAFE. The snapshot's claims and NOTE count are stated where the
queue has room, so that whether the ALARM comes before it (log 55) does not show. -/
def Obligations.StrokeTimerFindsStuck : Prop :=
  (∀ s : State, active s = true → s.ogu.stroke = some 0 → s.ogu.state = .cut → s.odu.position ≠ .closed →
    refillLevel s < (setting s).hOvf →
    Answers (exec .strokeTimerExpiry s) fun t =>
      let spills := s.msu.level = .fresh ∧ (setting s).hOvf ≤ s.msu.lf
      t.ogu.hold = .stuck ∧ t.ogu.stroke = none ∧ Raised .inletStuck s t ∧
      t.ogu.state = (if spills then .spill else .stuck) ∧ t.ogu.stop.isSome = true ∧
      (StopsInSafeHold s → ∃ d, t.ogu.stop = some d ∧
        d.cause = (if t.ftu.safeHold = true then .safe else if spills then .spill else .stuck) ∧ (spills → d.urgency = 7)) ∧
      (let enters := conditionPresent .inletStuck s = false ∧ inFaultSet .inletStuck s = false
       let second := enters ∧ s.ftu.safeHold = false ∧ (inFaultSet .inletLeak s = true ∨ inFaultSet .stopUnconfirmed s = true)
       (enters → t.ftu.total = min 65535 (s.ftu.total + 1)) ∧ (¬ enters → t.ftu.total = s.ftu.total) ∧
       (t.ftu.safeHold = true ↔ s.ftu.safeHold = true ∨ second) ∧ (¬ second → t.ftu.snapshot = s.ftu.snapshot) ∧
       (second → ∃ x, t.ftu.snapshot = some x ∧ x.guard = .stuck ∧ x.lf = s.msu.lf ∧ x.level = s.msu.level ∧
         x.volume = s.msu.volume ∧ x.capacity = s.ptb.capacity ∧ x.elapsed = s.msu.secondCount ∧
         x.stageMask = s.ftu.stageMask ∧
         (∀ c, x.faults[faultIndex c] = (decide (c = .inletStuck) || inFaultSet c s)) ∧
         (s.lnu.queue.length ≤ 6 → x.supplyClaim = s.clu.ownSupply.state ∧ x.loadClaim = s.clu.ownLoad.state ∧
           x.notes = s.ftu.notes))) ∧
      t.msu = s.msu ∧ t.ilu = s.ilu ∧ t.ptb = s.ptb ∧ t.odu.position = s.odu.position) ∧
  ∀ x ∈ [(FaultCode.inletStuck, AlarmCode.inletStuck, 6), (.inletLeak, .inletLeak, 6), (.stopUnconfirmed, .stopUnconfirmed, 7)],
    ∀ s : State, active s = true → conditionPresent x.1 s = false → inFaultSet x.1 s = false → s.lnu.queue.length ≤ 5 →
      let t := raiseCondition x.1 s
      let second := s.ftu.safeHold = false ∧
        (inFaultSet .inletStuck s = true ∨ inFaultSet .inletLeak s = true ∨ inFaultSet .stopUnconfirmed s = true)
      let queued := fun (item : Outgoing) (u : Nat) => ∃ e ∈ t.lnu.queue, keyOf e.item = keyOf item ∧ u ≤ e.urgency ∧
        (if e.sending then e.renewed = some item else e.item = item)
      conditionPresent x.1 t = true ∧ inFaultSet x.1 t = true ∧ faultAcked x.1 t = false ∧
      t.ftu.total = min 65535 (s.ftu.total + 1) ∧ queued (.alarm x.2.1) x.2.2 ∧
      (¬ second → t.ftu.safeHold = s.ftu.safeHold ∧ t.ftu.snapshot = s.ftu.snapshot ∧ t.ogu = s.ogu) ∧
      (second → t.ftu.safeHold = true ∧ queued .trip 7 ∧ queued .stop ((s.ogu.stop.map StopDemand.urgency).getD 6) ∧
        t.ogu.stop.map StopDemand.cause = some .safe ∧
        t.ogu.stop.map StopDemand.urgency = some ((s.ogu.stop.map StopDemand.urgency).getD 6) ∧
        t.ftu.snapshot = some {
          lf := s.msu.lf, level := s.msu.level, volume := s.msu.volume, guard := s.ogu.state
          faults := put s.ftu.inSet (faultIndex x.1) true, stageMask := s.ftu.stageMask
          supplyClaim := s.clu.ownSupply.state, loadClaim := s.clu.ownLoad.state
          capacity := s.ptb.capacity, elapsed := s.msu.secondCount, notes := s.ftu.notes })

/-- R146 to R151, R153 to R155: what a second event makes of the air state and the critical flag, and what an evaluation decides:
the wishes, the target, the selected set, the required amount, the frost state, the amount and urgency asked, the starved flag,
which commanded stages stay (those of the selected set whose running sum of ratings lies within the covered amount, all of them
under local authority), and which one is commanded ON: where no stage is PROVING, the first of the selected set not yet commanded,
if it too is covered, and its relay is energised as it goes to PROVING (R35); it changes no other block's state than the claims,
the stages and what is handed on. -/
def Obligations.FrostEvaluationDecides : Prop :=
  (∀ s : State, active s = true →
    let t := frostEvaluate s
    let present := fun (k : Fin 4) => 0 < (setting s).ratings[k]
    let examined := s.frc.airWatch = true ∨ s.frc.critical = true
    let healthy := [0, 1, 2, 3].filter (fun k : Fin 4 => decide (present k) && !s.frc.failed[k])
    (∀ k : Fin 4, t.frc.wishes[k] =
      if examined then (if s.msu.tr.state = .held then decide (present k) else s.frc.wishes[k]) else false) ∧
    t.frc.target = min (ordersNow s).heatCap
      ([0, 1, 2, 3].filter (fun k : Fin 4 => decide (present k) && t.frc.wishes[k])).length ∧
    (∀ k : Fin 4, t.frc.selected[k] = (healthy.take t.frc.target).contains k) ∧
    t.frc.required = ((healthy.take t.frc.target).map (fun k => (setting s).ratings[k])).sum ∧
    t.frc.state = (if s.frc.critical = true then .critical else if 1 ≤ t.frc.target then .heat
      else if s.frc.airWatch = true then .watch else .off) ∧
    t.frc.asked = (if t.frc.required = 0 then none
      else some (min 255 t.frc.required, if t.frc.state = .critical then 6 else 3)) ∧
    (t.frc.starved = true ↔
      ¬ (t.frc.state = .critical ∧ s.lnu.state = .lineFault) ∧
      (if t.clu.ownLoad.state = .held then t.clu.ownLoad.held else 0) < t.frc.required) ∧
    (let local_ := t.frc.state = .critical ∧ s.lnu.state = .lineFault
     let covered := fun (x : State) => if x.clu.ownLoad.state = .held then x.clu.ownLoad.held else 0
     let stands := fun (k : Fin 4) => (stageAt k s).command && t.frc.selected[k]
     let sumOf := fun (p : Fin 4 → Bool) => ([0, 1, 2, 3].map (fun j : Fin 4 => if p j then (setting s).ratings[j] else 0)).sum
     let stays := fun (k : Fin 4) => stands k = true ∧
       (local_ ∨ sumOf (fun j => decide (j.val ≤ k.val) && stands j) ≤ covered s)
     let proving := ∃ k : Fin 4, present k ∧ (stageAt k s).state = .proving ∧ (stays k ∨ (stageAt k s).command = false)
     let next := fun (k : Fin 4) => t.frc.selected[k] = true ∧ ¬ stays k ∧
       ∀ j : Fin 4, j.val < k.val → t.frc.selected[j] = true → stays j
     let turnsOn := fun (k : Fin 4) => ¬ proving ∧ next k ∧
       (local_ ∨ ∀ kept : Fin 4 → Bool, (∀ j, kept j = true ↔ stays j) → sumOf kept + (setting s).ratings[k] ≤ covered t)
     (∀ k : Fin 4, (stageAt k t).command = true ↔ stays k ∨ turnsOn k) ∧
     (∀ k : Fin 4, turnsOn k → (stageAt k s).command = false →
       (stageAt k s).state = .off ∨ (stageAt k s).state = .dropping →
       stageAt k t = { command := true, state := .proving, timer := some (setting s).proofTime } ∧ heatRelay k t = true)) ∧
    (∀ k : Fin 4, t.frc.selected[k] = false → (stageAt k t).command = false) ∧
    t.frc.airWatch = s.frc.airWatch ∧ t.frc.critical = s.frc.critical ∧ t.frc.failed = s.frc.failed ∧
    t.msu = s.msu ∧ t.ilu = s.ilu ∧ t.ptb = s.ptb ∧ t.flc = s.flc ∧ t.ogu = s.ogu ∧ t.sld = s.sld) ∧
  (∀ (p w r a : AnalogCode) (s : State), active s = true → s.msu.running = true →
    Answers (exec (.secondEvent p w r a) s) fun t =>
      let x := setting s
      t.frc.airWatch = (if t.msu.ta.state = .held then true
        else if s.frc.airWatch then decide (t.msu.ta.value < x.tAirOn + 20) else decide (t.msu.ta.value ≤ x.tAirOn)) ∧
      t.frc.critical =
        (if latchSet .frostgrp s = true ∨ t.msu.tr.state = .good ∧ t.msu.tr.value ≤ x.tCrit then true
        else if t.msu.tr.state = .good then (if x.tCrit + 10 ≤ t.msu.tr.value then false else s.frc.critical)
        else s.frc.critical && [0, 1, 2, 3].any (fun k : Fin 4 => debounced (.fst k) s)))

/-- R159, R160: a stagnation period ends. R177, R178: the report timer's due event: skipped where a REPORT is queued, else queued at
urgency 1. -/
def Obligations.StagnationAndReportTimers : Prop :=
  (∀ s : State, Rested s → active s = true → 60 * (setting s).stagHours ≤ s.frc.stagMinutes →
    ∃ raised : Bool,
      (raised = true ↔ s.frc.turnoverRequest = true ∨
        s.msu.tw.state = .good ∧ s.msu.tw.value ≤ (setting s).tTurn ∧
        ∃ l h, s.frc.stagLow = some l ∧ s.frc.stagHigh = some h ∧ h - l < (setting s).stagThreshold) ∧
      exec .stagnationPeriodEnd s = .next (beginEvent { s with frc := { s.frc with
        turnoverRequest := raised, stagLow := none, stagHigh := none, stagMinutes := 0 } })) ∧
  ∀ s : State, Rested s → active s = true → s.rpu.timerDue = true →
    (s.rpu.queued = true →
      exec .reportTimerDue s = .next (beginEvent { s with rpu := { s.rpu with
        timerDue := false, due := s.rpu.due + 1, age := 0, skipped := s.rpu.skipped + 1
        skippedField := min 255 (s.rpu.skippedField + 1) } })) ∧
    (s.rpu.queued = false → s.lnu.queue.length < 8 → (∀ e ∈ s.lnu.queue, keyOf e.item ≠ .report) →
      exec .reportTimerDue s = .next (beginEvent { s with
        rpu := { s.rpu with timerDue := false, due := s.rpu.due + 1, age := 0, queued := true }
        lnu := { s.lnu with
          queue := s.lnu.queue ++ [newEntry .report 1 s.lnu.nextAge], nextAge := s.lnu.nextAge + 1 } }))

/-- R164, R167 to R172: what a match of a key is, that a lookup takes the matching entry with the lowest index, the keys of the two
lookups position by position, that each field of a match which is not KEEP replaces the default or the first match's, and what an
evaluation keeps. -/
def Obligations.SituationLookup : Prop :=
  (∀ (key : KeyBits) (e : TableEntry), entryMatches key e = true ↔
    e.valid = true ∧ ∀ p, p < 46 → e.mask.getLsbD p = true → key.getLsbD p = e.value.getLsbD p) ∧
  (∀ (key : KeyBits) (table : List TableEntry) (e : TableEntry), lookup key table = some e ↔
    ∃ i : Nat, table[i]? = some e ∧ entryMatches key e = true ∧
      ∀ (j : Nat) (x : TableEntry), j < i → table[j]? = some x → entryMatches key x = false) ∧
  (∀ (key : KeyBits) (table : List TableEntry), lookup key table = none ↔ ∀ e ∈ table, entryMatches key e = false) ∧
  (∀ (key : KeyBits) (link p : Nat), link < 16 → p < 46 →
    (firstKey key).getLsbD p = (if p = 0 then true else if p ≤ 4 then false else key.getLsbD p) ∧
    (secondKey link key).getLsbD p = (if p = 0 then false else if p ≤ 4 then link.testBit (p - 1) else key.getLsbD p)) ∧
  (∀ (e : TableEntry) (o : Orders), applyAction none o = o ∧ applyAction (some e) o =
    { target := if e.target < 4 then e.target else o.target
      heatCap := if e.heatCap < 5 then e.heatCap else o.heatCap
      turnover := if e.turnover < 2 then decide (e.turnover = 1) else o.turnover
      relief := if e.relief < 2 then decide (e.relief = 1) else o.relief
      interval := if e.interval < 4 then e.interval else o.interval
      alarm := e.alarmOn || o.alarm }) ∧
  (∀ s : State,
    let first := lookup (firstKey s.stu.key) (setting s).entries
    let link := (first.map TableEntry.link).getD 0
    let d := (setting s).defaults
    let o := applyAction (lookup (secondKey link s.stu.key) (setting s).entries)
      (applyAction first {
        target := d.target, heatCap := d.heatCap, turnover := d.turnover == 1, relief := d.relief == 1
        interval := d.interval, alarm := d.alarm == 1 })
    let t := evaluateSituation s
    t.stu.orders = some o ∧ t.stu.pendingFlag = false ∧ t.stu.key = s.stu.key ∧
    t.stu.changeCount = s.stu.changeCount + (if s.stu.orders = some o then 0 else 1) ∧
    t.handOns = s.handOns ++ (if s.stu.orders = some o then [] else [.orders])) ∧
  (∀ (f : KeyField) (v : Nat) (s : State), active s = true →
    let key := keyWith f v s.stu.key
    let s1 := { s with stu := { s.stu with key := key } }
    takeHandOn (.situation f v) s =
      if key = s.stu.key then s
      else if s.stu.changeCount < 2 then evaluateSituation s1
      else { s1 with stu := { s1.stu with pendingFlag := true } })

/-! ### Frames over all commands -/

/-- The settings image and the pins' contacts change by loading, by the resets and by a contact alone (R191, R195); the
measurement by these and by second events and minute marks (R2, R10); the inputs and latches by contacts, acknowledges, stage
failures, loading and resets alone (R19 to R31, R36); the peer table by second events, notices, windows, a lost peer and resets
alone (R61 to R70). -/
def Obligations.CommandsKeepOtherBlocks : Prop :=
  ∀ (c : Instr) (s t : State), exec c s = .next t →
    c ≠ .powerOnReset → c ≠ .externalReset → (∀ b, c ≠ .loadAttemptDone b) →
    t.sld.settings = s.sld.settings ∧ t.pending = s.pending ∧
    (c ≠ .resetPinReturnsHigh → t.sld.clamped = s.sld.clamped ∧ t.resetLow = s.resetLow) ∧
    ((∀ i b, c ≠ .rawInputChange i b) → t.pins = s.pins) ∧
    ((∀ p w r a, c ≠ .secondEvent p w r a) → c ≠ .minuteMark → t.msu = s.msu) ∧
    ((∀ i b, c ≠ .rawInputChange i b) → (∀ i, c ≠ .inputSettled i) → (∀ k, c ≠ .proofTimerExpiry k) →
      (∀ h, c ≠ .noticeHeard h) → t.ilu = s.ilu) ∧
    ((∀ p w r a, c ≠ .secondEvent p w r a) → (∀ w, c ≠ .windowEnd w) → (∀ n, c ≠ .peerLost n) →
      (∀ h, c ≠ .noticeHeard h) → t.ptb = s.ptb)

/-! ### The laws of the device -/

/-- The state after a power-on reset is safe: every law below holds in it. -/
def Obligations.ResetIsSafe : Prop := Safe State.reset ∧ Settled State.reset

/-- R125, R137, R187: every step keeps the law of safe hold and of the outputs: in safe hold the STOP demand is on with cause
SAFE and the inlet is commanded closed, and the inlet is open only on request, in WATCH, without MAINT and safe hold. -/
def Obligations.SafeHoldLawKept : Prop :=
  (∀ s t : State, SafeHoldKept s → step s = .next t → SafeHoldKept t) ∧
  (∀ (c : Instr) (s t : State), s.ftu.safeHold = true → exec c s = .next t → c ≠ .powerOnReset → c ≠ .externalReset →
    t.ftu.safeHold = true) ∧
  (∀ s : State, SafeHoldKept s →
    (s.ftu.safeHold = true → s.ogu.stop.isSome = true ∧ s.odu.inletOpen = false) ∧
    (s.odu.inletOpen = true → s.flc.openRequest = true ∧ s.ogu.state = .watch ∧ debounced .maint s = false ∧
      s.ftu.safeHold = false))

/-- R52, R177: every step keeps the law of the queue and the report law. -/
def Obligations.ReportLawKept : Prop := ∀ s t : State, ReportsKept s → step s = .next t → ReportsKept t

/-- R6: every step keeps the filtered level and the ring within 0..L_max. -/
def Obligations.LevelLawKept : Prop := ∀ s t : State, LevelKept s → step s = .next t → LevelKept t

/-- R122: every step keeps the learned inflow within q_min..q_max. -/
def Obligations.InflowLawKept : Prop := ∀ s t : State, InflowKept s → step s = .next t → InflowKept t

/-- R153, R156, R158: every step keeps the law of heating: outside local authority, and while no frost evaluation is still handed on
inside the event (the model's order of handing on, log 6), the ratings of the energised stages lie within the held amount of the HELD
LOAD claim, and the failed-stage set agrees with the failure signals and STAGE_FAIL. Between commands no evaluation waits
(`EventsComeToRest`), so there the amount holds save under local authority: the second clause. -/
def Obligations.HeatingLawKept : Prop :=
  (∀ s t : State, HeatingKept s → step s = .next t → HeatingKept t) ∧
  (∀ s : State, HeatingKept s → Settled s → ¬ (s.frc.state = .critical ∧ s.lnu.state = .lineFault) →
    ([0, 1, 2, 3].map (fun k : Fin 4 =>
      if (stageAt k s).state = .proving ∨ (stageAt k s).state = .on then (setting s).ratings[k] else 0)).sum ≤
      (if s.clu.ownLoad.state = .held then s.clu.ownLoad.held else 0))

/-- Every event comes to rest within its own step: a step from a state in which nothing is still handed on leaves nothing handed
on, no frost evaluation in particular. The list of hand-ons and its bound are the model's (log 6); that at most two questions wait
is R71 and R101. -/
def Obligations.EventsComeToRest : Prop := ∀ s t : State, ComesToRest s → step s = .next t → ComesToRest t

/-- R76, R102, R107: every step keeps the law of the SUPPLY claim: whatever is asked it is one of 1 slot, it stands asked exactly in
CLAIM and in FILL for TARIFF or TURNOVER, the open request is on exactly in FILL, and before loading ends the claim unit is at its
reset values. -/
def Obligations.SupplyClaimLawKept : Prop := ∀ s t : State, SupplyClaimKept s → step s = .next t → SupplyClaimKept t

/-- R172: no event issues more than two orders changes. -/
def Obligations.OrdersLawKept : Prop := ∀ s t : State, OrdersBounded s → step s = .next t → OrdersBounded t

/-- R40, R42, section 11.5: what this station sends, another reads: the frame of every notice passes every check and carries the
urgency, the number, the role TOWER and the contents as filled, for every state within the ranges of the fields. -/
def Obligations.NoticeReadsAsSent : Prop :=
  ∀ (item : Outgoing) (u station : Nat) (s : State), u < 8 → 1 ≤ station → station ≤ 24 →
    s.msu.lf < 32768 → 0 ≤ s.msu.volume → s.msu.volume < 20971520 →
    readNotice (frame item u station (bodyOf item s)) =
      .ok { urgency := u, station := station, role := .tower, content := contentSent item s }
end

