-- ==== Sys2Proof/Laws/Cascade.lean ====
section
/-! SUPPORT. What no hand-on changes: the view of a state that every operation of the cascade leaves as it is, one lemma for each operation, and the event law that follows. -/

namespace Sys2Proof.Machine

/-! ### Updates outside the view -/

@[simp] theorem quiet_handOns (s : State) (h : List HandOn) : quiet { s with handOns := h } = quiet s := rfl
@[simp] theorem quiet_stu (s : State) (x : Situation) : quiet { s with stu := x } = quiet s := rfl
@[simp] theorem quiet_rpu (s : State) (x : Reports) : quiet { s with rpu := x } = quiet s := rfl
@[simp] theorem quiet_queue (s : State) (q : List QueueEntry) (n : Nat) :
    quiet { s with lnu := { s.lnu with queue := q, nextAge := n } } = quiet s := rfl
@[simp] theorem quiet_notes (s : State) (n : Nat) : quiet { s with ftu := { s.ftu with notes := n } } = quiet s := rfl
@[simp] theorem quiet_mode (s : State) (m : StationMode) : quiet { s with sld := { s.sld with mode := m } } = quiet s := rfl
@[simp] theorem quiet_outputs (s : State) (i a : Bool) (x : Vector Stage 4) :
    quiet { s with odu := { s.odu with inletOpen := i, stages := x, alarm := a } } = quiet s := rfl
@[simp] theorem quiet_fill (s : State) (a : FillState) (b : BlockCauses) (c : Plan) (d e g : Bool) (t : Option Nat) (l : Option Int) :
    quiet { s with flc := { s.flc with
      state := a, causes := b, plan := c, learning := d, openRequest := e, openTimer := t, turnoverStart := l
      unproductive := g } } = quiet s := rfl
@[simp] theorem quiet_frost (s : State) (a : FrostState) (w c : Vector Bool 4) (n m : Nat) (k : Option (Nat × Nat)) (v : Bool) :
    quiet { s with frc := { s.frc with
      state := a, wishes := w, target := n, selected := c, required := m, asked := k, starved := v } } = quiet s := rfl
@[simp] theorem quiet_claims (s : State) (a b : OwnClaim) (c d : Option Nat) (q : List Question) (f : Option Question)
    (g h : Bool) (l t : Option Nat) :
    quiet { s with clu := { s.clu with
      ownSupply := a, ownLoad := b, incompleteSupply := c, incompleteLoad := d, questions := q, inFlight := f
      answeredSupply := g, answeredLoad := h, listening := l, answer := t } } = quiet s := rfl

@[simp] theorem quiet_emit (h : HandOn) (s : State) : quiet (emit h s) = quiet s := rfl
@[simp] theorem quiet_setOwn (r : Resource) (c : OwnClaim) (s : State) : quiet (setOwn r c s) = quiet s := by cases r <;> rfl
@[simp] theorem quiet_setIncompleteTimer (r : Resource) (t : Option Nat) (s : State) :
    quiet (setIncompleteTimer r t s) = quiet s := by cases r <;> rfl
@[simp] theorem quiet_setStage (k : Fin 4) (x : Stage) (s : State) : quiet (setStage k x s) = quiet s := rfl

theorem entryAt_setEntry_of_ne {n m : Nat} (h : n ≠ m) (r r' : Resource) (e : Option Holding) (s : State) :
    entryAt r n (setEntry r' m e s) = entryAt r n s := by
  unfold setEntry
  split
  · cases r <;> cases r' <;> simp only [entryAt, claimTable, setTable] <;> split <;> try rfl
    all_goals exact Vector.getElem_set_ne _ _ (by omega)
  · rfl

theorem station_setEntry (r : Resource) (n : Nat) (e : Option Holding) (s : State) :
    (setEntry r n e s).sld = s.sld := by
  unfold setEntry; split <;> cases r <;> rfl

@[simp] theorem quiet_setOwnEntry (r : Resource) (e : Option Holding) (s : State) :
    quiet (setEntry r (setting s).station e s) = quiet s := by
  have h : othersOf (setEntry r (setting s).station e s) = othersOf s := by
    funext r' n
    unfold othersOf setting
    rw [station_setEntry]
    split
    · rfl
    · exact entryAt_setEntry_of_ne (by assumption) _ _ _ _
  have h2 : quiet (setEntry r (setting s).station e s)
      = { quiet s with others := othersOf (setEntry r (setting s).station e s) } := by
    unfold setEntry; split <;> cases r <;> rfl
  rw [h2, h]; rfl

theorem setting_of_quiet {s t : State} (h : quiet s = quiet t) : setting s = setting t := congrArg Quiet.settings h

/-- The own entry written at a number read from an earlier state of the same settings. -/
theorem quiet_setEntry_own {s t : State} (r : Resource) (e : Option Holding) (h : quiet t = quiet s) :
    quiet (setEntry r (setting s).station e t) = quiet s := by
  rw [← setting_of_quiet h, quiet_setOwnEntry, h]

/-- A fold of operations outside the view. -/
theorem quiet_foldl {α : Type} (f : State → α → State) (h : ∀ t k, quiet (f t k) = quiet t) (l : List α) (s : State) :
    quiet (l.foldl f s) = quiet s := by
  induction l generalizing s with
  | nil => rfl
  | cons k l ih => rw [List.foldl_cons, ih, h]

/-! ### The operations of the cascade -/

@[simp] theorem quiet_noteOccurrence (s : State) : quiet (noteOccurrence s) = quiet s := by
  unfold noteOccurrence; dsimp only; simp

@[simp] theorem quiet_countSkipped (s : State) : quiet (countSkipped s) = quiet s := by
  unfold countSkipped; dsimp only; simp

@[simp] theorem quiet_reportDropped (s : State) : quiet (reportDropped s) = quiet s := by
  unfold reportDropped; dsimp only; simp

@[simp] theorem quiet_claimBackToWaiting (r : Resource) (s : State) : quiet (claimBackToWaiting r s) = quiet s := by
  unfold claimBackToWaiting; dsimp only; (repeat' split) <;> simp

@[simp] theorem quiet_tellLost (x0 : Resource) (s : State) : quiet (tellLost x0 s) = quiet s := by
  unfold tellLost; (repeat' split) <;> simp

@[simp] theorem quiet_tellGranted (x0 : Resource) (s : State) : quiet (tellGranted x0 s) = quiet s := by
  unfold tellGranted; (repeat' split) <;> simp

@[simp] theorem quiet_tellRaiseWithdrawn (x0 : Resource) (s : State) : quiet (tellRaiseWithdrawn x0 s) = quiet s := by
  unfold tellRaiseWithdrawn; (repeat' split) <;> simp

@[simp] theorem quiet_dropOwnEntry (r : Resource) (s : State) : quiet (dropOwnEntry r s) = quiet s := by
  unfold dropOwnEntry; simp

theorem quiet_giveUp {release : State → State} (h : ∀ t, quiet (release t) = quiet t) (r : Resource) (s : State) : quiet (giveUp release r s) = quiet s := by
  unfold giveUp; simp [h]

@[simp] theorem quiet_setIncomplete (r : Resource) (s : State) : quiet (setIncomplete r s) = quiet s := by
  unfold setIncomplete; simp

@[simp] theorem quiet_markIncompleteFor (q : Question) (s : State) : quiet (markIncompleteFor q s) = quiet s := by
  unfold markIncompleteFor; split <;> simp

theorem quiet_tellDropped {release : Resource → State → State} (h : ∀ r t, quiet (release r t) = quiet t) (item : Outgoing) (s : State) : quiet (tellDropped release item s) = quiet s := by
  unfold tellDropped; (repeat' split) <;> simp [quiet_giveUp (h _)]

theorem quiet_dropNotice {release : Resource → State → State} (h : ∀ r t, quiet (release r t) = quiet t) (item : Outgoing) (s : State) : quiet (dropNotice release item s) = quiet s := by
  unfold dropNotice; simp [quiet_tellDropped h]

@[simp] theorem quiet_claimRefused (r : Resource) (refresh : Bool) (s : State) : quiet (claimRefused r refresh s) = quiet s := by
  unfold claimRefused; (repeat' split) <;> simp

@[simp] theorem quiet_enqueue (item : Outgoing) (u : Nat) (s : State) : quiet (enqueue item u s) = quiet s := by
  unfold enqueue; dsimp only; simp

theorem quiet_queueNew {release : Resource → State → State} (h : ∀ r t, quiet (release r t) = quiet t) (item : Outgoing) (u : Nat) (s : State) : quiet (queueNew release item u s) = quiet s := by
  unfold queueNew; (repeat' split) <;> simp [quiet_dropNotice h]

@[simp] theorem quiet_queueOver (item : Outgoing) (u : Nat) (e : QueueEntry) (s : State) : quiet (queueOver item u e s) = quiet s := by
  unfold queueOver; (repeat' split) <;> simp

theorem quiet_queueWith {release : Resource → State → State} (h : ∀ r t, quiet (release r t) = quiet t) (item : Outgoing) (u : Nat) (s : State) : quiet (queueWith release item u s) = quiet s := by
  unfold queueWith; (repeat' split) <;> simp [quiet_queueNew h]

theorem quiet_queueRelease (n : Nat) (r : Resource) (s : State) : quiet (queueRelease n r s) = quiet s := by
  induction n generalizing r s with
  | zero => rfl
  | succ n ih => exact quiet_queueWith ih _ _ _

@[simp] theorem quiet_queueNotice (item : Outgoing) (u : Nat) (s : State) : quiet (queueNotice item u s) = quiet s :=
  quiet_queueWith (quiet_queueRelease 2) item u s


@[simp] theorem quiet_dueEvent (s : State) : quiet (dueEvent s) = quiet s := by
  unfold dueEvent; dsimp only; (repeat' split) <;> simp

@[simp] theorem quiet_changeSeen (s : State) : quiet (changeSeen s) = quiet s := by
  unfold changeSeen; dsimp only; simp

@[simp] theorem quiet_announce (r : Resource) (s : State) : quiet (announce r s) = quiet s := by
  unfold announce; dsimp only; (repeat' split) <;> simp

@[simp] theorem quiet_loseOwn (r : Resource) (releases : Bool) (s : State) : quiet (loseOwn r releases s) = quiet s :=
  quiet_giveUp (fun t => by split <;> simp) r s

@[simp] theorem quiet_handField (f : KeyField) (s : State) : quiet (handField f s) = quiet s := rfl

@[simp] theorem quiet_withdrawRaise (r : Resource) (s : State) : quiet (withdrawRaise r s) = quiet s := by
  unfold withdrawRaise; dsimp only; (repeat' split) <;> simp [quiet_setEntry_own]

@[simp] theorem quiet_settleCheck (r : Resource) (s : State) : quiet (settleCheck r s) = quiet s := by
  unfold settleCheck; dsimp only; (repeat' split) <;> simp

@[simp] theorem quiet_reexamineNow (r : Resource) (s : State) : quiet (reexamineNow r s) = quiet s := by
  unfold reexamineNow; simp

@[simp] theorem quiet_ownEntryUrgency (r : Resource) (u : Nat) (s : State) : quiet (ownEntryUrgency r u s) = quiet s := by
  unfold ownEntryUrgency; (repeat' split) <;> simp

@[simp] theorem quiet_changeUrgency (r : Resource) (u : Nat) (s : State) : quiet (changeUrgency r u s) = quiet s := by
  unfold changeUrgency; dsimp only; (repeat' split) <;> simp

@[simp] theorem quiet_withdrawOwn (r : Resource) (s : State) : quiet (withdrawOwn r s) = quiet s := by
  unfold withdrawOwn; (repeat' split) <;> simp

@[simp] theorem quiet_askFresh (r : Resource) (a u : Nat) (s : State) : quiet (askFresh r a u s) = quiet s := by
  unfold askFresh; dsimp only; simp

@[simp] theorem quiet_lowerOwn (r : Resource) (a : Nat) (s : State) : quiet (lowerOwn r a s) = quiet s := by
  unfold lowerOwn; dsimp only; simp [quiet_setEntry_own]

@[simp] theorem quiet_raiseOwn (r : Resource) (a : Nat) (s : State) : quiet (raiseOwn r a s) = quiet s := by
  unfold raiseOwn; dsimp only; (repeat' split) <;> simp [quiet_setEntry_own]

@[simp] theorem quiet_askAmount (r : Resource) (a : Nat) (s : State) : quiet (askAmount r a s) = quiet s := by
  unfold askAmount; dsimp only; (repeat' split) <;> simp

@[simp] theorem quiet_askOwn (r : Resource) (a u : Nat) (s : State) : quiet (askOwn r a u s) = quiet s := by
  unfold askOwn; (repeat' split) <;> simp

@[simp] theorem quiet_askNext (s : State) : quiet (askNext s) = quiet s := by
  unfold askNext; dsimp only; (repeat' split) <;> simp

@[simp] theorem quiet_markAnswered (q : Question) (s : State) : quiet (markAnswered q s) = quiet s := by
  unfold markAnswered; dsimp only; (repeat' split) <;> simp

@[simp] theorem quiet_moveStage (k : Fin 4) (x : Stage) (s : State) : quiet (moveStage k x s) = quiet s := by
  unfold moveStage; simp

@[simp] theorem quiet_commandStage (k : Fin 4) (on : Bool) (s : State) : quiet (commandStage k on s) = quiet s := by
  unfold commandStage; dsimp only; (repeat' split) <;> simp

@[simp] theorem quiet_moveFill (new : FillState) (s : State) : quiet (moveFill new s) = quiet s := by
  unfold moveFill; dsimp only; simp

@[simp] theorem quiet_setFill (new : FillState) (s : State) : quiet (setFill new s) = quiet s := by
  unfold setFill; dsimp only; (repeat' split) <;> simp

@[simp] theorem quiet_reliefStart (s : State) : quiet (reliefStart s) = quiet s := by
  unfold reliefStart; (repeat' split) <;> simp

@[simp] theorem quiet_reliefEnd (s : State) : quiet (reliefEnd s) = quiet s := by
  unfold reliefEnd; (repeat' split) <;> simp

@[simp] theorem quiet_planStep (s : State) : quiet (planStep s) = quiet s := by
  unfold planStep; (repeat' split) <;> simp

@[simp] theorem quiet_handUrgency (s : State) : quiet (handUrgency s) = quiet s := by
  unfold handUrgency; (repeat' split) <;> simp

@[simp] theorem quiet_replan (handsSlack : Bool) (s : State) : quiet (replan handsSlack s) = quiet s := by
  unfold replan; dsimp only; (repeat' split) <;> simp

@[simp] theorem quiet_planAndStep (handsSlack : Bool) (s : State) : quiet (planAndStep handsSlack s) = quiet s := by
  unfold planAndStep; simp

@[simp] theorem quiet_takeCauses (s : State) : quiet (takeCauses s) = quiet s := by
  unfold takeCauses; dsimp only; (repeat' split) <;> simp

@[simp] theorem quiet_fillFollows (s : State) : quiet (fillFollows s) = quiet s := by
  unfold fillFollows; (repeat' split) <;> simp

@[simp] theorem quiet_fillGranted (s : State) : quiet (fillGranted s) = quiet s := by
  unfold fillGranted; (repeat' split) <;> simp

@[simp] theorem quiet_fillLost (s : State) : quiet (fillLost s) = quiet s := by
  unfold fillLost; (repeat' split) <;> simp

@[simp] theorem quiet_applyPermits (s : State) : quiet (applyPermits s) = quiet s := by
  unfold applyPermits; dsimp only; (repeat' split) <;> simp

@[simp] theorem quiet_fillOrders (s : State) : quiet (fillOrders s) = quiet s := by
  unfold fillOrders; simp

@[simp] theorem quiet_standingWishes (s : State) : quiet (standingWishes s) = quiet s := by
  unfold standingWishes; dsimp only; (repeat' split) <;> simp

@[simp] theorem quiet_selectNow (s : State) : quiet (selectNow s) = quiet s := by
  unfold selectNow; dsimp only; simp

@[simp] theorem quiet_updateFrostState (s : State) : quiet (updateFrostState s) = quiet s := by
  unfold updateFrostState; dsimp only; (repeat' split) <;> simp

@[simp] theorem quiet_dropStages (s : State) : quiet (dropStages s) = quiet s := by
  unfold dropStages; exact quiet_foldl _ (fun t k => by split <;> simp) _ _

@[simp] theorem quiet_requestLoad (s : State) : quiet (requestLoad s) = quiet s := by
  unfold requestLoad; dsimp only; (repeat' split) <;> simp

@[simp] theorem quiet_energiseNext (s : State) : quiet (energiseNext s) = quiet s := by
  unfold energiseNext; (repeat' split) <;> simp

@[simp] theorem quiet_judgeStarved (s : State) : quiet (judgeStarved s) = quiet s := by
  unfold judgeStarved; dsimp only; (repeat' split) <;> simp

@[simp] theorem quiet_frostEvaluate (s : State) : quiet (frostEvaluate s) = quiet s := by
  unfold frostEvaluate; (repeat' split) <;> simp

@[simp] theorem quiet_evaluateSituation (s : State) : quiet (evaluateSituation s) = quiet s := by
  unfold evaluateSituation; dsimp only; (repeat' split) <;> simp

@[simp] theorem quiet_situationChange (key : KeyBits) (s : State) : quiet (situationChange key s) = quiet s := by
  unfold situationChange; dsimp only; (repeat' split) <;> simp

@[simp] theorem quiet_takeKey (key : KeyBits) (s : State) : quiet (takeKey key s) = quiet s := by
  unfold takeKey; (repeat' split) <;> simp

@[simp] theorem quiet_takeField (f : KeyField) (value : Nat) (s : State) : quiet (takeField f value s) = quiet s := by
  unfold takeField; simp

@[simp] theorem quiet_takeSlack (slack : Int) (s : State) : quiet (takeSlack slack s) = quiet s := by
  unfold takeSlack; simp

@[simp] theorem quiet_reportOrders (s : State) : quiet (reportOrders s) = quiet s := by
  unfold reportOrders; dsimp only; (repeat' split) <;> simp

@[simp] theorem quiet_becomeJoined (s : State) : quiet (becomeJoined s) = quiet s := by
  unfold becomeJoined; simp; rfl

@[simp] theorem quiet_joinIfAnswered (s : State) : quiet (joinIfAnswered s) = quiet s := by
  unfold joinIfAnswered; (repeat' split) <;> simp

@[simp] theorem quiet_questionDone (q : Question) (s : State) : quiet (questionDone q s) = quiet s := by
  unfold questionDone; dsimp only; simp

@[simp] theorem quiet_questionWasDropped (q : Question) (s : State) : quiet (questionWasDropped q s) = quiet s := by
  unfold questionWasDropped; (repeat' split) <;> simp

@[simp] theorem quiet_follow (s : State) : quiet (follow s) = quiet s := rfl

@[simp] theorem quiet_takeOrders (s : State) : quiet (takeOrders s) = quiet s := by
  unfold takeOrders; simp

@[simp] theorem quiet_takeHandOn (h : HandOn) (s : State) : quiet (takeHandOn h s) = quiet s := by
  unfold takeHandOn; (repeat' split) <;> simp

/-! ### The cascade and the event -/

@[simp] theorem quiet_takeHandOns (n : Nat) (s : State) : quiet (takeHandOns n s) = quiet s := by
  induction n generalizing s with
  | zero => rfl
  | succ n ih =>
    unfold takeHandOns
    split
    · rfl
    · rw [ih, quiet_follow, quiet_takeHandOn, quiet_handOns]

@[simp] theorem quiet_beginEvent (s : State) : quiet (beginEvent s) = quiet s := rfl

/-- An event changes the view exactly as its own effect does. -/
theorem quiet_event (f : State → State) (s : State) : quiet (event f s) = quiet (f (beginEvent s)) := by
  unfold event; rw [quiet_takeHandOns, quiet_follow]

/-- With no hand-on left over and none handed on by its own effect, an event is its own effect with the outputs following. -/
theorem event_alone (f : State → State) (s : State) (h : (f (beginEvent s)).handOns = []) :
    event f s = follow (f (beginEvent s)) := by
  unfold event Config.handOnBound takeHandOns
  split
  · rfl
  · rename_i heq; exact absurd (show (f (beginEvent s)).handOns = _ from heq) (by rw [h]; simp)

/-! ### What an event that may occur answers -/

theorem occurs_true {may : Bool} (h : may = true) (f : State → State) (s : State) :
    occurs may f s = .next (event f s) := by simp [occurs, h]

theorem occurs_false {may : Bool} (h : may = false) (f : State → State) (s : State) :
    occurs may f s = .next s := by simp [occurs, h]

end Sys2Proof.Machine
end

