-- ==== Sys2Proof/Laws/Events.lean ====
section
/-! SUPPORT. Events whose answer is exact, and what entering the outgoing queue, its head and its drop candidate are. -/

namespace Sys2Proof.Machine

/-! ### Exact events -/

/-- Where the outputs already follow, following changes nothing. -/
theorem follow_of_outputsFollow {u : State} (h : OutputsFollow u) : follow u = u := by
  obtain ⟨a, b, c⟩ := h
  unfold follow; rw [← a, ← b, ← c]

/-- An event whose own effect hands nothing on and leaves the outputs in place answers that effect. -/
theorem event_eq_of_rested {f : State → State} {s u : State} (h : f (beginEvent s) = beginEvent u) (k : Rested u) :
    event f s = beginEvent u := by
  rw [event_alone f s (by rw [h]; exact k.1), h]
  exact follow_of_outputsFollow k.2

/-! ### Entering the queue (R52, R53) -/

theorem entryUnder_eq_none {k : QueueKey} {q : List QueueEntry} (h : ∀ e ∈ q, keyOf e.item ≠ k) : entryUnder k q = none := by
  unfold entryUnder
  rw [List.find?_eq_none]
  intro e he
  simpa using h e he

theorem mem_of_entryUnder {k : QueueKey} {q : List QueueEntry} {e : QueueEntry} (h : entryUnder k q = some e) :
    e ∈ q ∧ keyOf e.item = k := by
  unfold entryUnder at h
  exact ⟨List.mem_of_find?_eq_some h, by simpa using List.find?_some h⟩

/-- A notice under a new key enters a queue that has room, unless it is a CLAIM that a joining station may not queue. -/
theorem queueNotice_enters {item : Outgoing} {u : Nat} {s : State} (ha : active s = true)
    (hc : isClaim item = true → s.sld.mode = .joined ∨ 6 ≤ u) (hl : s.lnu.queue.length < 8)
    (hk : ∀ e ∈ s.lnu.queue, keyOf e.item ≠ keyOf item) : queueNotice item u s = enqueue item u s := by
  unfold queueNotice queueWith
  rw [if_pos ha, entryUnder_eq_none hk]
  cases item with
  | claim r f =>
    have : ¬ (s.sld.mode = .joining ∧ u < 6) := by
      rintro ⟨a, b⟩
      rcases hc rfl with h | h
      · rw [a] at h; cases h
      · omega
    simp only [this, if_false, queueNew, hl, if_true]
  | _ => simp only [queueNew, hl, if_true]

/-- Outside JOINING and JOINED nothing is queued. -/
theorem queueNotice_inactive {item : Outgoing} {u : Nat} {s : State} (ha : active s = false) : queueNotice item u s = s := by
  unfold queueNotice queueWith; rw [ha]; rfl

/-- A RELEASE that a dropped refresh leads to is queued as any other notice is, on the levels below. -/
theorem queueRelease_succ (n : Nat) (r : Resource) (s : State) :
    queueRelease (n + 1) r s = queueWith (queueRelease n) (.release r) 5 s := rfl

/-! ### An idle step (R46) -/

/-- An idle step leaves everything but the slot count, which it moves by one at most. -/
theorem passSlot_cases (s : State) :
    passSlot s = s ∨ s.lnu.state = .quiet ∧ passSlot s = { s with lnu := { s.lnu with slot := s.lnu.slot + 1 } } := by
  unfold passSlot
  split
  · rename_i h
    exact .inr ⟨by simp at h; exact h.1, rfl⟩
  · exact .inl rfl

/-- An idle step passes no start: the head's start stays the same slot, and stays ahead of the count where it was (R47). -/
theorem passSlot_startSlot {s : State} {e : QueueEntry} (h : queueHead s.lnu.queue = some e) :
    startSlot e (passSlot s) = startSlot e s ∧
    (s.lnu.slot < startSlot e s → (passSlot s).lnu.slot < startSlot e s) := by
  unfold passSlot
  rw [h]
  split
  · rename_i c
    simp only [Bool.and_eq_true, beq_iff_eq, Option.map_some, Option.getD_some, decide_eq_true_eq] at c
    obtain ⟨_, c⟩ := c
    refine ⟨?_, fun _ => c⟩
    have k : slotOf e { s with lnu := { s.lnu with slot := s.lnu.slot + 1 } } = slotOf e s := rfl
    unfold startSlot at c ⊢
    rw [k]
    generalize slotOf e s = n at c ⊢
    cases hh : s.lnu.heldOff <;> simp only [hh, if_true, Bool.false_eq_true, if_false] at c ⊢ <;>
      (by_cases h1 : n < s.lnu.slot <;> by_cases h2 : n < s.lnu.slot + 1 <;> simp only [h1, h2, if_true, if_false] at c ⊢ <;> omega)
  · exact ⟨rfl, id⟩

/-! ### Head and drop candidate (R52, R55) -/

theorem queueHead_mem {q : List QueueEntry} {e : QueueEntry} (h : queueHead q = some e) : e ∈ q ∧ e.sending = false := by
  induction q generalizing e with
  | nil => simp [queueHead] at h
  | cons a l ih =>
    unfold queueHead at h
    split at h
    · simp [ih h]
    · rename_i hs
      split at h
      · cases h; simp_all
      · rename_i b hb
        cases h
        have := ih hb
        unfold moreUrgent
        repeat' split
        all_goals simp_all

theorem dropCandidate_mem {q : List QueueEntry} {e : QueueEntry} (h : dropCandidate q = some e) :
    e ∈ q ∧ e.sending = false := by
  induction q generalizing e with
  | nil => simp [dropCandidate] at h
  | cons a l ih =>
    unfold dropCandidate at h
    split at h
    · simp [ih h]
    · rename_i hs
      split at h
      · cases h; simp_all
      · rename_i b hb
        cases h
        have := ih hb
        unfold lessUrgent
        repeat' split
        all_goals simp_all

end Sys2Proof.Machine
end

