-- ==== Sys2Proof/Laws/Steady.lean ====
section
/-! SUPPORT. What no work of the jobs and the line changes: the measurement, the learned inflow, the settings and whether the station is configured; one lemma for each operation. -/

namespace Sys2Proof.Machine

/-- The mode is JOINING or JOINED. -/
def configured (s : State) : Bool := s.sld.mode == .joining || s.sld.mode == .joined

/-- What only resets, loading, sampling and learning change. -/
structure Steady where
  pending : List Instr
  pins : Vector Bool 17
  resetLow : Bool
  settings : Settings
  load : LoadState
  attempt : Nat
  clamped : Nat
  configured : Bool
  msu : Measure
  qEst : Option Int

/-- That part of a state. -/
def steady (s : State) : Steady :=
  { pending := s.pending, pins := s.pins, resetLow := s.resetLow, settings := s.sld.settings, load := s.sld.load
    attempt := s.sld.attempt, clamped := s.sld.clamped, configured := configured s, msu := s.msu, qEst := s.flc.qEst }

theorem active_eq (s : State) : active s = (!s.resetLow && configured s) := rfl

theorem active_of_steady {s t : State} (h : steady s = steady t) : active s = active t := by
  rw [active_eq, active_eq, show s.resetLow = t.resetLow from congrArg Steady.resetLow h,
    show configured s = configured t from congrArg Steady.configured h]

/-! ### Updates outside that part -/

@[simp] theorem steady_blocks (s : State) (n : Nat) (h : List HandOn) (i : Inputs) (o : Outputs) (l : Line) (p : Peers)
    (c : Claims) (g : Guard) (f : Frost) (u : Situation) (r : Reports) (x : Faults) :
    steady { s with bodiesFilled := n, handOns := h, ilu := i, odu := o, lnu := l, ptb := p, clu := c, ogu := g, frc := f
                    stu := u, rpu := r, ftu := x } = steady s := rfl

@[simp] theorem steady_fill (s : State) (n : Nat) (h : List HandOn) (i : Inputs) (o : Outputs) (l : Line) (p : Peers)
    (c : Claims) (g : Guard) (f : Frost) (u : Situation) (r : Reports) (x : Faults) (a b : Bool) (d e : Nat)
    (k : FillState) (j : BlockCauses) (q : Plan) (v w y : Bool) (t z : Option Nat) (ts : Option Int) (sf : Int) :
    steady { s with bodiesFilled := n, handOns := h, ilu := i, odu := o, lnu := l, ptb := p, clu := c, ogu := g, frc := f
                    stu := u, rpu := r, ftu := x
                    flc := { s.flc with
                      night := a, elapsed := d, silence := e, nightTimeoutDue := b, state := k, causes := j, plan := q
                      learning := v, openRequest := w, openTimer := t, clearing := z, turnoverStart := ts, shortfall := sf
                      unproductive := y } } = steady s := rfl

@[simp] theorem steady_emit (h : HandOn) (s : State) : steady (emit h s) = steady s := rfl
@[simp] theorem steady_setOwn (r : Resource) (c : OwnClaim) (s : State) : steady (setOwn r c s) = steady s := by cases r <;> rfl
@[simp] theorem steady_setTable (r : Resource) (t : Vector (Option Holding) 24) (s : State) :
    steady (setTable r t s) = steady s := by cases r <;> rfl
@[simp] theorem steady_setEntry (r : Resource) (n : Nat) (e : Option Holding) (s : State) :
    steady (setEntry r n e s) = steady s := by unfold setEntry; split <;> simp
@[simp] theorem steady_setPeer (n : Nat) (p : Peer) (s : State) : steady (setPeer n p s) = steady s := by
  unfold setPeer; split <;> simp
@[simp] theorem steady_setIncompleteTimer (r : Resource) (t : Option Nat) (s : State) :
    steady (setIncompleteTimer r t s) = steady s := by cases r <;> rfl
@[simp] theorem steady_setStage (k : Fin 4) (x : Stage) (s : State) : steady (setStage k x s) = steady s := rfl

/-- A fold of operations outside that part. -/
theorem steady_foldl {α : Type} (f : State → α → State) (h : ∀ t k, steady (f t k) = steady t) (l : List α) (s : State) :
    steady (l.foldl f s) = steady s := by
  induction l generalizing s with
  | nil => rfl
  | cons k l ih => rw [List.foldl_cons, ih, h]

/-! ### The operations of the blocks -/

@[simp] theorem steady_noteOccurrence (s : State) : steady (noteOccurrence s) = steady s := by
  unfold noteOccurrence; dsimp only; simp

@[simp] theorem steady_lineError (s : State) : steady (lineError s) = steady s := by
  unfold lineError; dsimp only; simp

@[simp] theorem steady_countSkipped (s : State) : steady (countSkipped s) = steady s := by
  unfold countSkipped; dsimp only; simp

@[simp] theorem steady_reportDropped (s : State) : steady (reportDropped s) = steady s := by
  unfold reportDropped; dsimp only; simp

@[simp] theorem steady_claimBackToWaiting (r : Resource) (s : State) : steady (claimBackToWaiting r s) = steady s := by
  unfold claimBackToWaiting; dsimp only; (repeat' split) <;> simp

@[simp] theorem steady_tellLost (x0 : Resource) (s : State) : steady (tellLost x0 s) = steady s := by
  unfold tellLost; (repeat' split) <;> simp

@[simp] theorem steady_tellGranted (x0 : Resource) (s : State) : steady (tellGranted x0 s) = steady s := by
  unfold tellGranted; (repeat' split) <;> simp

@[simp] theorem steady_tellRaiseWithdrawn (x0 : Resource) (s : State) : steady (tellRaiseWithdrawn x0 s) = steady s := by
  unfold tellRaiseWithdrawn; (repeat' split) <;> simp

@[simp] theorem steady_dropOwnEntry (r : Resource) (s : State) : steady (dropOwnEntry r s) = steady s := by
  unfold dropOwnEntry; simp

theorem steady_giveUp {release : State → State} (h : ∀ t, steady (release t) = steady t) (r : Resource) (s : State) : steady (giveUp release r s) = steady s := by
  unfold giveUp; simp [h]

@[simp] theorem steady_setIncomplete (r : Resource) (s : State) : steady (setIncomplete r s) = steady s := by
  unfold setIncomplete; simp

@[simp] theorem steady_markIncompleteFor (q : Question) (s : State) : steady (markIncompleteFor q s) = steady s := by
  unfold markIncompleteFor; split <;> simp

theorem steady_tellDropped {release : Resource → State → State} (h : ∀ r t, steady (release r t) = steady t) (item : Outgoing) (s : State) : steady (tellDropped release item s) = steady s := by
  unfold tellDropped; (repeat' split) <;> simp [steady_giveUp (h _)]

theorem steady_dropNotice {release : Resource → State → State} (h : ∀ r t, steady (release r t) = steady t) (item : Outgoing) (s : State) : steady (dropNotice release item s) = steady s := by
  unfold dropNotice; simp [steady_tellDropped h]

@[simp] theorem steady_claimRefused (r : Resource) (refresh : Bool) (s : State) : steady (claimRefused r refresh s) = steady s := by
  unfold claimRefused; (repeat' split) <;> simp

@[simp] theorem steady_enqueue (item : Outgoing) (u : Nat) (s : State) : steady (enqueue item u s) = steady s := by
  unfold enqueue; dsimp only; simp

theorem steady_queueNew {release : Resource → State → State} (h : ∀ r t, steady (release r t) = steady t) (item : Outgoing) (u : Nat) (s : State) : steady (queueNew release item u s) = steady s := by
  unfold queueNew; (repeat' split) <;> simp [steady_dropNotice h]

@[simp] theorem steady_queueOver (item : Outgoing) (u : Nat) (e : QueueEntry) (s : State) : steady (queueOver item u e s) = steady s := by
  unfold queueOver; (repeat' split) <;> simp

theorem steady_queueWith {release : Resource → State → State} (h : ∀ r t, steady (release r t) = steady t) (item : Outgoing) (u : Nat) (s : State) : steady (queueWith release item u s) = steady s := by
  unfold queueWith; (repeat' split) <;> simp [steady_queueNew h]

theorem steady_queueRelease (n : Nat) (r : Resource) (s : State) : steady (queueRelease n r s) = steady s := by
  induction n generalizing r s with
  | zero => rfl
  | succ n ih => exact steady_queueWith ih _ _ _

@[simp] theorem steady_queueNotice (item : Outgoing) (u : Nat) (s : State) : steady (queueNotice item u s) = steady s :=
  steady_queueWith (steady_queueRelease 2) item u s


@[simp] theorem steady_dueEvent (s : State) : steady (dueEvent s) = steady s := by
  unfold dueEvent; dsimp only; (repeat' split) <;> simp

@[simp] theorem steady_changeSeen (s : State) : steady (changeSeen s) = steady s := by
  unfold changeSeen; dsimp only; simp

@[simp] theorem steady_announce (r : Resource) (s : State) : steady (announce r s) = steady s := by
  unfold announce; dsimp only; (repeat' split) <;> simp

@[simp] theorem steady_loseOwn (r : Resource) (releases : Bool) (s : State) : steady (loseOwn r releases s) = steady s :=
  steady_giveUp (fun t => by split <;> simp) r s

@[simp] theorem steady_handField (f : KeyField) (s : State) : steady (handField f s) = steady s := rfl

@[simp] theorem steady_withdrawRaise (r : Resource) (s : State) : steady (withdrawRaise r s) = steady s := by
  unfold withdrawRaise; dsimp only; (repeat' split) <;> simp

@[simp] theorem steady_settleCheck (r : Resource) (s : State) : steady (settleCheck r s) = steady s := by
  unfold settleCheck; dsimp only; (repeat' split) <;> simp

@[simp] theorem steady_reexamineNow (r : Resource) (s : State) : steady (reexamineNow r s) = steady s := by
  unfold reexamineNow; simp

@[simp] theorem steady_ownEntryUrgency (r : Resource) (u : Nat) (s : State) : steady (ownEntryUrgency r u s) = steady s := by
  unfold ownEntryUrgency; (repeat' split) <;> simp

@[simp] theorem steady_changeUrgency (r : Resource) (u : Nat) (s : State) : steady (changeUrgency r u s) = steady s := by
  unfold changeUrgency; dsimp only; (repeat' split) <;> simp

@[simp] theorem steady_withdrawOwn (r : Resource) (s : State) : steady (withdrawOwn r s) = steady s := by
  unfold withdrawOwn; (repeat' split) <;> simp

@[simp] theorem steady_askFresh (r : Resource) (a u : Nat) (s : State) : steady (askFresh r a u s) = steady s := by
  unfold askFresh; dsimp only; simp

@[simp] theorem steady_lowerOwn (r : Resource) (a : Nat) (s : State) : steady (lowerOwn r a s) = steady s := by
  unfold lowerOwn; dsimp only; simp

@[simp] theorem steady_raiseOwn (r : Resource) (a : Nat) (s : State) : steady (raiseOwn r a s) = steady s := by
  unfold raiseOwn; dsimp only; (repeat' split) <;> simp

@[simp] theorem steady_askAmount (r : Resource) (a : Nat) (s : State) : steady (askAmount r a s) = steady s := by
  unfold askAmount; dsimp only; (repeat' split) <;> simp

@[simp] theorem steady_askOwn (r : Resource) (a u : Nat) (s : State) : steady (askOwn r a u s) = steady s := by
  unfold askOwn; (repeat' split) <;> simp

@[simp] theorem steady_askNext (s : State) : steady (askNext s) = steady s := by
  unfold askNext; dsimp only; (repeat' split) <;> simp

@[simp] theorem steady_markAnswered (q : Question) (s : State) : steady (markAnswered q s) = steady s := by
  unfold markAnswered; dsimp only; (repeat' split) <;> simp

@[simp] theorem steady_yieldOwn (r : Resource) (yielders : List Nat) (s : State) : steady (yieldOwn r yielders s) = steady s := by
  unfold yieldOwn; (repeat' split) <;> simp

@[simp] theorem steady_takeCapacity (before : Nat) (s : State) : steady (takeCapacity before s) = steady s := by
  unfold takeCapacity; (repeat' split) <;> simp

@[simp] theorem steady_removeEntry (r : Resource) (n : Nat) (s : State) : steady (removeEntry r n s) = steady s := by
  unfold removeEntry; (repeat' split) <;> simp

@[simp] theorem steady_enterInitial (r : Resource) (n a u : Nat) (s : State) : steady (enterInitial r n a u s) = steady s := by
  unfold enterInitial; dsimp only; (repeat' split) <;> simp

@[simp] theorem steady_object (r : Resource) (newcomer : Nat) (s : State) : steady (object r newcomer s) = steady s := by
  unfold object; dsimp only; (repeat' split) <;> simp

@[simp] theorem steady_initialHeard (r : Resource) (n a u : Nat) (s : State) : steady (initialHeard r n a u s) = steady s := by
  unfold initialHeard; dsimp only; (repeat' split) <;> simp

@[simp] theorem steady_refreshHeard (r : Resource) (n a u : Nat) (s : State) : steady (refreshHeard r n a u s) = steady s := by
  unfold refreshHeard; simp

@[simp] theorem steady_claimHeard (r : Resource) (refresh : Bool) (n a u : Nat) (s : State) : steady (claimHeard r refresh n a u s) = steady s := by
  unfold claimHeard; (repeat' split) <;> simp

@[simp] theorem steady_claimSent (r : Resource) (refresh : Bool) (a u : Nat) (s : State) : steady (claimSent r refresh a u s) = steady s := by
  unfold claimSent; dsimp only; (repeat' split) <;> simp

@[simp] theorem steady_payOwedRefresh (r : Resource) (s : State) : steady (payOwedRefresh r s) = steady s := by
  unfold payOwedRefresh; dsimp only; (repeat' split) <;> simp

@[simp] theorem steady_grantOwn (r : Resource) (a : Nat) (s : State) : steady (grantOwn r a s) = steady s := by
  unfold grantOwn; dsimp only; simp

@[simp] theorem steady_ownSettleDone (r : Resource) (s : State) : steady (ownSettleDone r s) = steady s := by
  unfold ownSettleDone; dsimp only; (repeat' split) <;> simp

@[simp] theorem steady_refreshLeadReached (r : Resource) (s : State) : steady (refreshLeadReached r s) = steady s := by
  unfold refreshLeadReached; dsimp only; (repeat' split) <;> simp

@[simp] theorem steady_refreshMissed (r : Resource) (s : State) : steady (refreshMissed r s) = steady s := by
  unfold refreshMissed; dsimp only; (repeat' split) <;> simp

@[simp] theorem steady_releaseForDuplicate (r : Resource) (s : State) : steady (releaseForDuplicate r s) = steady s := by
  unfold releaseForDuplicate; dsimp only; (repeat' split) <;> simp

@[simp] theorem steady_reconcile (r : Resource) (samples : WindowSamples) (s : State) : steady (reconcile r samples s) = steady s := by
  unfold reconcile; dsimp only; (repeat' split) <;> simp

@[simp] theorem steady_announceStop (s : State) : steady (announceStop s) = steady s := by
  unfold announceStop; dsimp only; simp

@[simp] theorem steady_stopOn (cause : StopCause) (s : State) : steady (stopOn cause s) = steady s := by
  unfold stopOn; dsimp only; (repeat' split) <;> simp

@[simp] theorem steady_stopOff (s : State) : steady (stopOff s) = steady s := by
  unfold stopOff; dsimp only; (repeat' split) <;> simp

@[simp] theorem steady_stopForSafeHold (s : State) : steady (stopForSafeHold s) = steady s := by
  unfold stopForSafeHold; dsimp only; (repeat' split) <;> simp

@[simp] theorem steady_announceHold (c : FaultCode) (s : State) : steady (announceHold c s) = steady s := by
  unfold announceHold; (repeat' split) <;> simp

@[simp] theorem steady_enterSafeHold (s : State) : steady (enterSafeHold s) = steady s := by
  unfold enterSafeHold; dsimp only; simp

@[simp] theorem steady_enterFault (c : FaultCode) (s : State) : steady (enterFault c s) = steady s := by
  unfold enterFault; dsimp only; (repeat' split) <;> simp

@[simp] theorem steady_leaveFault (c : FaultCode) (s : State) : steady (leaveFault c s) = steady s := by
  unfold leaveFault; dsimp only; (repeat' split) <;> simp

@[simp] theorem steady_raiseCondition (c : FaultCode) (s : State) : steady (raiseCondition c s) = steady s := by
  unfold raiseCondition; dsimp only; (repeat' split) <;> simp

@[simp] theorem steady_clearCondition (c : FaultCode) (s : State) : steady (clearCondition c s) = steady s := by
  unfold clearCondition; dsimp only; (repeat' split) <;> simp

@[simp] theorem steady_setCondition (c : FaultCode) (present : Bool) (s : State) : steady (setCondition c present s) = steady s := by
  unfold setCondition; (repeat' split) <;> simp

@[simp] theorem steady_ackCode (c : FaultCode) (s : State) : steady (ackCode c s) = steady s := by
  unfold ackCode; dsimp only; (repeat' split) <;> simp

@[simp] theorem steady_ackFaults (s : State) : steady (ackFaults s) = steady s := by
  unfold ackFaults; exact steady_foldl _ (fun t k => by simp) _ _

@[simp] theorem steady_announceLatch (l : Latch) (s : State) : steady (announceLatch l s) = steady s := by
  unfold announceLatch; simp

@[simp] theorem steady_setLatch (l : Latch) (s : State) : steady (setLatch l s) = steady s := by
  unfold setLatch; dsimp only; (repeat' split) <;> simp

@[simp] theorem steady_clearLatch (l : Latch) (s : State) : steady (clearLatch l s) = steady s := by
  unfold clearLatch; dsimp only; simp

@[simp] theorem steady_ackLatch (l : Latch) (s : State) : steady (ackLatch l s) = steady s := by
  unfold ackLatch; dsimp only; (repeat' split) <;> simp

@[simp] theorem steady_causeEnded (l : Latch) (s : State) : steady (causeEnded l s) = steady s := by
  unfold causeEnded; (repeat' split) <;> simp

@[simp] theorem steady_singleSettle (l : Latch) (now : Bool) (s : State) : steady (singleSettle l now s) = steady s := by
  unfold singleSettle; (repeat' split) <;> simp

@[simp] theorem steady_frostMember (now : Bool) (s : State) : steady (frostMember now s) = steady s := by
  unfold frostMember; dsimp only; (repeat' split) <;> simp

@[simp] theorem steady_tripMemberActive (s : State) : steady (tripMemberActive s) = steady s := by
  unfold tripMemberActive; dsimp only; (repeat' split) <;> simp

@[simp] theorem steady_tripMembersInactive (s : State) : steady (tripMembersInactive s) = steady s := by
  unfold tripMembersInactive; dsimp only; (repeat' split) <;> simp

@[simp] theorem steady_setFailed (v : Vector Bool 4) (s : State) : steady (setFailed v s) = steady s := by
  unfold setFailed; dsimp only; simp

@[simp] theorem steady_failStage (k : Fin 4) (s : State) : steady (failStage k s) = steady s := by
  unfold failStage; dsimp only; simp

@[simp] theorem steady_moveStage (k : Fin 4) (x : Stage) (s : State) : steady (moveStage k x s) = steady s := by
  unfold moveStage; simp

@[simp] theorem steady_commandStage (k : Fin 4) (on : Bool) (s : State) : steady (commandStage k on s) = steady s := by
  unfold commandStage; dsimp only; (repeat' split) <;> simp

@[simp] theorem steady_feedbackSettles (k : Fin 4) (now : Bool) (s : State) : steady (feedbackSettles k now s) = steady s := by
  unfold feedbackSettles; dsimp only; (repeat' split) <;> simp

@[simp] theorem steady_proofExpires (k : Fin 4) (s : State) : steady (proofExpires k s) = steady s := by
  unfold proofExpires; dsimp only; (repeat' split) <;> simp

@[simp] theorem steady_restoreStage (k : Fin 4) (s : State) : steady (restoreStage k s) = steady s := by
  unfold restoreStage; (repeat' split) <;> simp

@[simp] theorem steady_stageHealth (s : State) : steady (stageHealth s) = steady s := by
  unfold stageHealth; dsimp only; split
  · rw [steady_emit, steady_foldl _ (fun t k => by split <;> simp), steady_tripMembersInactive,
      steady_foldl _ (fun t k => by simp)]; simp
  · rfl

@[simp] theorem steady_ackLatches (ls : List Latch) (s : State) : steady (ackLatches ls s) = steady s := by
  have h := steady_foldl (fun t l => ackLatch l t) (fun t l => by simp) ls s
  unfold ackLatches; dsimp only; split
  · rw [steady_stageHealth, h]
  · exact h

@[simp] theorem steady_setGuard (g : GuardState) (s : State) : steady (setGuard g s) = steady s := by
  unfold setGuard; dsimp only; simp

@[simp] theorem steady_endDemand (s : State) : steady (endDemand s) = steady s := by
  unfold endDemand; (repeat' split) <;> simp

@[simp] theorem steady_announceSpill (s : State) : steady (announceSpill s) = steady s := by
  unfold announceSpill; dsimp only; simp

@[simp] theorem steady_enterSpill (s : State) : steady (enterSpill s) = steady s := by
  unfold enterSpill; dsimp only; simp

@[simp] theorem steady_enterCut (s : State) : steady (enterCut s) = steady s := by
  unfold enterCut; dsimp only; simp

@[simp] theorem steady_enterShut (s : State) : steady (enterShut s) = steady s := by
  unfold enterShut; dsimp only; simp

@[simp] theorem steady_shutToWatch (s : State) : steady (shutToWatch s) = steady s := by
  unfold shutToWatch; dsimp only; simp

@[simp] theorem steady_holdToWatch (s : State) : steady (holdToWatch s) = steady s := by
  unfold holdToWatch; dsimp only; (repeat' split) <;> simp

@[simp] theorem steady_calmUrgency (s : State) : steady (calmUrgency s) = steady s := by
  unfold calmUrgency; dsimp only; (repeat' split) <;> simp

@[simp] theorem steady_leaveSpill (s : State) : steady (leaveSpill s) = steady s := by
  unfold leaveSpill; dsimp only; (repeat' split) <;> simp

/-- A departure of the guard leaves it as it is. -/
theorem steady_guardMove {ovfOnset : Bool} {s t : State} (h : guardMove ovfOnset s = some t) : steady t = steady s := by
  unfold guardMove at h
  (repeat' split at h) <;> first | (injection h with h; subst h; simp) | cases h

@[simp] theorem steady_guardPass (x0 : Nat) (s : State) : steady (guardPass x0 s) = steady s := by
  induction x0 generalizing s with
  | zero => rfl
  | succ n ih =>
    unfold guardPass; split
    · rfl
    · rw [ih]; exact steady_guardMove (by assumption)

@[simp] theorem steady_guardExamine (ovfOnset : Bool) (s : State) : steady (guardExamine ovfOnset s) = steady s := by
  unfold guardExamine; split
  · rfl
  · rw [steady_guardPass]; exact steady_guardMove (by assumption)

@[simp] theorem steady_guardSample (s : State) : steady (guardSample s) = steady s := by
  unfold guardSample; dsimp only; (repeat' split) <;> simp

@[simp] theorem steady_strokeExpires (s : State) : steady (strokeExpires s) = steady s := by
  unfold strokeExpires; dsimp only; simp

@[simp] theorem steady_leakCheck (s : State) : steady (leakCheck s) = steady s := by
  unfold leakCheck; dsimp only; (repeat' split) <;> simp

@[simp] theorem steady_floatCheck (s : State) : steady (floatCheck s) = steady s := by
  unfold floatCheck; dsimp only; (repeat' split) <;> simp

@[simp] theorem steady_reofferOwed (s : State) : steady (reofferOwed s) = steady s := by
  unfold reofferOwed; dsimp only; (repeat' split) <;> simp

@[simp] theorem steady_guardMinute (s : State) : steady (guardMinute s) = steady s := by
  unfold guardMinute; simp

@[simp] theorem steady_examineConfirmation (s : State) : steady (examineConfirmation s) = steady s := by
  unfold examineConfirmation; dsimp only; (repeat' split) <;> simp

@[simp] theorem steady_stopSent (on : Bool) (cause : Nat) (s : State) : steady (stopSent on cause s) = steady s := by
  unfold stopSent; dsimp only; (repeat' split) <;> simp

@[simp] theorem steady_spillAlarmSent (set : Bool) (s : State) : steady (spillAlarmSent set s) = steady s := by
  unfold spillAlarmSent; dsimp only; (repeat' split) <;> simp

@[simp] theorem steady_confirmExpires (s : State) : steady (confirmExpires s) = steady s := by
  unfold confirmExpires; dsimp only; simp

@[simp] theorem steady_moveFill (new : FillState) (s : State) : steady (moveFill new s) = steady s := by
  unfold moveFill; dsimp only; simp

@[simp] theorem steady_setFill (new : FillState) (s : State) : steady (setFill new s) = steady s := by
  unfold setFill; dsimp only; (repeat' split) <;> simp

@[simp] theorem steady_reliefStart (s : State) : steady (reliefStart s) = steady s := by
  unfold reliefStart; (repeat' split) <;> simp

@[simp] theorem steady_reliefEnd (s : State) : steady (reliefEnd s) = steady s := by
  unfold reliefEnd; (repeat' split) <;> simp

@[simp] theorem steady_planStep (s : State) : steady (planStep s) = steady s := by
  unfold planStep; (repeat' split) <;> simp

@[simp] theorem steady_handUrgency (s : State) : steady (handUrgency s) = steady s := by
  unfold handUrgency; (repeat' split) <;> simp

@[simp] theorem steady_replan (handsSlack : Bool) (s : State) : steady (replan handsSlack s) = steady s := by
  unfold replan; dsimp only; (repeat' split) <;> simp

@[simp] theorem steady_planAndStep (handsSlack : Bool) (s : State) : steady (planAndStep handsSlack s) = steady s := by
  unfold planAndStep; simp

@[simp] theorem steady_takeCauses (s : State) : steady (takeCauses s) = steady s := by
  unfold takeCauses; dsimp only; (repeat' split) <;> simp

@[simp] theorem steady_fillFollows (s : State) : steady (fillFollows s) = steady s := by
  unfold fillFollows; (repeat' split) <;> simp

@[simp] theorem steady_fillGranted (s : State) : steady (fillGranted s) = steady s := by
  unfold fillGranted; (repeat' split) <;> simp

@[simp] theorem steady_fillLost (s : State) : steady (fillLost s) = steady s := by
  unfold fillLost; (repeat' split) <;> simp

@[simp] theorem steady_withdrawTurnover (s : State) : steady (withdrawTurnover s) = steady s := by
  unfold withdrawTurnover; dsimp only; (repeat' split) <;> simp

@[simp] theorem steady_fillSample (s : State) : steady (fillSample s) = steady s := by
  unfold fillSample; dsimp only; (repeat' split) <;> simp

@[simp] theorem steady_fillPosition (old new : Position) (s : State) : steady (fillPosition old new s) = steady s := by
  unfold fillPosition; dsimp only; (repeat' split) <;> simp

@[simp] theorem steady_openExpires (s : State) : steady (openExpires s) = steady s := by
  unfold openExpires; dsimp only; simp

@[simp] theorem steady_clearingExpires (s : State) : steady (clearingExpires s) = steady s := by
  unfold clearingExpires; dsimp only; simp

@[simp] theorem steady_applyPermits (s : State) : steady (applyPermits s) = steady s := by
  unfold applyPermits; dsimp only; (repeat' split) <;> simp

@[simp] theorem steady_fillOrders (s : State) : steady (fillOrders s) = steady s := by
  unfold fillOrders; simp

@[simp] theorem steady_setPeriod (night : Bool) (elapsed : Nat) (s : State) : steady (setPeriod night elapsed s) = steady s := by
  unfold setPeriod; dsimp only; (repeat' split) <;> simp

@[simp] theorem steady_dayEndsTariff (s : State) : steady (dayEndsTariff s) = steady s := by
  unfold dayEndsTariff; (repeat' split) <;> simp

@[simp] theorem steady_tariffChange (s : State) : steady (tariffChange s) = steady s := by
  unfold tariffChange; dsimp only; (repeat' split) <;> simp

@[simp] theorem steady_takePeriod (night : Bool) (elapsed : Nat) (s : State) : steady (takePeriod night elapsed s) = steady s := by
  unfold takePeriod; (repeat' split) <;> simp

@[simp] theorem steady_tariffContact (now : Bool) (s : State) : steady (tariffContact now s) = steady s := by
  unfold tariffContact; (repeat' split) <;> simp

@[simp] theorem steady_tariffHeard (night : Bool) (elapsed : Nat) (s : State) : steady (tariffHeard night elapsed s) = steady s := by
  unfold tariffHeard; dsimp only; (repeat' split) <;> simp

@[simp] theorem steady_tariffCount (s : State) : steady (tariffCount s) = steady s := by
  unfold tariffCount; dsimp only; (repeat' split) <;> simp

@[simp] theorem steady_nightTimesOut (s : State) : steady (nightTimesOut s) = steady s := by
  unfold nightTimesOut; dsimp only; (repeat' split) <;> simp

@[simp] theorem steady_standingWishes (s : State) : steady (standingWishes s) = steady s := by
  unfold standingWishes; dsimp only; (repeat' split) <;> simp

@[simp] theorem steady_sampleWishes (s : State) : steady (sampleWishes s) = steady s := by
  unfold sampleWishes; dsimp only; (repeat' split) <;> simp

@[simp] theorem steady_selectNow (s : State) : steady (selectNow s) = steady s := by
  unfold selectNow; dsimp only; simp

@[simp] theorem steady_updateFrostState (s : State) : steady (updateFrostState s) = steady s := by
  unfold updateFrostState; dsimp only; (repeat' split) <;> simp

@[simp] theorem steady_dropStages (s : State) : steady (dropStages s) = steady s := by
  unfold dropStages; exact steady_foldl _ (fun t k => by split <;> simp) _ _

@[simp] theorem steady_requestLoad (s : State) : steady (requestLoad s) = steady s := by
  unfold requestLoad; dsimp only; (repeat' split) <;> simp

@[simp] theorem steady_energiseNext (s : State) : steady (energiseNext s) = steady s := by
  unfold energiseNext; (repeat' split) <;> simp

@[simp] theorem steady_judgeStarved (s : State) : steady (judgeStarved s) = steady s := by
  unfold judgeStarved; dsimp only; (repeat' split) <;> simp

@[simp] theorem steady_frostEvaluate (s : State) : steady (frostEvaluate s) = steady s := by
  unfold frostEvaluate; (repeat' split) <;> simp

@[simp] theorem steady_frostJudge (s : State) : steady (frostJudge s) = steady s := by
  unfold frostJudge; dsimp only; (repeat' split) <;> simp

@[simp] theorem steady_turnoverWarm (s : State) : steady (turnoverWarm s) = steady s := by
  unfold turnoverWarm; (repeat' split) <;> simp

@[simp] theorem steady_frostSample (s : State) : steady (frostSample s) = steady s := by
  unfold frostSample; dsimp only; simp

@[simp] theorem steady_stagnationMinute (s : State) : steady (stagnationMinute s) = steady s := by
  unfold stagnationMinute; dsimp only; (repeat' split) <;> simp

@[simp] theorem steady_stagnationEnds (s : State) : steady (stagnationEnds s) = steady s := by
  unfold stagnationEnds; dsimp only; simp

@[simp] theorem steady_evaluateSituation (s : State) : steady (evaluateSituation s) = steady s := by
  unfold evaluateSituation; dsimp only; (repeat' split) <;> simp

@[simp] theorem steady_situationChange (key : KeyBits) (s : State) : steady (situationChange key s) = steady s := by
  unfold situationChange; dsimp only; (repeat' split) <;> simp

@[simp] theorem steady_takeKey (key : KeyBits) (s : State) : steady (takeKey key s) = steady s := by
  unfold takeKey; (repeat' split) <;> simp

@[simp] theorem steady_takeField (f : KeyField) (value : Nat) (s : State) : steady (takeField f value s) = steady s := by
  unfold takeField; simp

@[simp] theorem steady_takeSlack (slack : Int) (s : State) : steady (takeSlack slack s) = steady s := by
  unfold takeSlack; simp

@[simp] theorem steady_takePending (s : State) : steady (takePending s) = steady s := by
  unfold takePending; (repeat' split) <;> simp

@[simp] theorem steady_startSituation (s : State) : steady (startSituation s) = steady s := by
  unfold startSituation; dsimp only; simp

@[simp] theorem steady_reportOrders (s : State) : steady (reportOrders s) = steady s := by
  unfold reportOrders; dsimp only; (repeat' split) <;> simp

@[simp] theorem steady_updateCapacity (s : State) : steady (updateCapacity s) = steady s := by
  unfold updateCapacity; dsimp only; simp

@[simp] theorem steady_updateSummary (s : State) : steady (updateSummary s) = steady s := by
  unfold updateSummary; dsimp only; (repeat' split) <;> simp

@[simp] theorem steady_peersChanged (s : State) : steady (peersChanged s) = steady s := by
  unfold peersChanged; simp

@[simp] theorem steady_hearSender (n : Nat) (role : Role) (s : State) : steady (hearSender n role s) = steady s := by
  unfold hearSender; simp

@[simp] theorem steady_losePeer (n : Nat) (s : State) : steady (losePeer n s) = steady s := by
  unfold losePeer; dsimp only; (repeat' split) <;> simp

@[simp] theorem steady_mapTowers (f : Bool → Peer → Peer) (samples : WindowSamples) (s : State) : steady (mapTowers f samples s) = steady s := by
  unfold mapTowers; dsimp only; simp

@[simp] theorem steady_stoppingResult (samples : WindowSamples) (s : State) : steady (stoppingResult samples s) = steady s := by
  unfold stoppingResult; simp

@[simp] theorem steady_alarmResult (u : Nat) (samples : WindowSamples) (s : State) : steady (alarmResult u samples s) = steady s := by
  unfold alarmResult; (repeat' split) <;> simp

@[simp] theorem steady_askAfterFault (s : State) : steady (askAfterFault s) = steady s := by
  unfold askAfterFault; dsimp only; (repeat' split) <;> simp

@[simp] theorem steady_joinIfAnswered (s : State) : steady (joinIfAnswered s) = steady s := by
  unfold joinIfAnswered; split
  · rename_i h; unfold becomeJoined; simp; simp [steady, configured, h.1]
  · rfl

@[simp] theorem steady_questionDone (q : Question) (s : State) : steady (questionDone q s) = steady s := by
  unfold questionDone; dsimp only; simp

@[simp] theorem steady_questionWasDropped (q : Question) (s : State) : steady (questionWasDropped q s) = steady s := by
  unfold questionWasDropped; (repeat' split) <;> simp

@[simp] theorem steady_follow (s : State) : steady (follow s) = steady s := by
  unfold follow; dsimp only; simp

@[simp] theorem steady_takeOrders (s : State) : steady (takeOrders s) = steady s := by
  unfold takeOrders; simp

@[simp] theorem steady_takeHandOn (h : HandOn) (s : State) : steady (takeHandOn h s) = steady s := by
  unfold takeHandOn; (repeat' split) <;> simp

@[simp] theorem steady_takeHandOns (x0 : Nat) (s : State) : steady (takeHandOns x0 s) = steady s := by
  induction x0 generalizing s with
  | zero => rfl
  | succ n ih =>
    unfold takeHandOns; split
    · rfl
    · rw [ih, steady_follow, steady_takeHandOn]; simp

@[simp] theorem steady_beginEvent (s : State) : steady (beginEvent s) = steady s := by
  unfold beginEvent; dsimp only; simp

@[simp] theorem steady_takePosition (s : State) : steady (takePosition s) = steady s := by
  unfold takePosition; dsimp only; (repeat' split) <;> simp

@[simp] theorem steady_pressAck (s : State) : steady (pressAck s) = steady s := by
  unfold pressAck; simp

@[simp] theorem steady_handSettled (i : ContactInput) (now : Bool) (s : State) : steady (handSettled i now s) = steady s := by
  unfold handSettled; (repeat' split) <;> simp

@[simp] theorem steady_settleInput (i : ContactInput) (s : State) : steady (settleInput i s) = steady s := by
  unfold settleInput; dsimp only; simp

@[simp] theorem steady_inputSettles (i : ContactInput) (s : State) : steady (inputSettles i s) = steady s := by
  unfold inputSettles; simp

@[simp] theorem steady_setRaw (i : ContactInput) (now : Bool) (t : Option Nat) (s : State) : steady (setRaw i now t s) = steady s := by
  unfold setRaw; dsimp only; simp

@[simp] theorem steady_followPin (i : ContactInput) (s : State) : steady (followPin i s) = steady s := by
  unfold followPin; dsimp only; (repeat' split) <;> simp

@[simp] theorem steady_readInputs (s : State) : steady (readInputs s) = steady s := by
  unfold readInputs; dsimp only; simp

@[simp] theorem steady_latchStartUp (i : ContactInput) (s : State) : steady (latchStartUp i s) = steady s := by
  unfold latchStartUp; (repeat' split) <;> simp

@[simp] theorem steady_stageStartUp (k : Fin 4) (s : State) : steady (stageStartUp k s) = steady s := by
  unfold stageStartUp; (repeat' split) <;> simp

@[simp] theorem steady_startListening (s : State) : steady (startListening s) = steady s := by
  unfold startListening; dsimp only; simp

@[simp] theorem steady_startInputs (s : State) : steady (startInputs s) = steady s := by
  unfold startInputs; dsimp only
  rw [steady_foldl _ (fun t k => by simp), steady_takePosition, steady_foldl _ (fun t k => by simp)]; simp

@[simp] theorem steady_startTariff (s : State) : steady (startTariff s) = steady s := by
  unfold startTariff; (repeat' split) <;> simp

@[simp] theorem steady_startTrip (s : State) : steady (startTrip s) = steady s := by
  unfold startTrip; (repeat' split) <;> simp

@[simp] theorem steady_countTable (r : Resource) (s : State) : steady (countTable r s) = steady s := by
  unfold countTable; simp

@[simp] theorem steady_countClaims (s : State) : steady (countClaims s) = steady s := by
  unfold countClaims; dsimp only; simp

@[simp] theorem steady_countReport (s : State) : steady (countReport s) = steady s := by
  unfold countReport; dsimp only; simp

@[simp] theorem steady_countTimers (s : State) : steady (countTimers s) = steady s := by
  unfold countTimers; dsimp only; simp

@[simp] theorem steady_sampleTaken (s : State) : steady (sampleTaken s) = steady s := by
  unfold sampleTaken; simp

@[simp] theorem steady_changeRule (s : State) : steady (changeRule s) = steady s := by
  unfold changeRule; dsimp only; (repeat' split) <;> simp

@[simp] theorem steady_beginQuiet (s : State) : steady (beginQuiet s) = steady s := by
  unfold beginQuiet; dsimp only; simp

@[simp] theorem steady_beginReceiving (s : State) : steady (beginReceiving s) = steady s := by
  unfold beginReceiving; dsimp only; simp

@[simp] theorem steady_abandonSending (s : State) : steady (abandonSending s) = steady s := by
  unfold abandonSending; dsimp only; simp

@[simp] theorem steady_enterSkip (s : State) : steady (enterSkip s) = steady s := by
  unfold enterSkip; dsimp only; simp

@[simp] theorem steady_discardNotice (s : State) : steady (discardNotice s) = steady s := by
  unfold discardNotice; dsimp only; (repeat' split) <;> simp

@[simp] theorem steady_cancelHead (item : Outgoing) (s : State) : steady (cancelHead item s) = steady s := by
  unfold cancelHead; dsimp only; (repeat' split) <;> simp

@[simp] theorem steady_loseEcho (b : Nat) (s : State) : steady (loseEcho b s) = steady s := by
  unfold loseEcho; dsimp only; simp

@[simp] theorem steady_failDriver (s : State) : steady (failDriver s) = steady s := by
  unfold failDriver; simp

@[simp] theorem steady_beginRollCall (q : Question) (mine : Bool) (s : State) : steady (beginRollCall q mine s) = steady s := by
  unfold beginRollCall; dsimp only; simp

@[simp] theorem steady_reportSent (body : List Byte) (s : State) : steady (reportSent body s) = steady s := by
  unfold reportSent; dsimp only; simp

@[simp] theorem steady_tellSent (o : OnLine) (s : State) : steady (tellSent o s) = steady s := by
  unfold tellSent; (repeat' split) <;> simp

@[simp] theorem steady_lineAfterSent (o : OnLine) (s : State) : steady (lineAfterSent o s) = steady s := by
  unfold lineAfterSent; dsimp only; (repeat' split) <;> simp

@[simp] theorem steady_finishSending (s : State) : steady (finishSending s) = steady s := by
  unfold finishSending; dsimp only; (repeat' split) <;> simp

@[simp] theorem steady_enterLineFault (s : State) : steady (enterLineFault s) = steady s := by
  unfold enterLineFault; dsimp only; simp

@[simp] theorem steady_leaveLineFault (s : State) : steady (leaveLineFault s) = steady s := by
  unfold leaveLineFault; dsimp only; simp

@[simp] theorem steady_giveResult (q : Question) (samples : WindowSamples) (s : State) : steady (giveResult q samples s) = steady s := by
  unfold giveResult; (repeat' split) <;> simp

@[simp] theorem steady_keepSamples (samples : WindowSamples) (s : State) : steady (keepSamples samples s) = steady s := by
  unfold keepSamples; dsimp only; simp

@[simp] theorem steady_judgeWindow (c : RollCall) (samples : WindowSamples) (s : State) : steady (judgeWindow c samples s) = steady s := by
  unfold judgeWindow; dsimp only; (repeat' split) <;> simp

@[simp] theorem steady_endWindow (samples : WindowSamples) (s : State) : steady (endWindow samples s) = steady s := by
  unfold endWindow; dsimp only; (repeat' split) <;> simp

@[simp] theorem steady_endDuplicate (s : State) : steady (endDuplicate s) = steady s := by
  unfold endDuplicate; dsimp only; simp

@[simp] theorem steady_lineAfterHeard (s : State) : steady (lineAfterHeard s) = steady s := by
  unfold lineAfterHeard; dsimp only; simp

@[simp] theorem steady_heardUnconfigured (h : Heard) (s : State) : steady (heardUnconfigured h s) = steady s := by
  unfold heardUnconfigured; (repeat' split) <;> simp

@[simp] theorem steady_beginDuplicate (s : State) : steady (beginDuplicate s) = steady s := by
  unfold beginDuplicate; simp

@[simp] theorem steady_heardDuplicate (h : Heard) (s : State) : steady (heardDuplicate h s) = steady s := by
  unfold heardDuplicate; dsimp only; (repeat' split) <;> simp

@[simp] theorem steady_takeAck (target bits : Nat) (faults : Bool) (s : State) : steady (takeAck target bits faults s) = steady s := by
  unfold takeAck; dsimp only; (repeat' split) <;> simp

@[simp] theorem steady_writePeer (h : Heard) (s : State) : steady (writePeer h s) = steady s := by
  unfold writePeer; dsimp only; (repeat' split) <;> simp

@[simp] theorem steady_handOn (h : Heard) (s : State) : steady (handOn h s) = steady s := by
  unfold handOn; (repeat' split) <;> simp

@[simp] theorem steady_heardPeer (h : Heard) (s : State) : steady (heardPeer h s) = steady s := by
  unfold heardPeer; simp

@[simp] theorem steady_heardValid (h : Heard) (s : State) : steady (heardValid h s) = steady s := by
  unfold heardValid; (repeat' split) <;> simp

@[simp] theorem steady_noticeCompleted (chars : List Byte) (s : State) : steady (noticeCompleted chars s) = steady s := by
  unfold noticeCompleted; (repeat' split) <;> simp

@[simp] theorem steady_settlePeer (r : Resource) (n : Nat) (s : State) : steady (settlePeer r n s) = steady s := by
  unfold settlePeer; simp

@[simp] theorem steady_endListening (s : State) : steady (endListening s) = steady s := by
  unfold endListening; dsimp only; simp

end Sys2Proof.Machine
end

