-- ==== Sys2Proof/Laws/Moves.lean ====
section
/-! SUPPORT. The few moves by which any event changes the outgoing queue, the notice on the line, the report totals, the STOP demand and safe hold; one lemma for each operation says that it is made of such moves. -/

namespace Sys2Proof.Machine

/-- The part of a state that the laws of the queue, the reports and safe hold speak about. -/
structure Core where
  queue : List QueueEntry
  onLine : Option OnLine
  due : Nat
  sent : Nat
  skipped : Nat
  queued : Bool
  stop : Option StopDemand
  safeHold : Bool

/-- That part of a state. -/
def core (s : State) : Core :=
  { queue := s.lnu.queue, onLine := s.lnu.onLine, due := s.rpu.due, sent := s.rpu.sent, skipped := s.rpu.skipped
    queued := s.rpu.queued, stop := s.ogu.stop, safeHold := s.ftu.safeHold }

/-- The states that moves lead to from a state. -/
inductive Moves (s : State) : State → Prop where
  | refl : Moves s s
  /-- Anything outside the core. -/
  | still {t u : State} : Moves s t → core u = core t → Moves s u
  /-- A notice other than REPORT is queued. -/
  | queue {t : State} (item : Outgoing) (u : Nat) : Moves s t → item ≠ .report → Moves s (queueNotice item u t)
  /-- A due event. -/
  | due {t : State} : Moves s t → Moves s (dueEvent t)
  /-- The demand changes; in safe hold a standing demand keeps its cause. -/
  | demand {t u : State} (x : Option StopDemand) : Moves s t → core u = { core t with stop := x } →
      (t.ftu.safeHold = true → ∀ d, t.ogu.stop = some d → ∃ d', x = some d' ∧ d'.cause = d.cause) → Moves s u
  /-- Safe hold begins with the demand on, cause SAFE. -/
  | hold {t u : State} (d : StopDemand) : Moves s t → core u = { core t with stop := some d, safeHold := true } →
      d.cause = .safe → Moves s u
  /-- The notice on the line ends unsent. -/
  | abandon {t : State} : Moves s t → Moves s (abandonSending t)
  /-- The head leaves the queue unsent. -/
  | cancel {t u : State} (e : QueueEntry) : Moves s t → queueHead t.lnu.queue = some e → isClaim e.item = true →
      core u = { core t with queue := removeUnder (keyOf e.item) t.lnu.queue } → Moves s u
  /-- The head is put on the line. -/
  | start {t : State} (e : QueueEntry) : Moves s t → queueHead t.lnu.queue = some e → Moves s (startSending e t)
  /-- A REPORT has been sent. -/
  | sentReport {t u : State} (o : OnLine) : Moves s t → t.lnu.onLine = some o → o.item = .report →
      core u = { core t with queue := afterSending t.lnu.queue, onLine := none, sent := t.rpu.sent + 1, queued := false } →
      Moves s u
  /-- Another notice has been sent. -/
  | sentOther {t u : State} : Moves s t →
      core u = { core t with queue := afterSending t.lnu.queue, onLine := none } → Moves s u

theorem Moves.trans {s t u : State} (h : Moves s t) (k : Moves t u) : Moves s u := by
  induction k with
  | refl => exact h
  | still _ e ih => exact ih.still e
  | queue item u _ n ih => exact ih.queue item u n
  | due _ ih => exact ih.due
  | demand x _ e c ih => exact ih.demand x e c
  | hold d _ e c ih => exact ih.hold d e c
  | abandon _ ih => exact ih.abandon
  | cancel e _ a b c ih => exact ih.cancel e a b c
  | start e _ a ih => exact ih.start e a
  | sentReport o _ a b c ih => exact ih.sentReport o a b c
  | sentOther _ c ih => exact ih.sentOther c

section
variable {s t : State}

/-! ### Updates outside the core -/

theorem moves_of_core {u : State} (e : core u = core t) (h : Moves s t) : Moves s u := h.still e

@[simp] theorem moves_blocks (n : Nat) (h : List HandOn) (l : Loader) (m : Measure) (i : Inputs) (o : Outputs) (p : Peers)
    (c : Claims) (f : Fill) (g : Frost) (u : Situation) (pi : Vector Bool 17) (rl : Bool) (pe : List Instr) :
    Moves s { t with pending := pe, pins := pi, resetLow := rl, bodiesFilled := n, handOns := h, sld := l, msu := m
                     ilu := i, odu := o, ptb := p, clu := c, flc := f, frc := g, stu := u } ↔ Moves s t :=
  ⟨moves_of_core rfl, moves_of_core rfl⟩

@[simp] theorem moves_line (a : LineState) (p : Parser) (n k m e : Nat) (b : Bool) (g : Nat) (r : Option RollCall) (d : Option Nat) :
    Moves s { t with lnu := { t.lnu with
      state := a, parser := p, recessive := n, slot := k, heldOff := b, dominantRun := m, nextAge := g, rollCall := r
      dupTimer := d, errors := e } } ↔ Moves s t := ⟨moves_of_core rfl, moves_of_core rfl⟩

@[simp] theorem moves_guard (a : GuardState) (h : HoldRecord) (k c : Option Nat) (b : Option Int) (x y : Bool)
    (v : ConfirmState) (n : Nat) :
    Moves s { t with ogu := { t.ogu with
      state := a, hold := h, stroke := k, baseline := b, stopOwed := x, spillOwed := y, confirm := v, confirmTimer := c
      floatCount := n } } ↔ Moves s t := ⟨moves_of_core rfl, moves_of_core rfl⟩

@[simp] theorem moves_faults (a b d : Vector Bool 13) (m : Vector Bool 4) (n k : Nat) (x : Option Snapshot) :
    Moves s { t with ftu := { t.ftu with
      inSet := a, acked := b, stageMask := m, condition := d, total := n, notes := k, snapshot := x } } ↔ Moves s t :=
  ⟨moves_of_core rfl, moves_of_core rfl⟩

@[simp] theorem moves_reports (a k : Nat) (c d : Bool) :
    Moves s { t with rpu := { t.rpu with age := a, changeSeen := c, skippedField := k, timerDue := d } } ↔ Moves s t :=
  ⟨moves_of_core rfl, moves_of_core rfl⟩

@[simp] theorem moves_emit (h : HandOn) : Moves s (emit h t) ↔ Moves s t := ⟨moves_of_core rfl, moves_of_core rfl⟩

theorem core_setOwn (r : Resource) (c : OwnClaim) (t : State) : core (setOwn r c t) = core t := by cases r <;> rfl
theorem core_setTable (r : Resource) (x : Vector (Option Holding) 24) (t : State) : core (setTable r x t) = core t := by
  cases r <;> rfl
theorem core_setEntry (r : Resource) (n : Nat) (e : Option Holding) (t : State) : core (setEntry r n e t) = core t := by
  unfold setEntry; split
  · exact core_setTable _ _ _
  · rfl
theorem core_setPeer (n : Nat) (p : Peer) (t : State) : core (setPeer n p t) = core t := by unfold setPeer; split <;> rfl
theorem core_setIncompleteTimer (r : Resource) (x : Option Nat) (t : State) : core (setIncompleteTimer r x t) = core t := by
  cases r <;> rfl

theorem core_passSlot (t : State) : core (passSlot t) = core t := by unfold passSlot; split <;> rfl

@[simp] theorem moves_setOwn (r : Resource) (c : OwnClaim) : Moves s (setOwn r c t) ↔ Moves s t :=
  ⟨moves_of_core (core_setOwn r c t).symm, moves_of_core (core_setOwn r c t)⟩
@[simp] theorem moves_setTable (r : Resource) (x : Vector (Option Holding) 24) : Moves s (setTable r x t) ↔ Moves s t :=
  ⟨moves_of_core (core_setTable r x t).symm, moves_of_core (core_setTable r x t)⟩
@[simp] theorem moves_setEntry (r : Resource) (n : Nat) (e : Option Holding) : Moves s (setEntry r n e t) ↔ Moves s t :=
  ⟨moves_of_core (core_setEntry r n e t).symm, moves_of_core (core_setEntry r n e t)⟩
@[simp] theorem moves_setPeer (n : Nat) (p : Peer) : Moves s (setPeer n p t) ↔ Moves s t :=
  ⟨moves_of_core (core_setPeer n p t).symm, moves_of_core (core_setPeer n p t)⟩
@[simp] theorem moves_setIncompleteTimer (r : Resource) (x : Option Nat) : Moves s (setIncompleteTimer r x t) ↔ Moves s t :=
  ⟨moves_of_core (core_setIncompleteTimer r x t).symm, moves_of_core (core_setIncompleteTimer r x t)⟩
@[simp] theorem moves_setStage (k : Fin 4) (x : Stage) : Moves s (setStage k x t) ↔ Moves s t :=
  ⟨moves_of_core rfl, moves_of_core rfl⟩

/-- A fold of operations made of moves. -/
theorem moves_foldl {α : Type} (f : State → α → State) (h : ∀ t k, Moves s t → Moves s (f t k)) (l : List α)
    (m : Moves s t) : Moves s (l.foldl f t) := by
  induction l generalizing t with
  | nil => exact m
  | cons k l ih => exact ih (h _ _ m)

/-! ### The operations of the blocks -/

@[simp] theorem moves_queueNotice (item : Outgoing) (u : Nat) (n : item ≠ .report) (m : Moves s t) :
    Moves s (queueNotice item u t) := m.queue item u n
@[simp] theorem moves_dueEvent (m : Moves s t) : Moves s (dueEvent t) := m.due
@[simp] theorem moves_abandonSending (m : Moves s t) : Moves s (abandonSending t) := m.abandon

@[simp] theorem moves_noteOccurrence  (m : Moves s t) : Moves s (noteOccurrence t) := by
  unfold noteOccurrence; dsimp only; simp (maxDischargeDepth := 30) [m]

@[simp] theorem moves_lineError  (m : Moves s t) : Moves s (lineError t) := by
  unfold lineError; dsimp only; simp (maxDischargeDepth := 30) [m]

@[simp] theorem moves_claimBackToWaiting (r : Resource)  (m : Moves s t) : Moves s (claimBackToWaiting r t) := by
  unfold claimBackToWaiting; dsimp only; (repeat' split) <;> simp (maxDischargeDepth := 30) [m]

@[simp] theorem moves_changeSeen  (m : Moves s t) : Moves s (changeSeen t) := by
  unfold changeSeen; dsimp only; simp (maxDischargeDepth := 30) [m]

@[simp] theorem moves_announce (r : Resource)  (m : Moves s t) : Moves s (announce r t) := by
  unfold announce; dsimp only; (repeat' split) <;> simp (maxDischargeDepth := 30) [m]

@[simp] theorem moves_tellLost (x0 : Resource)  (m : Moves s t) : Moves s (tellLost x0 t) := by
  unfold tellLost; (repeat' split) <;> simp (maxDischargeDepth := 30) [m]

@[simp] theorem moves_tellGranted (x0 : Resource)  (m : Moves s t) : Moves s (tellGranted x0 t) := by
  unfold tellGranted; (repeat' split) <;> simp (maxDischargeDepth := 30) [m]

@[simp] theorem moves_tellRaiseWithdrawn (x0 : Resource)  (m : Moves s t) : Moves s (tellRaiseWithdrawn x0 t) := by
  unfold tellRaiseWithdrawn; (repeat' split) <;> simp (maxDischargeDepth := 30) [m]

@[simp] theorem moves_dropOwnEntry (r : Resource)  (m : Moves s t) : Moves s (dropOwnEntry r t) := by
  unfold dropOwnEntry; simp (maxDischargeDepth := 30) [m]

theorem moves_giveUp {release : State → State} (h : ∀ t, Moves s t → Moves s (release t)) (r : Resource) (m : Moves s t) :
    Moves s (giveUp release r t) := by
  unfold giveUp
  exact (moves_emit _).2 (moves_tellLost r (h _ (moves_dropOwnEntry r ((moves_setOwn r _).2 m))))

@[simp] theorem moves_loseOwn (r : Resource) (releases : Bool) (m : Moves s t) : Moves s (loseOwn r releases t) :=
  moves_giveUp (fun t m => by split <;> simp [m]) r m

@[simp] theorem moves_handField (f : KeyField) (m : Moves s t) : Moves s (handField f t) := (moves_emit _).2 m

@[simp] theorem moves_withdrawRaise (r : Resource)  (m : Moves s t) : Moves s (withdrawRaise r t) := by
  unfold withdrawRaise; dsimp only; (repeat' split) <;> simp (maxDischargeDepth := 30) [m]

@[simp] theorem moves_settleCheck (r : Resource)  (m : Moves s t) : Moves s (settleCheck r t) := by
  unfold settleCheck; dsimp only; (repeat' split) <;> simp (maxDischargeDepth := 30) [m]

@[simp] theorem moves_reexamineNow (r : Resource)  (m : Moves s t) : Moves s (reexamineNow r t) := by
  unfold reexamineNow; simp (maxDischargeDepth := 30) [m]

@[simp] theorem moves_ownEntryUrgency (r : Resource) (u : Nat)  (m : Moves s t) : Moves s (ownEntryUrgency r u t) := by
  unfold ownEntryUrgency; (repeat' split) <;> simp (maxDischargeDepth := 30) [m]

theorem claimWaiting_ne_report {r : Resource} {item : Outgoing} (h : claimWaiting r t = some item) : item ≠ .report := by
  unfold claimWaiting at h
  (repeat' split at h) <;> simp at h
  subst h
  rintro heq
  rename_i hc
  simp [heq, isClaim] at hc

@[simp] theorem moves_changeUrgency (r : Resource) (u : Nat)  (m : Moves s t) : Moves s (changeUrgency r u t) := by
  unfold changeUrgency; dsimp only
  split
  · exact m
  · split
    · exact m
    · simp (maxDischargeDepth := 30) [m]
    · simp (maxDischargeDepth := 30) [m]
    · split
      · rename_i h; simp (maxDischargeDepth := 30) [m, claimWaiting_ne_report h]
      · simp (maxDischargeDepth := 30) [m]

@[simp] theorem moves_withdrawOwn (r : Resource)  (m : Moves s t) : Moves s (withdrawOwn r t) := by
  unfold withdrawOwn; (repeat' split) <;> simp (maxDischargeDepth := 30) [m]

@[simp] theorem moves_askFresh (r : Resource) (a u : Nat)  (m : Moves s t) : Moves s (askFresh r a u t) := by
  unfold askFresh; dsimp only; simp (maxDischargeDepth := 30) [m]

@[simp] theorem moves_lowerOwn (r : Resource) (a : Nat)  (m : Moves s t) : Moves s (lowerOwn r a t) := by
  unfold lowerOwn; dsimp only; simp (maxDischargeDepth := 30) [m]

@[simp] theorem moves_raiseOwn (r : Resource) (a : Nat)  (m : Moves s t) : Moves s (raiseOwn r a t) := by
  unfold raiseOwn; dsimp only; (repeat' split) <;> simp (maxDischargeDepth := 30) [m]

@[simp] theorem moves_askAmount (r : Resource) (a : Nat)  (m : Moves s t) : Moves s (askAmount r a t) := by
  unfold askAmount; dsimp only; (repeat' split) <;> simp (maxDischargeDepth := 30) [m]

@[simp] theorem moves_askOwn (r : Resource) (a u : Nat)  (m : Moves s t) : Moves s (askOwn r a u t) := by
  unfold askOwn; (repeat' split) <;> simp (maxDischargeDepth := 30) [m]

@[simp] theorem moves_setIncomplete (r : Resource)  (m : Moves s t) : Moves s (setIncomplete r t) := by
  unfold setIncomplete; simp (maxDischargeDepth := 30) [m]

@[simp] theorem moves_askNext  (m : Moves s t) : Moves s (askNext t) := by
  unfold askNext; dsimp only; (repeat' split) <;> simp (maxDischargeDepth := 30) [m]

@[simp] theorem moves_markAnswered (q : Question)  (m : Moves s t) : Moves s (markAnswered q t) := by
  unfold markAnswered; dsimp only; (repeat' split) <;> simp (maxDischargeDepth := 30) [m]

@[simp] theorem moves_markIncompleteFor (q : Question)  (m : Moves s t) : Moves s (markIncompleteFor q t) := by
  unfold markIncompleteFor; (repeat' split) <;> simp (maxDischargeDepth := 30) [m]

@[simp] theorem moves_yieldOwn (r : Resource) (yielders : List Nat)  (m : Moves s t) : Moves s (yieldOwn r yielders t) := by
  unfold yieldOwn; (repeat' split) <;> simp (maxDischargeDepth := 30) [m]

@[simp] theorem moves_takeCapacity (before : Nat)  (m : Moves s t) : Moves s (takeCapacity before t) := by
  unfold takeCapacity; (repeat' split) <;> simp (maxDischargeDepth := 30) [m]

@[simp] theorem moves_removeEntry (r : Resource) (n : Nat)  (m : Moves s t) : Moves s (removeEntry r n t) := by
  unfold removeEntry; (repeat' split) <;> simp (maxDischargeDepth := 30) [m]

@[simp] theorem moves_enterInitial (r : Resource) (n a u : Nat)  (m : Moves s t) : Moves s (enterInitial r n a u t) := by
  unfold enterInitial; dsimp only; (repeat' split) <;> simp (maxDischargeDepth := 30) [m]

@[simp] theorem moves_object (r : Resource) (newcomer : Nat)  (m : Moves s t) : Moves s (object r newcomer t) := by
  unfold object; dsimp only; (repeat' split) <;> simp (maxDischargeDepth := 30) [m]

@[simp] theorem moves_initialHeard (r : Resource) (n a u : Nat)  (m : Moves s t) : Moves s (initialHeard r n a u t) := by
  unfold initialHeard; dsimp only; (repeat' split) <;> simp (maxDischargeDepth := 30) [m]

@[simp] theorem moves_refreshHeard (r : Resource) (n a u : Nat)  (m : Moves s t) : Moves s (refreshHeard r n a u t) := by
  unfold refreshHeard; simp (maxDischargeDepth := 30) [m]

@[simp] theorem moves_claimHeard (r : Resource) (refresh : Bool) (n a u : Nat)  (m : Moves s t) : Moves s (claimHeard r refresh n a u t) := by
  unfold claimHeard; (repeat' split) <;> simp (maxDischargeDepth := 30) [m]

@[simp] theorem moves_claimSent (r : Resource) (refresh : Bool) (a u : Nat)  (m : Moves s t) : Moves s (claimSent r refresh a u t) := by
  unfold claimSent; dsimp only; (repeat' split) <;> simp (maxDischargeDepth := 30) [m]

@[simp] theorem moves_payOwedRefresh (r : Resource)  (m : Moves s t) : Moves s (payOwedRefresh r t) := by
  unfold payOwedRefresh; dsimp only; (repeat' split) <;> simp (maxDischargeDepth := 30) [m]

@[simp] theorem moves_grantOwn (r : Resource) (a : Nat)  (m : Moves s t) : Moves s (grantOwn r a t) := by
  unfold grantOwn; dsimp only; simp (maxDischargeDepth := 30) [m]

@[simp] theorem moves_ownSettleDone (r : Resource)  (m : Moves s t) : Moves s (ownSettleDone r t) := by
  unfold ownSettleDone; dsimp only; (repeat' split) <;> simp (maxDischargeDepth := 30) [m]

@[simp] theorem moves_refreshLeadReached (r : Resource)  (m : Moves s t) : Moves s (refreshLeadReached r t) := by
  unfold refreshLeadReached; dsimp only; (repeat' split) <;> simp (maxDischargeDepth := 30) [m]

@[simp] theorem moves_refreshMissed (r : Resource)  (m : Moves s t) : Moves s (refreshMissed r t) := by
  unfold refreshMissed; dsimp only; (repeat' split) <;> simp (maxDischargeDepth := 30) [m]

@[simp] theorem moves_releaseForDuplicate (r : Resource)  (m : Moves s t) : Moves s (releaseForDuplicate r t) := by
  unfold releaseForDuplicate; dsimp only; (repeat' split) <;> simp (maxDischargeDepth := 30) [m]

@[simp] theorem moves_reconcile (r : Resource) (samples : WindowSamples)  (m : Moves s t) : Moves s (reconcile r samples t) := by
  unfold reconcile; dsimp only; (repeat' split) <;> simp (maxDischargeDepth := 30) [m]

@[simp] theorem moves_announceStop  (m : Moves s t) : Moves s (announceStop t) := by
  unfold announceStop; dsimp only; simp (maxDischargeDepth := 30) [m]

theorem moves_announceStop' (x : Option StopDemand) (m : Moves s t) {u : State} (e : core u = { core t with stop := x })
    (c : t.ftu.safeHold = true → ∀ d, t.ogu.stop = some d → ∃ d', x = some d' ∧ d'.cause = d.cause) :
    Moves s (announceStop u) := by
  unfold announceStop; exact moves_queueNotice _ _ (by simp) (moves_of_core rfl (m.demand x e c))

@[simp] theorem moves_stopOn (cause : StopCause)  (m : Moves s t) : Moves s (stopOn cause t) := by
  unfold stopOn
  split
  · rename_i h
    exact moves_announceStop' _ m rfl (fun _ d e => by rw [h] at e; cases e)
  · rename_i d h
    dsimp only
    generalize hx : (if t.ftu.safeHold = true then d.cause else cause) = x
    have c : t.ftu.safeHold = true → ∀ d', t.ogu.stop = some d' →
        ∃ d'', some { d with cause := x, urgency := if cause = StopCause.spill then 7 else d.urgency } = some d'' ∧
          d''.cause = d'.cause := by
      intro k d' e
      rw [h] at e; cases e
      exact ⟨_, rfl, by simp [← hx, k]⟩
    by_cases hd : x = d.cause
    · rw [if_pos hd]; exact m.demand _ rfl c
    · rw [if_neg hd]; exact moves_announceStop' _ m rfl c

@[simp] theorem moves_stopOff  (m : Moves s t) : Moves s (stopOff t) := by
  unfold stopOff
  split
  · exact m
  · rename_i h
    split
    · exact m
    · exact moves_announceStop' none m rfl (fun k => absurd k h)

@[simp] theorem moves_announceHold (c : FaultCode)  (m : Moves s t) : Moves s (announceHold c t) := by
  unfold announceHold; (repeat' split) <;> simp (maxDischargeDepth := 30) [m]

@[simp] theorem moves_enterSafeHold  (m : Moves s t) : Moves s (enterSafeHold t) := by
  unfold enterSafeHold
  dsimp only
  have k : Moves s (queueNotice .trip 7 { t with ftu := { t.ftu with snapshot := some (takeSnapshot t) } }) := by
    simp [m]
  generalize queueNotice .trip 7 { t with ftu := { t.ftu with snapshot := some (takeSnapshot t) } } = v at k
  unfold stopForSafeHold
  split
  · rename_i h
    unfold stopOn; rw [h]
    exact moves_queueNotice _ _ (by simp) (Moves.hold (t := v) { cause := .safe, urgency := 6, escalated := false } k rfl rfl)
  · rename_i d h
    exact moves_queueNotice _ _ (by simp) (Moves.hold (t := v) { d with cause := .safe } k rfl rfl)

@[simp] theorem moves_enterFault (c : FaultCode)  (m : Moves s t) : Moves s (enterFault c t) := by
  unfold enterFault; dsimp only; (repeat' split) <;> simp (maxDischargeDepth := 30) [m]

@[simp] theorem moves_leaveFault (c : FaultCode)  (m : Moves s t) : Moves s (leaveFault c t) := by
  unfold leaveFault; dsimp only; (repeat' split) <;> simp (maxDischargeDepth := 30) [m]

@[simp] theorem moves_raiseCondition (c : FaultCode)  (m : Moves s t) : Moves s (raiseCondition c t) := by
  unfold raiseCondition; dsimp only; (repeat' split) <;> simp (maxDischargeDepth := 30) [m]

@[simp] theorem moves_clearCondition (c : FaultCode)  (m : Moves s t) : Moves s (clearCondition c t) := by
  unfold clearCondition; dsimp only; (repeat' split) <;> simp (maxDischargeDepth := 30) [m]

@[simp] theorem moves_setCondition (c : FaultCode) (present : Bool)  (m : Moves s t) : Moves s (setCondition c present t) := by
  unfold setCondition; (repeat' split) <;> simp (maxDischargeDepth := 30) [m]

@[simp] theorem moves_ackCode (c : FaultCode)  (m : Moves s t) : Moves s (ackCode c t) := by
  unfold ackCode; dsimp only; (repeat' split) <;> simp (maxDischargeDepth := 30) [m]

@[simp] theorem moves_ackFaults  (m : Moves s t) : Moves s (ackFaults t) := by
  unfold ackFaults; exact moves_foldl _ (fun t k m => by simp [m]) _ m

@[simp] theorem moves_announceLatch (l : Latch)  (m : Moves s t) : Moves s (announceLatch l t) := by
  unfold announceLatch; simp (maxDischargeDepth := 30) [m]

@[simp] theorem moves_setLatch (l : Latch)  (m : Moves s t) : Moves s (setLatch l t) := by
  unfold setLatch; dsimp only; (repeat' split) <;> simp (maxDischargeDepth := 30) [m]

@[simp] theorem moves_clearLatch (l : Latch)  (m : Moves s t) : Moves s (clearLatch l t) := by
  unfold clearLatch; dsimp only; simp (maxDischargeDepth := 30) [m]

@[simp] theorem moves_ackLatch (l : Latch)  (m : Moves s t) : Moves s (ackLatch l t) := by
  unfold ackLatch; dsimp only; (repeat' split) <;> simp (maxDischargeDepth := 30) [m]

@[simp] theorem moves_causeEnded (l : Latch)  (m : Moves s t) : Moves s (causeEnded l t) := by
  unfold causeEnded; (repeat' split) <;> simp (maxDischargeDepth := 30) [m]

@[simp] theorem moves_singleSettle (l : Latch) (now : Bool)  (m : Moves s t) : Moves s (singleSettle l now t) := by
  unfold singleSettle; (repeat' split) <;> simp (maxDischargeDepth := 30) [m]

@[simp] theorem moves_frostMember (now : Bool)  (m : Moves s t) : Moves s (frostMember now t) := by
  unfold frostMember; dsimp only; (repeat' split) <;> simp (maxDischargeDepth := 30) [m]

@[simp] theorem moves_tripMemberActive  (m : Moves s t) : Moves s (tripMemberActive t) := by
  unfold tripMemberActive; dsimp only; (repeat' split) <;> simp (maxDischargeDepth := 30) [m]

@[simp] theorem moves_tripMembersInactive  (m : Moves s t) : Moves s (tripMembersInactive t) := by
  unfold tripMembersInactive; dsimp only; (repeat' split) <;> simp (maxDischargeDepth := 30) [m]

@[simp] theorem moves_setFailed (v : Vector Bool 4)  (m : Moves s t) : Moves s (setFailed v t) := moves_of_core (t := t) rfl m

@[simp] theorem moves_failStage (k : Fin 4)  (m : Moves s t) : Moves s (failStage k t) := by
  unfold failStage; dsimp only; simp (maxDischargeDepth := 30) [m]

@[simp] theorem moves_moveStage (k : Fin 4) (x : Stage)  (m : Moves s t) : Moves s (moveStage k x t) := by
  unfold moveStage; simp (maxDischargeDepth := 30) [m]

@[simp] theorem moves_commandStage (k : Fin 4) (on : Bool)  (m : Moves s t) : Moves s (commandStage k on t) := by
  unfold commandStage; dsimp only; (repeat' split) <;> simp (maxDischargeDepth := 30) [m]

@[simp] theorem moves_feedbackSettles (k : Fin 4) (now : Bool)  (m : Moves s t) : Moves s (feedbackSettles k now t) := by
  unfold feedbackSettles; dsimp only; (repeat' split) <;> simp (maxDischargeDepth := 30) [m]

@[simp] theorem moves_proofExpires (k : Fin 4)  (m : Moves s t) : Moves s (proofExpires k t) := by
  unfold proofExpires; dsimp only; (repeat' split) <;> simp (maxDischargeDepth := 30) [m]

@[simp] theorem moves_restoreStage (k : Fin 4)  (m : Moves s t) : Moves s (restoreStage k t) := by
  unfold restoreStage; (repeat' split) <;> simp (maxDischargeDepth := 30) [m]

@[simp] theorem moves_stageHealth  (m : Moves s t) : Moves s (stageHealth t) := by
  unfold stageHealth; dsimp only; split
  · rw [moves_emit]
    refine moves_foldl _ (fun t k m => by split <;> simp [m]) _ (moves_tripMembersInactive ?_)
    exact moves_foldl _ (fun t k m => by simp [m]) _ (by simp (maxDischargeDepth := 30) [m])
  · exact m

@[simp] theorem moves_ackLatches (ls : List Latch)  (m : Moves s t) : Moves s (ackLatches ls t) := by
  have h := moves_foldl (s := s) (fun t l => ackLatch l t) (fun t l m => by simp [m]) ls m
  unfold ackLatches; dsimp only; split
  · exact moves_stageHealth h
  · exact h

@[simp] theorem moves_setGuard (g : GuardState)  (m : Moves s t) : Moves s (setGuard g t) := by
  unfold setGuard; dsimp only; simp (maxDischargeDepth := 30) [m]

@[simp] theorem moves_endDemand  (m : Moves s t) : Moves s (endDemand t) := by
  unfold endDemand; (repeat' split) <;> simp (maxDischargeDepth := 30) [m]

@[simp] theorem moves_announceSpill  (m : Moves s t) : Moves s (announceSpill t) := by
  unfold announceSpill; dsimp only; simp (maxDischargeDepth := 30) [m]

@[simp] theorem moves_enterSpill  (m : Moves s t) : Moves s (enterSpill t) := by
  unfold enterSpill; dsimp only; simp (maxDischargeDepth := 30) [m]

@[simp] theorem moves_enterCut  (m : Moves s t) : Moves s (enterCut t) := by
  unfold enterCut; dsimp only; simp (maxDischargeDepth := 30) [m]

@[simp] theorem moves_enterShut  (m : Moves s t) : Moves s (enterShut t) := by
  unfold enterShut; dsimp only; simp (maxDischargeDepth := 30) [m]

@[simp] theorem moves_shutToWatch  (m : Moves s t) : Moves s (shutToWatch t) := by
  unfold shutToWatch; dsimp only; simp (maxDischargeDepth := 30) [m]

@[simp] theorem moves_holdToWatch  (m : Moves s t) : Moves s (holdToWatch t) := by
  unfold holdToWatch; dsimp only; (repeat' split) <;> simp (maxDischargeDepth := 30) [m]

@[simp] theorem moves_calmUrgency  (m : Moves s t) : Moves s (calmUrgency t) := by
  unfold calmUrgency
  split
  · exact m
  · rename_i h
    (repeat' split) <;> first | exact m | exact m.demand _ rfl (fun k => absurd k h)

@[simp] theorem moves_leaveSpill  (m : Moves s t) : Moves s (leaveSpill t) := by
  unfold leaveSpill; dsimp only; (repeat' split) <;> simp (maxDischargeDepth := 30) [m]

/-- A departure of the guard is made of moves. -/
theorem moves_guardMove {ovfOnset : Bool} {u : State} (h : guardMove ovfOnset t = some u) (m : Moves s t) : Moves s u := by
  unfold guardMove at h
  (repeat' split at h) <;> first | (injection h with h; subst h; simp (maxDischargeDepth := 30) [m]) | cases h

@[simp] theorem moves_guardPass (x0 : Nat)  (m : Moves s t) : Moves s (guardPass x0 t) := by
  induction x0 generalizing t with
  | zero => exact m
  | succ n ih =>
    unfold guardPass; split
    · exact m
    · exact ih (moves_guardMove (by assumption) m)

@[simp] theorem moves_guardExamine (ovfOnset : Bool)  (m : Moves s t) : Moves s (guardExamine ovfOnset t) := by
  unfold guardExamine; split
  · exact m
  · exact moves_guardPass _ (moves_guardMove (by assumption) m)

@[simp] theorem moves_guardSample  (m : Moves s t) : Moves s (guardSample t) := by
  unfold guardSample; dsimp only; (repeat' split) <;> simp (maxDischargeDepth := 30) [m]

@[simp] theorem moves_strokeExpires  (m : Moves s t) : Moves s (strokeExpires t) := by
  unfold strokeExpires; dsimp only; simp (maxDischargeDepth := 30) [m]

@[simp] theorem moves_leakCheck  (m : Moves s t) : Moves s (leakCheck t) := by
  unfold leakCheck; dsimp only; (repeat' split) <;> simp (maxDischargeDepth := 30) [m]

@[simp] theorem moves_floatCheck  (m : Moves s t) : Moves s (floatCheck t) := by
  unfold floatCheck; dsimp only; (repeat' split) <;> simp (maxDischargeDepth := 30) [m]

@[simp] theorem moves_reofferOwed  (m : Moves s t) : Moves s (reofferOwed t) := by
  unfold reofferOwed; dsimp only; (repeat' split) <;> simp (maxDischargeDepth := 30) [m]

@[simp] theorem moves_guardMinute  (m : Moves s t) : Moves s (guardMinute t) := by
  unfold guardMinute; simp (maxDischargeDepth := 30) [m]

@[simp] theorem moves_examineConfirmation  (m : Moves s t) : Moves s (examineConfirmation t) := by
  unfold examineConfirmation; dsimp only; (repeat' split) <;> simp (maxDischargeDepth := 30) [m]

@[simp] theorem moves_stopSent (on : Bool) (cause : Nat)  (m : Moves s t) : Moves s (stopSent on cause t) := by
  unfold stopSent; dsimp only; (repeat' split) <;> simp (maxDischargeDepth := 30) [m]

@[simp] theorem moves_spillAlarmSent (set : Bool)  (m : Moves s t) : Moves s (spillAlarmSent set t) := by
  unfold spillAlarmSent; dsimp only; (repeat' split) <;> simp (maxDischargeDepth := 30) [m]

@[simp] theorem moves_confirmExpires  (m : Moves s t) : Moves s (confirmExpires t) := by
  unfold confirmExpires
  refine moves_raiseCondition _ (moves_queueNotice _ _ (by simp)
    (m.demand (t.ogu.stop.map (fun d => { d with urgency := 7, escalated := true })) rfl ?_))
  intro _ d h
  exact ⟨{ d with urgency := 7, escalated := true }, by rw [h]; rfl, rfl⟩

@[simp] theorem moves_moveFill (new : FillState)  (m : Moves s t) : Moves s (moveFill new t) := by
  unfold moveFill; dsimp only; simp (maxDischargeDepth := 30) [m]

@[simp] theorem moves_setFill (new : FillState)  (m : Moves s t) : Moves s (setFill new t) := by
  unfold setFill; dsimp only; (repeat' split) <;> simp (maxDischargeDepth := 30) [m]

@[simp] theorem moves_reliefStart  (m : Moves s t) : Moves s (reliefStart t) := by
  unfold reliefStart; (repeat' split) <;> simp (maxDischargeDepth := 30) [m]

@[simp] theorem moves_reliefEnd  (m : Moves s t) : Moves s (reliefEnd t) := by
  unfold reliefEnd; (repeat' split) <;> simp (maxDischargeDepth := 30) [m]

@[simp] theorem moves_planStep  (m : Moves s t) : Moves s (planStep t) := by
  unfold planStep; (repeat' split) <;> simp (maxDischargeDepth := 30) [m]

@[simp] theorem moves_handUrgency  (m : Moves s t) : Moves s (handUrgency t) := by
  unfold handUrgency; (repeat' split) <;> simp (maxDischargeDepth := 30) [m]

@[simp] theorem moves_replan (handsSlack : Bool)  (m : Moves s t) : Moves s (replan handsSlack t) := by
  unfold replan; dsimp only; (repeat' split) <;> simp (maxDischargeDepth := 30) [m]

@[simp] theorem moves_planAndStep (handsSlack : Bool)  (m : Moves s t) : Moves s (planAndStep handsSlack t) := by
  unfold planAndStep; simp (maxDischargeDepth := 30) [m]

@[simp] theorem moves_takeCauses  (m : Moves s t) : Moves s (takeCauses t) := by
  unfold takeCauses; dsimp only; (repeat' split) <;> simp (maxDischargeDepth := 30) [m]

@[simp] theorem moves_fillFollows  (m : Moves s t) : Moves s (fillFollows t) := by
  unfold fillFollows; (repeat' split) <;> simp (maxDischargeDepth := 30) [m]

@[simp] theorem moves_fillGranted  (m : Moves s t) : Moves s (fillGranted t) := by
  unfold fillGranted; (repeat' split) <;> simp (maxDischargeDepth := 30) [m]

@[simp] theorem moves_fillLost  (m : Moves s t) : Moves s (fillLost t) := by
  unfold fillLost; (repeat' split) <;> simp (maxDischargeDepth := 30) [m]

@[simp] theorem moves_withdrawTurnover  (m : Moves s t) : Moves s (withdrawTurnover t) := by
  unfold withdrawTurnover; dsimp only; (repeat' split) <;> simp (maxDischargeDepth := 30) [m]

@[simp] theorem moves_fillSample  (m : Moves s t) : Moves s (fillSample t) := by
  unfold fillSample; dsimp only; (repeat' split) <;> simp (maxDischargeDepth := 30) [m]

@[simp] theorem moves_fillPosition (old new : Position)  (m : Moves s t) : Moves s (fillPosition old new t) := by
  unfold fillPosition; dsimp only; (repeat' split) <;> simp (maxDischargeDepth := 30) [m]

@[simp] theorem moves_openExpires  (m : Moves s t) : Moves s (openExpires t) := by
  unfold openExpires; dsimp only; simp (maxDischargeDepth := 30) [m]

@[simp] theorem moves_clearingExpires  (m : Moves s t) : Moves s (clearingExpires t) := by
  unfold clearingExpires; dsimp only; simp (maxDischargeDepth := 30) [m]

@[simp] theorem moves_applyPermits  (m : Moves s t) : Moves s (applyPermits t) := by
  unfold applyPermits; dsimp only; (repeat' split) <;> simp (maxDischargeDepth := 30) [m]

@[simp] theorem moves_fillOrders  (m : Moves s t) : Moves s (fillOrders t) := by
  unfold fillOrders; simp (maxDischargeDepth := 30) [m]

@[simp] theorem moves_setPeriod (night : Bool) (elapsed : Nat)  (m : Moves s t) : Moves s (setPeriod night elapsed t) := by
  unfold setPeriod; dsimp only; (repeat' split) <;> simp (maxDischargeDepth := 30) [m]

@[simp] theorem moves_dayEndsTariff  (m : Moves s t) : Moves s (dayEndsTariff t) := by
  unfold dayEndsTariff; (repeat' split) <;> simp (maxDischargeDepth := 30) [m]

@[simp] theorem moves_tariffChange  (m : Moves s t) : Moves s (tariffChange t) := by
  unfold tariffChange; dsimp only; (repeat' split) <;> simp (maxDischargeDepth := 30) [m]

@[simp] theorem moves_takePeriod (night : Bool) (elapsed : Nat)  (m : Moves s t) : Moves s (takePeriod night elapsed t) := by
  unfold takePeriod; (repeat' split) <;> simp (maxDischargeDepth := 30) [m]

@[simp] theorem moves_tariffContact (now : Bool)  (m : Moves s t) : Moves s (tariffContact now t) := by
  unfold tariffContact; (repeat' split) <;> simp (maxDischargeDepth := 30) [m]

@[simp] theorem moves_tariffHeard (night : Bool) (elapsed : Nat)  (m : Moves s t) : Moves s (tariffHeard night elapsed t) := by
  unfold tariffHeard; dsimp only; (repeat' split) <;> simp (maxDischargeDepth := 30) [m]

@[simp] theorem moves_tariffCount  (m : Moves s t) : Moves s (tariffCount t) := by
  unfold tariffCount; dsimp only; (repeat' split) <;> simp (maxDischargeDepth := 30) [m]

@[simp] theorem moves_nightTimesOut  (m : Moves s t) : Moves s (nightTimesOut t) := by
  unfold nightTimesOut; dsimp only; (repeat' split) <;> simp (maxDischargeDepth := 30) [m]

@[simp] theorem moves_standingWishes  (m : Moves s t) : Moves s (standingWishes t) := by
  unfold standingWishes; dsimp only; (repeat' split) <;> simp (maxDischargeDepth := 30) [m]

@[simp] theorem moves_sampleWishes  (m : Moves s t) : Moves s (sampleWishes t) := by
  unfold sampleWishes; dsimp only; (repeat' split) <;> simp (maxDischargeDepth := 30) [m]

@[simp] theorem moves_selectNow  (m : Moves s t) : Moves s (selectNow t) := by
  unfold selectNow; dsimp only; simp (maxDischargeDepth := 30) [m]

@[simp] theorem moves_updateFrostState  (m : Moves s t) : Moves s (updateFrostState t) := by
  unfold updateFrostState; dsimp only; (repeat' split) <;> simp (maxDischargeDepth := 30) [m]

@[simp] theorem moves_dropStages  (m : Moves s t) : Moves s (dropStages t) := by
  unfold dropStages; exact moves_foldl _ (fun t k m => by split <;> simp [m]) _ m

@[simp] theorem moves_requestLoad  (m : Moves s t) : Moves s (requestLoad t) := by
  unfold requestLoad; dsimp only; (repeat' split) <;> simp (maxDischargeDepth := 30) [m]

@[simp] theorem moves_energiseNext  (m : Moves s t) : Moves s (energiseNext t) := by
  unfold energiseNext; (repeat' split) <;> simp (maxDischargeDepth := 30) [m]

@[simp] theorem moves_judgeStarved  (m : Moves s t) : Moves s (judgeStarved t) := by
  unfold judgeStarved; dsimp only; (repeat' split) <;> simp (maxDischargeDepth := 30) [m]

@[simp] theorem moves_frostEvaluate  (m : Moves s t) : Moves s (frostEvaluate t) := by
  unfold frostEvaluate; (repeat' split) <;> simp (maxDischargeDepth := 30) [m]

@[simp] theorem moves_frostJudge  (m : Moves s t) : Moves s (frostJudge t) := by
  unfold frostJudge; dsimp only; (repeat' split) <;> simp (maxDischargeDepth := 30) [m]

@[simp] theorem moves_turnoverWarm  (m : Moves s t) : Moves s (turnoverWarm t) := by
  unfold turnoverWarm; (repeat' split) <;> simp (maxDischargeDepth := 30) [m]

@[simp] theorem moves_frostSample  (m : Moves s t) : Moves s (frostSample t) := by
  unfold frostSample; dsimp only; simp (maxDischargeDepth := 30) [m]

@[simp] theorem moves_stagnationMinute  (m : Moves s t) : Moves s (stagnationMinute t) := by
  unfold stagnationMinute; dsimp only; (repeat' split) <;> simp (maxDischargeDepth := 30) [m]

@[simp] theorem moves_stagnationEnds  (m : Moves s t) : Moves s (stagnationEnds t) := by
  unfold stagnationEnds; dsimp only; simp (maxDischargeDepth := 30) [m]

@[simp] theorem moves_evaluateSituation  (m : Moves s t) : Moves s (evaluateSituation t) := by
  unfold evaluateSituation; dsimp only; (repeat' split) <;> simp (maxDischargeDepth := 30) [m]

@[simp] theorem moves_situationChange (key : KeyBits)  (m : Moves s t) : Moves s (situationChange key t) := by
  unfold situationChange; dsimp only; (repeat' split) <;> simp (maxDischargeDepth := 30) [m]

@[simp] theorem moves_takeKey (key : KeyBits)  (m : Moves s t) : Moves s (takeKey key t) := by
  unfold takeKey; (repeat' split) <;> simp (maxDischargeDepth := 30) [m]

@[simp] theorem moves_takeField (f : KeyField) (value : Nat) (m : Moves s t) : Moves s (takeField f value t) := by
  unfold takeField; simp (maxDischargeDepth := 30) [m]

@[simp] theorem moves_takeSlack (slack : Int)  (m : Moves s t) : Moves s (takeSlack slack t) := by
  unfold takeSlack; simp (maxDischargeDepth := 30) [m]

@[simp] theorem moves_takePending  (m : Moves s t) : Moves s (takePending t) := by
  unfold takePending; (repeat' split) <;> simp (maxDischargeDepth := 30) [m]

@[simp] theorem moves_startSituation  (m : Moves s t) : Moves s (startSituation t) := by
  unfold startSituation; dsimp only; simp (maxDischargeDepth := 30) [m]

@[simp] theorem moves_reportOrders  (m : Moves s t) : Moves s (reportOrders t) := by
  unfold reportOrders; dsimp only; (repeat' split) <;> simp (maxDischargeDepth := 30) [m]

@[simp] theorem moves_updateCapacity  (m : Moves s t) : Moves s (updateCapacity t) := by
  unfold updateCapacity; dsimp only; simp (maxDischargeDepth := 30) [m]

@[simp] theorem moves_updateSummary  (m : Moves s t) : Moves s (updateSummary t) := by
  unfold updateSummary; dsimp only; (repeat' split) <;> simp (maxDischargeDepth := 30) [m]

@[simp] theorem moves_peersChanged  (m : Moves s t) : Moves s (peersChanged t) := by
  unfold peersChanged; simp (maxDischargeDepth := 30) [m]

@[simp] theorem moves_hearSender (n : Nat) (role : Role)  (m : Moves s t) : Moves s (hearSender n role t) := by
  unfold hearSender; simp (maxDischargeDepth := 30) [m]

@[simp] theorem moves_losePeer (n : Nat)  (m : Moves s t) : Moves s (losePeer n t) := by
  unfold losePeer; dsimp only; (repeat' split) <;> simp (maxDischargeDepth := 30) [m]

@[simp] theorem moves_mapTowers (f : Bool → Peer → Peer) (samples : WindowSamples)  (m : Moves s t) : Moves s (mapTowers f samples t) := by
  unfold mapTowers; dsimp only; simp (maxDischargeDepth := 30) [m]

@[simp] theorem moves_stoppingResult (samples : WindowSamples)  (m : Moves s t) : Moves s (stoppingResult samples t) := by
  unfold stoppingResult; simp (maxDischargeDepth := 30) [m]

@[simp] theorem moves_alarmResult (u : Nat) (samples : WindowSamples)  (m : Moves s t) : Moves s (alarmResult u samples t) := by
  unfold alarmResult; (repeat' split) <;> simp (maxDischargeDepth := 30) [m]

@[simp] theorem moves_askAfterFault  (m : Moves s t) : Moves s (askAfterFault t) := by
  unfold askAfterFault; dsimp only; (repeat' split) <;> simp (maxDischargeDepth := 30) [m]

@[simp] theorem moves_becomeJoined  (m : Moves s t) : Moves s (becomeJoined t) := by
  unfold becomeJoined; dsimp only; simp (maxDischargeDepth := 30) [m]

@[simp] theorem moves_joinIfAnswered  (m : Moves s t) : Moves s (joinIfAnswered t) := by
  unfold joinIfAnswered; (repeat' split) <;> simp (maxDischargeDepth := 30) [m]

@[simp] theorem moves_questionDone (q : Question)  (m : Moves s t) : Moves s (questionDone q t) := by
  unfold questionDone; dsimp only; simp (maxDischargeDepth := 30) [m]

@[simp] theorem moves_questionWasDropped (q : Question)  (m : Moves s t) : Moves s (questionWasDropped q t) := by
  unfold questionWasDropped; (repeat' split) <;> simp (maxDischargeDepth := 30) [m]

@[simp] theorem moves_follow  (m : Moves s t) : Moves s (follow t) := by
  unfold follow; dsimp only; simp (maxDischargeDepth := 30) [m]

@[simp] theorem moves_takeOrders  (m : Moves s t) : Moves s (takeOrders t) := by
  unfold takeOrders; simp (maxDischargeDepth := 30) [m]

@[simp] theorem moves_takeHandOn (h : HandOn)  (m : Moves s t) : Moves s (takeHandOn h t) := by
  unfold takeHandOn; (repeat' split) <;> simp (maxDischargeDepth := 30) [m]

@[simp] theorem moves_takeHandOns (x0 : Nat)  (m : Moves s t) : Moves s (takeHandOns x0 t) := by
  induction x0 generalizing t with
  | zero => exact m
  | succ n ih =>
    unfold takeHandOns; split
    · exact m
    · exact ih (moves_follow (moves_takeHandOn _ (moves_of_core (t := t) rfl m)))

@[simp] theorem moves_beginEvent  (m : Moves s t) : Moves s (beginEvent t) := by
  unfold beginEvent; dsimp only; simp (maxDischargeDepth := 30) [m]

@[simp] theorem moves_takePosition  (m : Moves s t) : Moves s (takePosition t) := by
  unfold takePosition; dsimp only; (repeat' split) <;> simp (maxDischargeDepth := 30) [m]

@[simp] theorem moves_pressAck  (m : Moves s t) : Moves s (pressAck t) := by
  unfold pressAck; simp (maxDischargeDepth := 30) [m]

@[simp] theorem moves_handSettled (i : ContactInput) (now : Bool)  (m : Moves s t) : Moves s (handSettled i now t) := by
  unfold handSettled; (repeat' split) <;> simp (maxDischargeDepth := 30) [m]

@[simp] theorem moves_settleInput (i : ContactInput)  (m : Moves s t) : Moves s (settleInput i t) := by
  unfold settleInput; dsimp only; simp (maxDischargeDepth := 30) [m]

@[simp] theorem moves_inputSettles (i : ContactInput)  (m : Moves s t) : Moves s (inputSettles i t) := by
  unfold inputSettles; simp (maxDischargeDepth := 30) [m]

@[simp] theorem moves_setRaw (i : ContactInput) (now : Bool) (x : Option Nat)  (m : Moves s t) : Moves s (setRaw i now x t) := by
  unfold setRaw; dsimp only; simp (maxDischargeDepth := 30) [m]

@[simp] theorem moves_followPin (i : ContactInput)  (m : Moves s t) : Moves s (followPin i t) := by
  unfold followPin; dsimp only; (repeat' split) <;> simp (maxDischargeDepth := 30) [m]

@[simp] theorem moves_readInputs  (m : Moves s t) : Moves s (readInputs t) := by
  unfold readInputs; dsimp only; simp (maxDischargeDepth := 30) [m]

@[simp] theorem moves_latchStartUp (i : ContactInput)  (m : Moves s t) : Moves s (latchStartUp i t) := by
  unfold latchStartUp; (repeat' split) <;> simp (maxDischargeDepth := 30) [m]

@[simp] theorem moves_stageStartUp (k : Fin 4)  (m : Moves s t) : Moves s (stageStartUp k t) := by
  unfold stageStartUp; (repeat' split) <;> simp (maxDischargeDepth := 30) [m]

@[simp] theorem moves_startListening  (m : Moves s t) : Moves s (startListening t) := by
  unfold startListening; dsimp only; simp (maxDischargeDepth := 30) [m]

@[simp] theorem moves_startInputs  (m : Moves s t) : Moves s (startInputs t) := by
  unfold startInputs; dsimp only
  refine moves_foldl _ (fun t k m => by simp [m]) _ (moves_takePosition ?_)
  exact moves_foldl _ (fun t k m => by simp [m]) _ (by simp [m])

@[simp] theorem moves_startTariff  (m : Moves s t) : Moves s (startTariff t) := by
  unfold startTariff; (repeat' split) <;> simp (maxDischargeDepth := 30) [m]

@[simp] theorem moves_startTrip  (m : Moves s t) : Moves s (startTrip t) := by
  unfold startTrip; (repeat' split) <;> simp (maxDischargeDepth := 30) [m]

@[simp] theorem moves_countTable (r : Resource)  (m : Moves s t) : Moves s (countTable r t) := by
  unfold countTable; simp (maxDischargeDepth := 30) [m]

@[simp] theorem moves_countClaims  (m : Moves s t) : Moves s (countClaims t) := by
  unfold countClaims; dsimp only; simp (maxDischargeDepth := 30) [m]

@[simp] theorem moves_countReport  (m : Moves s t) : Moves s (countReport t) := by
  unfold countReport; dsimp only; simp (maxDischargeDepth := 30) [m]

@[simp] theorem moves_countTimers  (m : Moves s t) : Moves s (countTimers t) := by
  unfold countTimers; dsimp only
  have k := moves_countReport (moves_countClaims m)
  generalize countReport (countClaims t) = v at k
  exact moves_of_core (t := v) rfl k

@[simp] theorem moves_sampleTaken  (m : Moves s t) : Moves s (sampleTaken t) := by
  unfold sampleTaken; simp (maxDischargeDepth := 30) [m]

@[simp] theorem moves_changeRule  (m : Moves s t) : Moves s (changeRule t) := by
  unfold changeRule; dsimp only; (repeat' split) <;> simp (maxDischargeDepth := 30) [m]

@[simp] theorem moves_beginQuiet  (m : Moves s t) : Moves s (beginQuiet t) := by
  unfold beginQuiet; dsimp only; simp (maxDischargeDepth := 30) [m]

@[simp] theorem moves_beginReceiving  (m : Moves s t) : Moves s (beginReceiving t) := by
  unfold beginReceiving; dsimp only; simp (maxDischargeDepth := 30) [m]

@[simp] theorem moves_enterSkip  (m : Moves s t) : Moves s (enterSkip t) := by
  unfold enterSkip; dsimp only; simp (maxDischargeDepth := 30) [m]

@[simp] theorem moves_discardNotice  (m : Moves s t) : Moves s (discardNotice t) := by
  unfold discardNotice; dsimp only; (repeat' split) <;> simp (maxDischargeDepth := 30) [m]

@[simp] theorem moves_loseEcho (b : Nat)  (m : Moves s t) : Moves s (loseEcho b t) := by
  unfold loseEcho; dsimp only; simp (maxDischargeDepth := 30) [m]

@[simp] theorem moves_failDriver  (m : Moves s t) : Moves s (failDriver t) := by
  unfold failDriver; simp (maxDischargeDepth := 30) [m]

@[simp] theorem moves_beginRollCall (q : Question) (mine : Bool)  (m : Moves s t) : Moves s (beginRollCall q mine t) := by
  unfold beginRollCall; dsimp only; simp (maxDischargeDepth := 30) [m]

@[simp] theorem moves_lineAfterSent (o : OnLine)  (m : Moves s t) : Moves s (lineAfterSent o t) := by
  unfold lineAfterSent; dsimp only; (repeat' split) <;> simp (maxDischargeDepth := 30) [m]

@[simp] theorem moves_enterLineFault  (m : Moves s t) : Moves s (enterLineFault t) := by
  unfold enterLineFault; dsimp only; simp (maxDischargeDepth := 30) [m]

@[simp] theorem moves_leaveLineFault  (m : Moves s t) : Moves s (leaveLineFault t) := by
  unfold leaveLineFault; dsimp only; simp (maxDischargeDepth := 30) [m]

@[simp] theorem moves_giveResult (q : Question) (samples : WindowSamples)  (m : Moves s t) : Moves s (giveResult q samples t) := by
  unfold giveResult; (repeat' split) <;> simp (maxDischargeDepth := 30) [m]

@[simp] theorem moves_keepSamples (samples : WindowSamples)  (m : Moves s t) : Moves s (keepSamples samples t) := by
  unfold keepSamples; dsimp only; simp (maxDischargeDepth := 30) [m]

@[simp] theorem moves_judgeWindow (c : RollCall) (samples : WindowSamples)  (m : Moves s t) : Moves s (judgeWindow c samples t) := by
  unfold judgeWindow; dsimp only; (repeat' split) <;> simp (maxDischargeDepth := 30) [m]

@[simp] theorem moves_endWindow (samples : WindowSamples)  (m : Moves s t) : Moves s (endWindow samples t) := by
  unfold endWindow; dsimp only; (repeat' split) <;> simp (maxDischargeDepth := 30) [m]

@[simp] theorem moves_endDuplicate  (m : Moves s t) : Moves s (endDuplicate t) := by
  unfold endDuplicate; dsimp only; simp (maxDischargeDepth := 30) [m]

@[simp] theorem moves_lineAfterHeard  (m : Moves s t) : Moves s (lineAfterHeard t) := by
  unfold lineAfterHeard; dsimp only; simp (maxDischargeDepth := 30) [m]

@[simp] theorem moves_heardUnconfigured (h : Heard)  (m : Moves s t) : Moves s (heardUnconfigured h t) := by
  unfold heardUnconfigured; (repeat' split) <;> simp (maxDischargeDepth := 30) [m]

@[simp] theorem moves_beginDuplicate  (m : Moves s t) : Moves s (beginDuplicate t) := by
  unfold beginDuplicate; simp (maxDischargeDepth := 30) [m]

@[simp] theorem moves_heardDuplicate (h : Heard)  (m : Moves s t) : Moves s (heardDuplicate h t) := by
  unfold heardDuplicate; dsimp only; (repeat' split) <;> simp (maxDischargeDepth := 30) [m]

@[simp] theorem moves_takeAck (target bits : Nat) (faults : Bool)  (m : Moves s t) : Moves s (takeAck target bits faults t) := by
  unfold takeAck; dsimp only; (repeat' split) <;> simp (maxDischargeDepth := 30) [m]

@[simp] theorem moves_writePeer (h : Heard)  (m : Moves s t) : Moves s (writePeer h t) := by
  unfold writePeer; dsimp only; (repeat' split) <;> simp (maxDischargeDepth := 30) [m]

@[simp] theorem moves_handOn (h : Heard)  (m : Moves s t) : Moves s (handOn h t) := by
  unfold handOn; (repeat' split) <;> simp (maxDischargeDepth := 30) [m]

@[simp] theorem moves_heardPeer (h : Heard)  (m : Moves s t) : Moves s (heardPeer h t) := by
  unfold heardPeer; simp (maxDischargeDepth := 30) [m]

@[simp] theorem moves_heardValid (h : Heard)  (m : Moves s t) : Moves s (heardValid h t) := by
  unfold heardValid; (repeat' split) <;> simp (maxDischargeDepth := 30) [m]

@[simp] theorem moves_noticeCompleted (chars : List Byte)  (m : Moves s t) : Moves s (noticeCompleted chars t) := by
  unfold noticeCompleted; (repeat' split) <;> simp (maxDischargeDepth := 30) [m]

@[simp] theorem moves_settlePeer (r : Resource) (n : Nat)  (m : Moves s t) : Moves s (settlePeer r n t) := by
  unfold settlePeer; simp (maxDischargeDepth := 30) [m]

@[simp] theorem moves_endListening  (m : Moves s t) : Moves s (endListening t) := by
  unfold endListening; dsimp only; simp (maxDischargeDepth := 30) [m]

@[simp] theorem moves_endAnswering  (m : Moves s t) : Moves s (endAnswering t) := by
  unfold endAnswering; dsimp only; (repeat' split) <;> simp (maxDischargeDepth := 30) [m]

@[simp] theorem moves_countSecond  (m : Moves s t) : Moves s (countSecond t) := by
  unfold countSecond; dsimp only; (repeat' split) <;> simp (maxDischargeDepth := 30) [m]

@[simp] theorem moves_samplePressure (p : AnalogCode)  (m : Moves s t) : Moves s (samplePressure p t) := by
  unfold samplePressure; (repeat' split) <;> simp (maxDischargeDepth := 30) [m]

@[simp] theorem moves_sampleTemperatures (tw tr ta : AnalogCode)  (m : Moves s t) : Moves s (sampleTemperatures tw tr ta t) := by
  unfold sampleTemperatures; dsimp only; simp (maxDischargeDepth := 30) [m]

@[simp] theorem moves_takeSamples (p tw tr ta : AnalogCode)  (m : Moves s t) : Moves s (takeSamples p tw tr ta t) := by
  unfold takeSamples; simp (maxDischargeDepth := 30) [m]

@[simp] theorem moves_secondPasses (p tw tr ta : AnalogCode)  (m : Moves s t) : Moves s (secondPasses p tw tr ta t) := by
  unfold secondPasses; dsimp only; (repeat' split) <;> simp (maxDischargeDepth := 30) [m]

@[simp] theorem moves_learnStep  (m : Moves s t) : Moves s (learnStep t) := by
  unfold learnStep; dsimp only; (repeat' split) <;> simp (maxDischargeDepth := 30) [m]

@[simp] theorem moves_fillMinute  (m : Moves s t) : Moves s (fillMinute t) := by
  unfold fillMinute; dsimp only; (repeat' split) <;> simp (maxDischargeDepth := 30) [m]

@[simp] theorem moves_markJobs  (m : Moves s t) : Moves s (markJobs t) := by
  unfold markJobs; simp (maxDischargeDepth := 30) [m]

@[simp] theorem moves_minutePasses  (m : Moves s t) : Moves s (minutePasses t) := by
  unfold minutePasses; dsimp only; (repeat' split) <;> simp (maxDischargeDepth := 30) [m]

@[simp] theorem moves_loadFails  (m : Moves s t) : Moves s (loadFails t) := by
  unfold loadFails; dsimp only; simp (maxDischargeDepth := 30) [m]

@[simp] theorem moves_loadDone (raw : Settings)  (m : Moves s t) : Moves s (loadDone raw t) := by
  unfold loadDone; dsimp only; simp (maxDischargeDepth := 30) [m]

@[simp] theorem moves_startMeasure  (m : Moves s t) : Moves s (startMeasure t) := by
  unfold startMeasure; dsimp only; simp (maxDischargeDepth := 30) [m]

@[simp] theorem moves_startInflow  (m : Moves s t) : Moves s (startInflow t) := by
  unfold startInflow; dsimp only; (repeat' split) <;> simp (maxDischargeDepth := 30) [m]

@[simp] theorem moves_endLoading (raw : Settings)  (m : Moves s t) : Moves s (endLoading raw t) := by
  unfold endLoading; dsimp only; simp (maxDischargeDepth := 30) [m]

@[simp] theorem moves_takeBlock (block : List Byte)  (m : Moves s t) : Moves s (takeBlock block t) := by
  unfold takeBlock; dsimp only; simp (maxDischargeDepth := 30) [m]

@[simp] theorem moves_noAnswer  (m : Moves s t) : Moves s (noAnswer t) := by
  unfold noAnswer; dsimp only; (repeat' split) <;> simp (maxDischargeDepth := 30) [m]

@[simp] theorem moves_judgeStructure (raw : Settings) (m : Moves s t) : Moves s (judgeStructure raw t) := by
  unfold judgeStructure; (repeat' split) <;> simp (maxDischargeDepth := 30) [m]

@[simp] theorem moves_judgeRead (block : List Byte)  (m : Moves s t) : Moves s (judgeRead block t) := by
  unfold judgeRead; dsimp only; (repeat' split) <;> simp (maxDischargeDepth := 30) [m]

@[simp] theorem moves_retryRead  (m : Moves s t) : Moves s (retryRead t) := by
  unfold retryRead; dsimp only; simp (maxDischargeDepth := 30) [m]

@[simp] theorem moves_leaveReset  (m : Moves s t) : Moves s (leaveReset t) := by
  unfold leaveReset; dsimp only; simp (maxDischargeDepth := 30) [m]

/-! ### The line unit's moves -/

theorem isReport_or (item : Outgoing) : item = .report ∨ item ≠ .report := by cases item <;> simp

/-- Telling the owner of a notice other than REPORT. -/
theorem moves_tellSent (o : OnLine) (n : o.item ≠ .report) (m : Moves s t) : Moves s (tellSent o t) := by
  unfold tellSent; split <;> first | contradiction | simp [m]

/-- A notice sent in full. -/
theorem moves_finishSending (m : Moves s t) : Moves s (finishSending t) := by
  unfold finishSending
  split
  · exact m
  · rename_i o h
    refine moves_lineAfterSent _ ?_
    rcases isReport_or o.item with r | r
    · refine Moves.sentReport o m h r ?_
      simp only [tellSent, r]; rfl
    · have k := moves_tellSent o r m
      exact k.sentOther rfl

theorem cancelled_isClaim {item : Outgoing} {u : Nat} (h : cancelled item u t = true) : isClaim item = true := by
  cases item <;> simp [cancelled] at h ⊢; simp [isClaim]

theorem moves_cancelHead {e : QueueEntry} (q : queueHead t.lnu.queue = some e) (c : isClaim e.item = true) (m : Moves s t) :
    Moves s (cancelHead e.item t) := by
  have k : Moves s { t with lnu := { t.lnu with queue := removeUnder (keyOf e.item) t.lnu.queue } } :=
    Moves.cancel e m q c rfl
  unfold cancelHead; dsimp only
  split
  · simp (maxDischargeDepth := 30) [k]
  · exact k

theorem moves_winSlot (slot n : Nat) (m : Moves s t) : Moves s (winSlot slot n t) := by
  induction n generalizing t with
  | zero => exact m
  | succ n ih =>
    unfold winSlot
    split
    · exact m
    · rename_i e q
      split
      · rename_i c
        have k := moves_cancelHead q (cancelled_isClaim c) m
        dsimp only
        split
        · exact k
        · split
          · exact ih k
          · exact k
      · exact m.start e q

theorem moves_winTime (slot : Nat) (m : Moves s t) : Moves s (winTime slot t) := moves_winSlot _ _ (by simp [m])

/-! ### Events and commands -/

theorem moves_event (f : State → State) (h : ∀ t, Moves s t → Moves s (f t)) (m : Moves s t) : Moves s (event f t) := by
  unfold event; exact moves_takeHandOns _ (moves_follow (h _ (moves_beginEvent m)))

theorem moves_occurs {may : Bool} {f : State → State} {t : State} (h : ∀ t, Moves s t → Moves s (f t)) (m : Moves s t) {u : State}
    (e : occurs may f t = .next u) : Moves s u := by
  unfold occurs at e
  injection e with e
  subst e
  split
  · exact moves_event f h m
  · exact m

end

/-- Every command but a reset changes the queue, the notice on the line, the report totals, the demand and safe hold by moves. -/
theorem moves_exec {c : Instr} {s t : State} (p : c ≠ .powerOnReset) (x : c ≠ .externalReset) (h : exec c s = .next t) :
    Moves s t := by
  have r : Moves s s := .refl
  cases c with
  | powerOnReset => exact absurd rfl p
  | externalReset => exact absurd rfl x
  | loadAttemptDone block =>
    simp only [exec, execLoadAttemptDone] at h
    split at h
    · exact moves_occurs (fun _ m => moves_judgeRead _ m) r h
    · cases h
  | retryWaitExpiry => exact moves_occurs (fun _ m => moves_retryRead m) r h
  | secondEvent p tw tr ta => exact moves_occurs (fun _ m => moves_secondPasses _ _ _ _ m) r h
  | minuteMark => exact moves_occurs (fun _ m => moves_minutePasses m) r h
  | rawInputChange input closed =>
    exact moves_occurs (t := setPin input closed s) (fun _ m => moves_followPin input m) (moves_of_core (t := s) rfl r) h
  | inputSettled input => exact moves_occurs (fun _ m => moves_inputSettles _ m) r h
  | proofTimerExpiry stage => exact moves_occurs (fun _ m => moves_proofExpires _ m) r h
  | quietReached => exact moves_occurs (fun _ m => moves_beginQuiet m) r h
  | winTime slot => exact moves_occurs (fun _ m => moves_winTime _ m) r h
  | echoConflict bit => exact moves_occurs (fun _ m => moves_loseEcho _ m) r h
  | driverFailure bit => exact moves_occurs (fun _ m => moves_failDriver m) r h
  | noticeSent => exact moves_occurs (fun _ m => moves_finishSending m) r h
  | noticeHeard chars => exact moves_occurs (fun _ m => moves_noticeCompleted _ m) r h
  | noticeDiscarded cause => exact moves_occurs (fun _ m => moves_discardNotice m) r h
  | dupTimerExpiry => exact moves_occurs (fun _ m => moves_endDuplicate m) r h
  | lineFaultEntry => exact moves_occurs (fun _ m => moves_enterLineFault m) r h
  | lineFaultExit => exact moves_occurs (fun _ m => moves_leaveLineFault m) r h
  | answerWaitEnd => exact moves_occurs (fun _ m => by simp [m]) r h
  | windowEnd samples => exact moves_occurs (fun _ m => moves_endWindow _ m) r h
  | peerLost station => exact moves_occurs (fun _ m => moves_losePeer _ m) r h
  | tariffNightTimeout => exact moves_occurs (fun _ m => moves_nightTimesOut m) r h
  | peerSettleExpiry station resource => exact moves_occurs (fun _ m => moves_settlePeer _ _ m) r h
  | entryAgedOut station resource => exact moves_occurs (fun _ m => moves_removeEntry _ _ m) r h
  | ownSettleExpiry resource => exact moves_occurs (fun _ m => moves_ownSettleDone _ m) r h
  | refreshLead resource => exact moves_occurs (fun _ m => moves_refreshLeadReached _ m) r h
  | refreshTime resource => exact moves_occurs (fun _ m => moves_refreshMissed _ m) r h
  | incompleteTimerExpiry resource => exact moves_occurs (fun _ m => by simp [m]) r h
  | listeningTimerExpiry => exact moves_occurs (fun _ m => moves_endListening m) r h
  | answerTimerExpiry => exact moves_occurs (fun _ m => moves_endAnswering m) r h
  | openTimerExpiry => exact moves_occurs (fun _ m => moves_openExpires m) r h
  | clearingTimerExpiry => exact moves_occurs (fun _ m => moves_clearingExpires m) r h
  | strokeTimerExpiry => exact moves_occurs (fun _ m => moves_fillFollows (moves_strokeExpires m)) r h
  | confirmTimerExpiry => exact moves_occurs (fun _ m => moves_fillFollows (moves_confirmExpires m)) r h
  | stagnationPeriodEnd => exact moves_occurs (fun _ m => moves_stagnationEnds m) r h
  | reportTimerDue => exact moves_occurs (fun _ m => by simp [m]) r h
  | startBitFromAnotherStation => exact moves_occurs (fun _ m => moves_beginReceiving m) r h
  | resetPinReturnsHigh => exact moves_occurs (fun _ m => by simp [m]) r h

end Sys2Proof.Machine
end

