-- ==== Sys2Proof/Laws/FrameInputs.lean ====
section
/-! SUPPORT. Operations that leave one block's state as it is. -/

namespace Sys2Proof.Machine

/-! ### Operations that leave ilu as it is -/

@[simp] theorem ilu_emit (h : HandOn) (s : State) : (emit h s).ilu = s.ilu := rfl
@[simp] theorem ilu_setOwn (r : Resource) (c : OwnClaim) (s : State) : (setOwn r c s).ilu = s.ilu := by cases r <;> rfl
@[simp] theorem ilu_setTable (r : Resource) (t : Vector (Option Holding) 24) (s : State) :
    (setTable r t s).ilu = s.ilu := by cases r <;> rfl
@[simp] theorem ilu_setEntry (r : Resource) (n : Nat) (e : Option Holding) (s : State) :
    (setEntry r n e s).ilu = s.ilu := by unfold setEntry; split <;> simp
@[simp] theorem ilu_setPeer (n : Nat) (p : Peer) (s : State) : (setPeer n p s).ilu = s.ilu := by
  unfold setPeer; split <;> simp
@[simp] theorem ilu_setIncompleteTimer (r : Resource) (t : Option Nat) (s : State) :
    (setIncompleteTimer r t s).ilu = s.ilu := by cases r <;> rfl
@[simp] theorem ilu_setStage (k : Fin 4) (x : Stage) (s : State) : (setStage k x s).ilu = s.ilu := rfl

theorem ilu_foldl {α : Type} (f : State → α → State) (h : ∀ t k, (f t k).ilu = t.ilu) (l : List α) (s : State) :
    (l.foldl f s).ilu = s.ilu := by
  induction l generalizing s with
  | nil => rfl
  | cons k l ih => rw [List.foldl_cons, ih, h]

@[simp] theorem ilu_noteOccurrence (s : State) : (noteOccurrence s).ilu = s.ilu := by
  unfold noteOccurrence; dsimp only

@[simp] theorem ilu_lineError (s : State) : (lineError s).ilu = s.ilu := by
  unfold lineError; dsimp only

@[simp] theorem ilu_countSkipped (s : State) : (countSkipped s).ilu = s.ilu := by
  unfold countSkipped; dsimp only

@[simp] theorem ilu_reportDropped (s : State) : (reportDropped s).ilu = s.ilu := by
  unfold reportDropped; dsimp only; simp

@[simp] theorem ilu_claimBackToWaiting (r : Resource) (s : State) : (claimBackToWaiting r s).ilu = s.ilu := by
  unfold claimBackToWaiting; dsimp only; (repeat' split) <;> simp

@[simp] theorem ilu_tellLost (x0 : Resource) (s : State) : (tellLost x0 s).ilu = s.ilu := by
  unfold tellLost; (repeat' split) <;> simp

@[simp] theorem ilu_tellGranted (x0 : Resource) (s : State) : (tellGranted x0 s).ilu = s.ilu := by
  unfold tellGranted; (repeat' split) <;> simp

@[simp] theorem ilu_tellRaiseWithdrawn (x0 : Resource) (s : State) : (tellRaiseWithdrawn x0 s).ilu = s.ilu := by
  unfold tellRaiseWithdrawn; (repeat' split) <;> simp

@[simp] theorem ilu_dropOwnEntry (r : Resource) (s : State) : (dropOwnEntry r s).ilu = s.ilu := by
  unfold dropOwnEntry; simp

theorem ilu_giveUp {release : State → State} (h : ∀ t, (release t).ilu = t.ilu) (r : Resource) (s : State) : (giveUp release r s).ilu = s.ilu := by
  unfold giveUp; simp [h]

@[simp] theorem ilu_setIncomplete (r : Resource) (s : State) : (setIncomplete r s).ilu = s.ilu := by
  unfold setIncomplete; simp

@[simp] theorem ilu_markIncompleteFor (q : Question) (s : State) : (markIncompleteFor q s).ilu = s.ilu := by
  unfold markIncompleteFor; split <;> simp

theorem ilu_tellDropped {release : Resource → State → State} (h : ∀ r t, (release r t).ilu = t.ilu) (item : Outgoing) (s : State) : (tellDropped release item s).ilu = s.ilu := by
  unfold tellDropped; (repeat' split) <;> simp [ilu_giveUp (h _)]

theorem ilu_dropNotice {release : Resource → State → State} (h : ∀ r t, (release r t).ilu = t.ilu) (item : Outgoing) (s : State) : (dropNotice release item s).ilu = s.ilu := by
  unfold dropNotice; simp [ilu_tellDropped h]

@[simp] theorem ilu_claimRefused (r : Resource) (refresh : Bool) (s : State) : (claimRefused r refresh s).ilu = s.ilu := by
  unfold claimRefused; (repeat' split) <;> simp

@[simp] theorem ilu_enqueue (item : Outgoing) (u : Nat) (s : State) : (enqueue item u s).ilu = s.ilu := by
  unfold enqueue; dsimp only

theorem ilu_queueNew {release : Resource → State → State} (h : ∀ r t, (release r t).ilu = t.ilu) (item : Outgoing) (u : Nat) (s : State) : (queueNew release item u s).ilu = s.ilu := by
  unfold queueNew; (repeat' split) <;> simp [ilu_dropNotice h]

@[simp] theorem ilu_queueOver (item : Outgoing) (u : Nat) (e : QueueEntry) (s : State) : (queueOver item u e s).ilu = s.ilu := by
  unfold queueOver; (repeat' split) <;> simp

theorem ilu_queueWith {release : Resource → State → State} (h : ∀ r t, (release r t).ilu = t.ilu) (item : Outgoing) (u : Nat) (s : State) : (queueWith release item u s).ilu = s.ilu := by
  unfold queueWith; (repeat' split) <;> simp [ilu_queueNew h]

theorem ilu_queueRelease (n : Nat) (r : Resource) (s : State) : (queueRelease n r s).ilu = s.ilu := by
  induction n generalizing r s with
  | zero => rfl
  | succ n ih => exact ilu_queueWith ih _ _ _

@[simp] theorem ilu_queueNotice (item : Outgoing) (u : Nat) (s : State) : (queueNotice item u s).ilu = s.ilu :=
  ilu_queueWith (ilu_queueRelease 2) item u s


@[simp] theorem ilu_dueEvent (s : State) : (dueEvent s).ilu = s.ilu := by
  unfold dueEvent; dsimp only; (repeat' split) <;> simp

@[simp] theorem ilu_changeSeen (s : State) : (changeSeen s).ilu = s.ilu := by
  unfold changeSeen; dsimp only

@[simp] theorem ilu_announce (r : Resource) (s : State) : (announce r s).ilu = s.ilu := by
  unfold announce; dsimp only; (repeat' split) <;> simp

@[simp] theorem ilu_loseOwn (r : Resource) (releases : Bool) (s : State) : (loseOwn r releases s).ilu = s.ilu :=
  ilu_giveUp (fun t => by split <;> simp) r s

@[simp] theorem ilu_handField (f : KeyField) (s : State) : (handField f s).ilu = s.ilu := rfl

@[simp] theorem ilu_withdrawRaise (r : Resource) (s : State) : (withdrawRaise r s).ilu = s.ilu := by
  unfold withdrawRaise; dsimp only; (repeat' split) <;> simp

@[simp] theorem ilu_settleCheck (r : Resource) (s : State) : (settleCheck r s).ilu = s.ilu := by
  unfold settleCheck; dsimp only; (repeat' split) <;> simp

@[simp] theorem ilu_reexamineNow (r : Resource) (s : State) : (reexamineNow r s).ilu = s.ilu := by
  unfold reexamineNow; simp

@[simp] theorem ilu_ownEntryUrgency (r : Resource) (u : Nat) (s : State) : (ownEntryUrgency r u s).ilu = s.ilu := by
  unfold ownEntryUrgency; (repeat' split) <;> simp

@[simp] theorem ilu_changeUrgency (r : Resource) (u : Nat) (s : State) : (changeUrgency r u s).ilu = s.ilu := by
  unfold changeUrgency; dsimp only; (repeat' split) <;> simp

@[simp] theorem ilu_withdrawOwn (r : Resource) (s : State) : (withdrawOwn r s).ilu = s.ilu := by
  unfold withdrawOwn; (repeat' split) <;> simp

@[simp] theorem ilu_askFresh (r : Resource) (a u : Nat) (s : State) : (askFresh r a u s).ilu = s.ilu := by
  unfold askFresh; dsimp only; simp

@[simp] theorem ilu_lowerOwn (r : Resource) (a : Nat) (s : State) : (lowerOwn r a s).ilu = s.ilu := by
  unfold lowerOwn; dsimp only; simp

@[simp] theorem ilu_raiseOwn (r : Resource) (a : Nat) (s : State) : (raiseOwn r a s).ilu = s.ilu := by
  unfold raiseOwn; dsimp only; (repeat' split) <;> simp

@[simp] theorem ilu_askAmount (r : Resource) (a : Nat) (s : State) : (askAmount r a s).ilu = s.ilu := by
  unfold askAmount; dsimp only; (repeat' split) <;> simp

@[simp] theorem ilu_askOwn (r : Resource) (a u : Nat) (s : State) : (askOwn r a u s).ilu = s.ilu := by
  unfold askOwn; (repeat' split) <;> simp

@[simp] theorem ilu_askNext (s : State) : (askNext s).ilu = s.ilu := by
  unfold askNext; dsimp only; (repeat' split) <;> simp

@[simp] theorem ilu_markAnswered (q : Question) (s : State) : (markAnswered q s).ilu = s.ilu := by
  unfold markAnswered; dsimp only; (repeat' split) <;> simp

@[simp] theorem ilu_yieldOwn (r : Resource) (yielders : List Nat) (s : State) : (yieldOwn r yielders s).ilu = s.ilu := by
  unfold yieldOwn; (repeat' split) <;> simp

@[simp] theorem ilu_takeCapacity (before : Nat) (s : State) : (takeCapacity before s).ilu = s.ilu := by
  unfold takeCapacity; (repeat' split) <;> simp

@[simp] theorem ilu_removeEntry (r : Resource) (n : Nat) (s : State) : (removeEntry r n s).ilu = s.ilu := by
  unfold removeEntry; (repeat' split) <;> simp

@[simp] theorem ilu_enterInitial (r : Resource) (n a u : Nat) (s : State) : (enterInitial r n a u s).ilu = s.ilu := by
  unfold enterInitial; dsimp only; (repeat' split) <;> simp

@[simp] theorem ilu_object (r : Resource) (newcomer : Nat) (s : State) : (object r newcomer s).ilu = s.ilu := by
  unfold object; dsimp only; (repeat' split) <;> simp

@[simp] theorem ilu_initialHeard (r : Resource) (n a u : Nat) (s : State) : (initialHeard r n a u s).ilu = s.ilu := by
  unfold initialHeard; dsimp only; (repeat' split) <;> simp

@[simp] theorem ilu_refreshHeard (r : Resource) (n a u : Nat) (s : State) : (refreshHeard r n a u s).ilu = s.ilu := by
  unfold refreshHeard; simp

@[simp] theorem ilu_claimHeard (r : Resource) (refresh : Bool) (n a u : Nat) (s : State) : (claimHeard r refresh n a u s).ilu = s.ilu := by
  unfold claimHeard; (repeat' split) <;> simp

@[simp] theorem ilu_claimSent (r : Resource) (refresh : Bool) (a u : Nat) (s : State) : (claimSent r refresh a u s).ilu = s.ilu := by
  unfold claimSent; dsimp only; (repeat' split) <;> simp

@[simp] theorem ilu_payOwedRefresh (r : Resource) (s : State) : (payOwedRefresh r s).ilu = s.ilu := by
  unfold payOwedRefresh; dsimp only; (repeat' split) <;> simp

@[simp] theorem ilu_grantOwn (r : Resource) (a : Nat) (s : State) : (grantOwn r a s).ilu = s.ilu := by
  unfold grantOwn; dsimp only; simp

@[simp] theorem ilu_ownSettleDone (r : Resource) (s : State) : (ownSettleDone r s).ilu = s.ilu := by
  unfold ownSettleDone; dsimp only; (repeat' split) <;> simp

@[simp] theorem ilu_refreshLeadReached (r : Resource) (s : State) : (refreshLeadReached r s).ilu = s.ilu := by
  unfold refreshLeadReached; dsimp only; (repeat' split) <;> simp

@[simp] theorem ilu_refreshMissed (r : Resource) (s : State) : (refreshMissed r s).ilu = s.ilu := by
  unfold refreshMissed; dsimp only; (repeat' split) <;> simp

@[simp] theorem ilu_releaseForDuplicate (r : Resource) (s : State) : (releaseForDuplicate r s).ilu = s.ilu := by
  unfold releaseForDuplicate; dsimp only; (repeat' split) <;> simp

@[simp] theorem ilu_reconcile (r : Resource) (samples : WindowSamples) (s : State) : (reconcile r samples s).ilu = s.ilu := by
  unfold reconcile; dsimp only; (repeat' split) <;> simp

@[simp] theorem ilu_announceStop (s : State) : (announceStop s).ilu = s.ilu := by
  unfold announceStop; dsimp only; simp

@[simp] theorem ilu_stopOn (cause : StopCause) (s : State) : (stopOn cause s).ilu = s.ilu := by
  unfold stopOn; dsimp only; (repeat' split) <;> simp

@[simp] theorem ilu_stopOff (s : State) : (stopOff s).ilu = s.ilu := by
  unfold stopOff; dsimp only; (repeat' split) <;> simp

@[simp] theorem ilu_stopForSafeHold (s : State) : (stopForSafeHold s).ilu = s.ilu := by
  unfold stopForSafeHold; dsimp only; (repeat' split) <;> simp

@[simp] theorem ilu_announceHold (c : FaultCode) (s : State) : (announceHold c s).ilu = s.ilu := by
  unfold announceHold; (repeat' split) <;> simp

@[simp] theorem ilu_enterSafeHold (s : State) : (enterSafeHold s).ilu = s.ilu := by
  unfold enterSafeHold; dsimp only; simp

@[simp] theorem ilu_enterFault (c : FaultCode) (s : State) : (enterFault c s).ilu = s.ilu := by
  unfold enterFault; dsimp only; (repeat' split) <;> simp

@[simp] theorem ilu_leaveFault (c : FaultCode) (s : State) : (leaveFault c s).ilu = s.ilu := by
  unfold leaveFault; dsimp only; (repeat' split) <;> simp

@[simp] theorem ilu_raiseCondition (c : FaultCode) (s : State) : (raiseCondition c s).ilu = s.ilu := by
  unfold raiseCondition; dsimp only; (repeat' split) <;> simp

@[simp] theorem ilu_clearCondition (c : FaultCode) (s : State) : (clearCondition c s).ilu = s.ilu := by
  unfold clearCondition; dsimp only; (repeat' split) <;> simp

@[simp] theorem ilu_setCondition (c : FaultCode) (present : Bool) (s : State) : (setCondition c present s).ilu = s.ilu := by
  unfold setCondition; (repeat' split) <;> simp

@[simp] theorem ilu_ackCode (c : FaultCode) (s : State) : (ackCode c s).ilu = s.ilu := by
  unfold ackCode; dsimp only; (repeat' split) <;> simp

@[simp] theorem ilu_ackFaults (s : State) : (ackFaults s).ilu = s.ilu := by
  unfold ackFaults; exact ilu_foldl _ (fun t k => by simp) _ _

@[simp] theorem ilu_announceLatch (l : Latch) (s : State) : (announceLatch l s).ilu = s.ilu := by
  unfold announceLatch; simp

@[simp] theorem ilu_setFailed (v : Vector Bool 4) (s : State) : (setFailed v s).ilu = s.ilu := by
  unfold setFailed; dsimp only

@[simp] theorem ilu_moveStage (k : Fin 4) (x : Stage) (s : State) : (moveStage k x s).ilu = s.ilu := by
  unfold moveStage; simp

@[simp] theorem ilu_commandStage (k : Fin 4) (on : Bool) (s : State) : (commandStage k on s).ilu = s.ilu := by
  unfold commandStage; dsimp only; (repeat' split) <;> simp

@[simp] theorem ilu_restoreStage (k : Fin 4) (s : State) : (restoreStage k s).ilu = s.ilu := by
  unfold restoreStage; (repeat' split) <;> simp

@[simp] theorem ilu_setGuard (g : GuardState) (s : State) : (setGuard g s).ilu = s.ilu := by
  unfold setGuard; dsimp only; simp

@[simp] theorem ilu_endDemand (s : State) : (endDemand s).ilu = s.ilu := by
  unfold endDemand; (repeat' split) <;> simp

@[simp] theorem ilu_announceSpill (s : State) : (announceSpill s).ilu = s.ilu := by
  unfold announceSpill; dsimp only; simp

@[simp] theorem ilu_enterSpill (s : State) : (enterSpill s).ilu = s.ilu := by
  unfold enterSpill; dsimp only; simp

@[simp] theorem ilu_enterCut (s : State) : (enterCut s).ilu = s.ilu := by
  unfold enterCut; dsimp only; simp

@[simp] theorem ilu_enterShut (s : State) : (enterShut s).ilu = s.ilu := by
  unfold enterShut; dsimp only; simp

@[simp] theorem ilu_shutToWatch (s : State) : (shutToWatch s).ilu = s.ilu := by
  unfold shutToWatch; dsimp only; simp

@[simp] theorem ilu_holdToWatch (s : State) : (holdToWatch s).ilu = s.ilu := by
  unfold holdToWatch; dsimp only; (repeat' split) <;> simp

@[simp] theorem ilu_calmUrgency (s : State) : (calmUrgency s).ilu = s.ilu := by
  unfold calmUrgency; dsimp only; (repeat' split) <;> simp

@[simp] theorem ilu_leaveSpill (s : State) : (leaveSpill s).ilu = s.ilu := by
  unfold leaveSpill; dsimp only; (repeat' split) <;> simp

theorem ilu_guardMove {ovfOnset : Bool} {s t : State} (h : guardMove ovfOnset s = some t) : t.ilu = s.ilu := by
  unfold guardMove at h
  (repeat' split at h) <;> first | (injection h with h; subst h; simp) | cases h

@[simp] theorem ilu_guardPass (x0 : Nat) (s : State) : (guardPass x0 s).ilu = s.ilu := by
  induction x0 generalizing s with
  | zero => rfl
  | succ n ih =>
    unfold guardPass; split
    · rfl
    · rw [ih]; exact ilu_guardMove (by assumption)

@[simp] theorem ilu_guardExamine (ovfOnset : Bool) (s : State) : (guardExamine ovfOnset s).ilu = s.ilu := by
  unfold guardExamine; split
  · rfl
  · rw [ilu_guardPass]; exact ilu_guardMove (by assumption)

@[simp] theorem ilu_guardSample (s : State) : (guardSample s).ilu = s.ilu := by
  unfold guardSample; dsimp only; (repeat' split) <;> simp

@[simp] theorem ilu_strokeExpires (s : State) : (strokeExpires s).ilu = s.ilu := by
  unfold strokeExpires; dsimp only; simp

@[simp] theorem ilu_leakCheck (s : State) : (leakCheck s).ilu = s.ilu := by
  unfold leakCheck; dsimp only; (repeat' split) <;> simp

@[simp] theorem ilu_floatCheck (s : State) : (floatCheck s).ilu = s.ilu := by
  unfold floatCheck; dsimp only; (repeat' split) <;> simp

@[simp] theorem ilu_reofferOwed (s : State) : (reofferOwed s).ilu = s.ilu := by
  unfold reofferOwed; dsimp only; (repeat' split) <;> simp

@[simp] theorem ilu_guardMinute (s : State) : (guardMinute s).ilu = s.ilu := by
  unfold guardMinute; simp

@[simp] theorem ilu_examineConfirmation (s : State) : (examineConfirmation s).ilu = s.ilu := by
  unfold examineConfirmation; dsimp only; (repeat' split) <;> simp

@[simp] theorem ilu_stopSent (on : Bool) (cause : Nat) (s : State) : (stopSent on cause s).ilu = s.ilu := by
  unfold stopSent; dsimp only; (repeat' split) <;> simp

@[simp] theorem ilu_spillAlarmSent (set : Bool) (s : State) : (spillAlarmSent set s).ilu = s.ilu := by
  unfold spillAlarmSent; dsimp only; (repeat' split) <;> simp

@[simp] theorem ilu_confirmExpires (s : State) : (confirmExpires s).ilu = s.ilu := by
  unfold confirmExpires; dsimp only; simp

@[simp] theorem ilu_moveFill (new : FillState) (s : State) : (moveFill new s).ilu = s.ilu := by
  unfold moveFill; dsimp only; simp

@[simp] theorem ilu_setFill (new : FillState) (s : State) : (setFill new s).ilu = s.ilu := by
  unfold setFill; dsimp only; (repeat' split) <;> simp

@[simp] theorem ilu_reliefStart (s : State) : (reliefStart s).ilu = s.ilu := by
  unfold reliefStart; (repeat' split) <;> simp

@[simp] theorem ilu_reliefEnd (s : State) : (reliefEnd s).ilu = s.ilu := by
  unfold reliefEnd; (repeat' split) <;> simp

@[simp] theorem ilu_planStep (s : State) : (planStep s).ilu = s.ilu := by
  unfold planStep; (repeat' split) <;> simp

@[simp] theorem ilu_handUrgency (s : State) : (handUrgency s).ilu = s.ilu := by
  unfold handUrgency; (repeat' split) <;> simp

@[simp] theorem ilu_replan (handsSlack : Bool) (s : State) : (replan handsSlack s).ilu = s.ilu := by
  unfold replan; dsimp only; (repeat' split) <;> simp

@[simp] theorem ilu_planAndStep (handsSlack : Bool) (s : State) : (planAndStep handsSlack s).ilu = s.ilu := by
  unfold planAndStep; simp

@[simp] theorem ilu_takeCauses (s : State) : (takeCauses s).ilu = s.ilu := by
  unfold takeCauses; dsimp only; (repeat' split) <;> simp

@[simp] theorem ilu_fillFollows (s : State) : (fillFollows s).ilu = s.ilu := by
  unfold fillFollows; (repeat' split) <;> simp

@[simp] theorem ilu_fillGranted (s : State) : (fillGranted s).ilu = s.ilu := by
  unfold fillGranted; (repeat' split) <;> simp

@[simp] theorem ilu_fillLost (s : State) : (fillLost s).ilu = s.ilu := by
  unfold fillLost; (repeat' split) <;> simp

@[simp] theorem ilu_withdrawTurnover (s : State) : (withdrawTurnover s).ilu = s.ilu := by
  unfold withdrawTurnover; dsimp only; (repeat' split) <;> simp

@[simp] theorem ilu_fillSample (s : State) : (fillSample s).ilu = s.ilu := by
  unfold fillSample; dsimp only; (repeat' split) <;> simp

@[simp] theorem ilu_fillPosition (old new : Position) (s : State) : (fillPosition old new s).ilu = s.ilu := by
  unfold fillPosition; dsimp only; (repeat' split) <;> simp

@[simp] theorem ilu_openExpires (s : State) : (openExpires s).ilu = s.ilu := by
  unfold openExpires; dsimp only; simp

@[simp] theorem ilu_clearingExpires (s : State) : (clearingExpires s).ilu = s.ilu := by
  unfold clearingExpires; dsimp only; simp

@[simp] theorem ilu_applyPermits (s : State) : (applyPermits s).ilu = s.ilu := by
  unfold applyPermits; dsimp only; (repeat' split) <;> simp

@[simp] theorem ilu_fillOrders (s : State) : (fillOrders s).ilu = s.ilu := by
  unfold fillOrders; simp

@[simp] theorem ilu_setPeriod (night : Bool) (elapsed : Nat) (s : State) : (setPeriod night elapsed s).ilu = s.ilu := by
  unfold setPeriod; dsimp only; (repeat' split) <;> simp

@[simp] theorem ilu_dayEndsTariff (s : State) : (dayEndsTariff s).ilu = s.ilu := by
  unfold dayEndsTariff; (repeat' split) <;> simp

@[simp] theorem ilu_tariffChange (s : State) : (tariffChange s).ilu = s.ilu := by
  unfold tariffChange; dsimp only; (repeat' split) <;> simp

@[simp] theorem ilu_takePeriod (night : Bool) (elapsed : Nat) (s : State) : (takePeriod night elapsed s).ilu = s.ilu := by
  unfold takePeriod; (repeat' split) <;> simp

@[simp] theorem ilu_tariffContact (now : Bool) (s : State) : (tariffContact now s).ilu = s.ilu := by
  unfold tariffContact; (repeat' split) <;> simp

@[simp] theorem ilu_tariffHeard (night : Bool) (elapsed : Nat) (s : State) : (tariffHeard night elapsed s).ilu = s.ilu := by
  unfold tariffHeard; dsimp only; (repeat' split) <;> simp

@[simp] theorem ilu_tariffCount (s : State) : (tariffCount s).ilu = s.ilu := by
  unfold tariffCount; dsimp only; (repeat' split) <;> simp

@[simp] theorem ilu_nightTimesOut (s : State) : (nightTimesOut s).ilu = s.ilu := by
  unfold nightTimesOut; dsimp only; (repeat' split) <;> simp

@[simp] theorem ilu_standingWishes (s : State) : (standingWishes s).ilu = s.ilu := by
  unfold standingWishes; dsimp only; (repeat' split) <;> simp

@[simp] theorem ilu_sampleWishes (s : State) : (sampleWishes s).ilu = s.ilu := by
  unfold sampleWishes; dsimp only; (repeat' split) <;> simp

@[simp] theorem ilu_selectNow (s : State) : (selectNow s).ilu = s.ilu := by
  unfold selectNow; dsimp only

@[simp] theorem ilu_updateFrostState (s : State) : (updateFrostState s).ilu = s.ilu := by
  unfold updateFrostState; dsimp only; (repeat' split) <;> simp

@[simp] theorem ilu_dropStages (s : State) : (dropStages s).ilu = s.ilu := by
  unfold dropStages; exact ilu_foldl _ (fun t k => by split <;> simp) _ _

@[simp] theorem ilu_requestLoad (s : State) : (requestLoad s).ilu = s.ilu := by
  unfold requestLoad; dsimp only; (repeat' split) <;> simp

@[simp] theorem ilu_energiseNext (s : State) : (energiseNext s).ilu = s.ilu := by
  unfold energiseNext; (repeat' split) <;> simp

@[simp] theorem ilu_judgeStarved (s : State) : (judgeStarved s).ilu = s.ilu := by
  unfold judgeStarved; dsimp only; (repeat' split) <;> simp

@[simp] theorem ilu_frostEvaluate (s : State) : (frostEvaluate s).ilu = s.ilu := by
  unfold frostEvaluate; (repeat' split) <;> simp

@[simp] theorem ilu_frostJudge (s : State) : (frostJudge s).ilu = s.ilu := by
  unfold frostJudge; dsimp only; (repeat' split) <;> simp

@[simp] theorem ilu_turnoverWarm (s : State) : (turnoverWarm s).ilu = s.ilu := by
  unfold turnoverWarm; (repeat' split) <;> simp

@[simp] theorem ilu_frostSample (s : State) : (frostSample s).ilu = s.ilu := by
  unfold frostSample; dsimp only; simp

@[simp] theorem ilu_stagnationMinute (s : State) : (stagnationMinute s).ilu = s.ilu := by
  unfold stagnationMinute; dsimp only

@[simp] theorem ilu_stagnationEnds (s : State) : (stagnationEnds s).ilu = s.ilu := by
  unfold stagnationEnds; dsimp only

@[simp] theorem ilu_evaluateSituation (s : State) : (evaluateSituation s).ilu = s.ilu := by
  unfold evaluateSituation; dsimp only; (repeat' split) <;> simp

@[simp] theorem ilu_situationChange (key : KeyBits) (s : State) : (situationChange key s).ilu = s.ilu := by
  unfold situationChange; dsimp only; (repeat' split) <;> simp

@[simp] theorem ilu_takeKey (key : KeyBits) (s : State) : (takeKey key s).ilu = s.ilu := by
  unfold takeKey; (repeat' split) <;> simp

@[simp] theorem ilu_takeField (f : KeyField) (value : Nat) (s : State) : (takeField f value s).ilu = s.ilu := by
  unfold takeField; simp

@[simp] theorem ilu_takeSlack (slack : Int) (s : State) : (takeSlack slack s).ilu = s.ilu := by
  unfold takeSlack; simp

@[simp] theorem ilu_takePending (s : State) : (takePending s).ilu = s.ilu := by
  unfold takePending; (repeat' split) <;> simp

@[simp] theorem ilu_startSituation (s : State) : (startSituation s).ilu = s.ilu := by
  unfold startSituation; dsimp only; simp

@[simp] theorem ilu_reportOrders (s : State) : (reportOrders s).ilu = s.ilu := by
  unfold reportOrders; dsimp only; (repeat' split) <;> simp

@[simp] theorem ilu_updateCapacity (s : State) : (updateCapacity s).ilu = s.ilu := by
  unfold updateCapacity; dsimp only; simp

@[simp] theorem ilu_updateSummary (s : State) : (updateSummary s).ilu = s.ilu := by
  unfold updateSummary; dsimp only; (repeat' split) <;> simp

@[simp] theorem ilu_peersChanged (s : State) : (peersChanged s).ilu = s.ilu := by
  unfold peersChanged; simp

@[simp] theorem ilu_hearSender (n : Nat) (role : Role) (s : State) : (hearSender n role s).ilu = s.ilu := by
  unfold hearSender; simp

@[simp] theorem ilu_losePeer (n : Nat) (s : State) : (losePeer n s).ilu = s.ilu := by
  unfold losePeer; dsimp only; (repeat' split) <;> simp

@[simp] theorem ilu_mapTowers (f : Bool → Peer → Peer) (samples : WindowSamples) (s : State) : (mapTowers f samples s).ilu = s.ilu := by
  unfold mapTowers; dsimp only

@[simp] theorem ilu_stoppingResult (samples : WindowSamples) (s : State) : (stoppingResult samples s).ilu = s.ilu := by
  unfold stoppingResult; simp

@[simp] theorem ilu_alarmResult (u : Nat) (samples : WindowSamples) (s : State) : (alarmResult u samples s).ilu = s.ilu := by
  unfold alarmResult; (repeat' split) <;> simp

@[simp] theorem ilu_askAfterFault (s : State) : (askAfterFault s).ilu = s.ilu := by
  unfold askAfterFault; dsimp only; (repeat' split) <;> simp

@[simp] theorem ilu_becomeJoined (s : State) : (becomeJoined s).ilu = s.ilu := by
  unfold becomeJoined; dsimp only; simp

@[simp] theorem ilu_joinIfAnswered (s : State) : (joinIfAnswered s).ilu = s.ilu := by
  unfold joinIfAnswered; (repeat' split) <;> simp

@[simp] theorem ilu_questionDone (q : Question) (s : State) : (questionDone q s).ilu = s.ilu := by
  unfold questionDone; dsimp only; simp

@[simp] theorem ilu_questionWasDropped (q : Question) (s : State) : (questionWasDropped q s).ilu = s.ilu := by
  unfold questionWasDropped; (repeat' split) <;> simp

@[simp] theorem ilu_follow (s : State) : (follow s).ilu = s.ilu := by
  unfold follow; dsimp only

@[simp] theorem ilu_takeOrders (s : State) : (takeOrders s).ilu = s.ilu := by
  unfold takeOrders; simp

@[simp] theorem ilu_takeHandOn (h : HandOn) (s : State) : (takeHandOn h s).ilu = s.ilu := by
  have h := congrArg Quiet.ilu (quiet_takeHandOn h s)
  exact h

@[simp] theorem ilu_takeHandOns (x0 : Nat) (s : State) : (takeHandOns x0 s).ilu = s.ilu := by
  induction x0 generalizing s with
  | zero => rfl
  | succ n ih =>
    unfold takeHandOns; split
    · rfl
    · rw [ih, ilu_follow, ilu_takeHandOn]

@[simp] theorem ilu_beginEvent (s : State) : (beginEvent s).ilu = s.ilu := by
  unfold beginEvent; dsimp only

@[simp] theorem ilu_takePosition (s : State) : (takePosition s).ilu = s.ilu := by
  unfold takePosition; dsimp only; (repeat' split) <;> simp

@[simp] theorem ilu_startListening (s : State) : (startListening s).ilu = s.ilu := by
  unfold startListening; dsimp only

@[simp] theorem ilu_startTariff (s : State) : (startTariff s).ilu = s.ilu := by
  unfold startTariff; (repeat' split) <;> simp

@[simp] theorem ilu_startTrip (s : State) : (startTrip s).ilu = s.ilu := by
  unfold startTrip; (repeat' split) <;> simp

@[simp] theorem ilu_countTable (r : Resource) (s : State) : (countTable r s).ilu = s.ilu := by
  unfold countTable; simp

@[simp] theorem ilu_countClaims (s : State) : (countClaims s).ilu = s.ilu := by
  unfold countClaims; dsimp only; simp

@[simp] theorem ilu_countReport (s : State) : (countReport s).ilu = s.ilu := by
  unfold countReport; dsimp only

@[simp] theorem ilu_countTimers (s : State) : (countTimers s).ilu = s.ilu := by
  unfold countTimers; dsimp only; simp

@[simp] theorem ilu_sampleTaken (s : State) : (sampleTaken s).ilu = s.ilu := by
  unfold sampleTaken; simp

@[simp] theorem ilu_changeRule (s : State) : (changeRule s).ilu = s.ilu := by
  unfold changeRule; dsimp only; (repeat' split) <;> simp

@[simp] theorem ilu_beginQuiet (s : State) : (beginQuiet s).ilu = s.ilu := by
  unfold beginQuiet; dsimp only

@[simp] theorem ilu_beginReceiving (s : State) : (beginReceiving s).ilu = s.ilu := by
  unfold beginReceiving; dsimp only

@[simp] theorem ilu_abandonSending (s : State) : (abandonSending s).ilu = s.ilu := by
  unfold abandonSending; dsimp only

@[simp] theorem ilu_enterSkip (s : State) : (enterSkip s).ilu = s.ilu := by
  unfold enterSkip; dsimp only

@[simp] theorem ilu_discardNotice (s : State) : (discardNotice s).ilu = s.ilu := by
  unfold discardNotice; dsimp only; (repeat' split) <;> simp

@[simp] theorem ilu_cancelHead (item : Outgoing) (s : State) : (cancelHead item s).ilu = s.ilu := by
  unfold cancelHead; dsimp only; (repeat' split) <;> simp

@[simp] theorem ilu_loseEcho (b : Nat) (s : State) : (loseEcho b s).ilu = s.ilu := by
  unfold loseEcho; dsimp only; simp

@[simp] theorem ilu_failDriver (s : State) : (failDriver s).ilu = s.ilu := by
  unfold failDriver; simp

@[simp] theorem ilu_beginRollCall (q : Question) (mine : Bool) (s : State) : (beginRollCall q mine s).ilu = s.ilu := by
  unfold beginRollCall; dsimp only

@[simp] theorem ilu_reportSent (body : List Byte) (s : State) : (reportSent body s).ilu = s.ilu := by
  unfold reportSent; dsimp only

@[simp] theorem ilu_tellSent (o : OnLine) (s : State) : (tellSent o s).ilu = s.ilu := by
  unfold tellSent; (repeat' split) <;> simp

@[simp] theorem ilu_lineAfterSent (o : OnLine) (s : State) : (lineAfterSent o s).ilu = s.ilu := by
  unfold lineAfterSent; dsimp only; (repeat' split) <;> simp

@[simp] theorem ilu_finishSending (s : State) : (finishSending s).ilu = s.ilu := by
  unfold finishSending; dsimp only; (repeat' split) <;> simp

@[simp] theorem ilu_enterLineFault (s : State) : (enterLineFault s).ilu = s.ilu := by
  unfold enterLineFault; dsimp only; simp

@[simp] theorem ilu_leaveLineFault (s : State) : (leaveLineFault s).ilu = s.ilu := by
  unfold leaveLineFault; dsimp only; simp

@[simp] theorem ilu_giveResult (q : Question) (samples : WindowSamples) (s : State) : (giveResult q samples s).ilu = s.ilu := by
  unfold giveResult; (repeat' split) <;> simp

@[simp] theorem ilu_keepSamples (samples : WindowSamples) (s : State) : (keepSamples samples s).ilu = s.ilu := by
  unfold keepSamples; dsimp only

@[simp] theorem ilu_judgeWindow (c : RollCall) (samples : WindowSamples) (s : State) : (judgeWindow c samples s).ilu = s.ilu := by
  unfold judgeWindow; dsimp only; (repeat' split) <;> simp

@[simp] theorem ilu_endWindow (samples : WindowSamples) (s : State) : (endWindow samples s).ilu = s.ilu := by
  unfold endWindow; dsimp only; (repeat' split) <;> simp

@[simp] theorem ilu_endDuplicate (s : State) : (endDuplicate s).ilu = s.ilu := by
  unfold endDuplicate; dsimp only; simp

@[simp] theorem ilu_lineAfterHeard (s : State) : (lineAfterHeard s).ilu = s.ilu := by
  unfold lineAfterHeard; dsimp only

@[simp] theorem ilu_heardUnconfigured (h : Heard) (s : State) : (heardUnconfigured h s).ilu = s.ilu := by
  unfold heardUnconfigured; (repeat' split) <;> simp

@[simp] theorem ilu_beginDuplicate (s : State) : (beginDuplicate s).ilu = s.ilu := by
  unfold beginDuplicate; simp

@[simp] theorem ilu_heardDuplicate (h : Heard) (s : State) : (heardDuplicate h s).ilu = s.ilu := by
  unfold heardDuplicate; dsimp only; (repeat' split) <;> simp

@[simp] theorem ilu_writePeer (h : Heard) (s : State) : (writePeer h s).ilu = s.ilu := by
  unfold writePeer; dsimp only; (repeat' split) <;> simp

@[simp] theorem ilu_settlePeer (r : Resource) (n : Nat) (s : State) : (settlePeer r n s).ilu = s.ilu := by
  unfold settlePeer; simp

@[simp] theorem ilu_endListening (s : State) : (endListening s).ilu = s.ilu := by
  unfold endListening; dsimp only; simp

@[simp] theorem ilu_endAnswering (s : State) : (endAnswering s).ilu = s.ilu := by
  unfold endAnswering; dsimp only; (repeat' split) <;> simp

@[simp] theorem ilu_learnStep (s : State) : (learnStep s).ilu = s.ilu := by
  unfold learnStep; dsimp only

@[simp] theorem ilu_fillMinute (s : State) : (fillMinute s).ilu = s.ilu := by
  unfold fillMinute; dsimp only; (repeat' split) <;> simp

@[simp] theorem ilu_markJobs (s : State) : (markJobs s).ilu = s.ilu := by
  unfold markJobs; simp

@[simp] theorem ilu_startSending (e : QueueEntry) (s : State) : (startSending e s).ilu = s.ilu := by
  unfold startSending; dsimp only


end Sys2Proof.Machine
end

