-- ==== Sys2Proof/Laws/FramePeers.lean ====
section
/-! SUPPORT. Operations that leave one block's state as it is. -/

namespace Sys2Proof.Machine

/-! ### Operations that leave ptb as it is -/

@[simp] theorem ptb_emit (h : HandOn) (s : State) : (emit h s).ptb = s.ptb := rfl
@[simp] theorem ptb_setOwn (r : Resource) (c : OwnClaim) (s : State) : (setOwn r c s).ptb = s.ptb := by cases r <;> rfl
@[simp] theorem ptb_setTable (r : Resource) (t : Vector (Option Holding) 24) (s : State) :
    (setTable r t s).ptb = s.ptb := by cases r <;> rfl
@[simp] theorem ptb_setEntry (r : Resource) (n : Nat) (e : Option Holding) (s : State) :
    (setEntry r n e s).ptb = s.ptb := by unfold setEntry; split <;> simp
@[simp] theorem ptb_setIncompleteTimer (r : Resource) (t : Option Nat) (s : State) :
    (setIncompleteTimer r t s).ptb = s.ptb := by cases r <;> rfl
@[simp] theorem ptb_setStage (k : Fin 4) (x : Stage) (s : State) : (setStage k x s).ptb = s.ptb := rfl

theorem ptb_foldl {α : Type} (f : State → α → State) (h : ∀ t k, (f t k).ptb = t.ptb) (l : List α) (s : State) :
    (l.foldl f s).ptb = s.ptb := by
  induction l generalizing s with
  | nil => rfl
  | cons k l ih => rw [List.foldl_cons, ih, h]

@[simp] theorem ptb_noteOccurrence (s : State) : (noteOccurrence s).ptb = s.ptb := by
  unfold noteOccurrence; dsimp only

@[simp] theorem ptb_lineError (s : State) : (lineError s).ptb = s.ptb := by
  unfold lineError; dsimp only

@[simp] theorem ptb_countSkipped (s : State) : (countSkipped s).ptb = s.ptb := by
  unfold countSkipped; dsimp only

@[simp] theorem ptb_reportDropped (s : State) : (reportDropped s).ptb = s.ptb := by
  unfold reportDropped; dsimp only; simp

@[simp] theorem ptb_claimBackToWaiting (r : Resource) (s : State) : (claimBackToWaiting r s).ptb = s.ptb := by
  unfold claimBackToWaiting; dsimp only; (repeat' split) <;> simp

@[simp] theorem ptb_tellLost (x0 : Resource) (s : State) : (tellLost x0 s).ptb = s.ptb := by
  unfold tellLost; (repeat' split) <;> simp

@[simp] theorem ptb_tellGranted (x0 : Resource) (s : State) : (tellGranted x0 s).ptb = s.ptb := by
  unfold tellGranted; (repeat' split) <;> simp

@[simp] theorem ptb_tellRaiseWithdrawn (x0 : Resource) (s : State) : (tellRaiseWithdrawn x0 s).ptb = s.ptb := by
  unfold tellRaiseWithdrawn; (repeat' split) <;> simp

@[simp] theorem ptb_dropOwnEntry (r : Resource) (s : State) : (dropOwnEntry r s).ptb = s.ptb := by
  unfold dropOwnEntry; simp

theorem ptb_giveUp {release : State → State} (h : ∀ t, (release t).ptb = t.ptb) (r : Resource) (s : State) : (giveUp release r s).ptb = s.ptb := by
  unfold giveUp; simp [h]

@[simp] theorem ptb_setIncomplete (r : Resource) (s : State) : (setIncomplete r s).ptb = s.ptb := by
  unfold setIncomplete; simp

@[simp] theorem ptb_markIncompleteFor (q : Question) (s : State) : (markIncompleteFor q s).ptb = s.ptb := by
  unfold markIncompleteFor; split <;> simp

theorem ptb_tellDropped {release : Resource → State → State} (h : ∀ r t, (release r t).ptb = t.ptb) (item : Outgoing) (s : State) : (tellDropped release item s).ptb = s.ptb := by
  unfold tellDropped; (repeat' split) <;> simp [ptb_giveUp (h _)]

theorem ptb_dropNotice {release : Resource → State → State} (h : ∀ r t, (release r t).ptb = t.ptb) (item : Outgoing) (s : State) : (dropNotice release item s).ptb = s.ptb := by
  unfold dropNotice; simp [ptb_tellDropped h]

@[simp] theorem ptb_claimRefused (r : Resource) (refresh : Bool) (s : State) : (claimRefused r refresh s).ptb = s.ptb := by
  unfold claimRefused; (repeat' split) <;> simp

@[simp] theorem ptb_enqueue (item : Outgoing) (u : Nat) (s : State) : (enqueue item u s).ptb = s.ptb := by
  unfold enqueue; dsimp only

theorem ptb_queueNew {release : Resource → State → State} (h : ∀ r t, (release r t).ptb = t.ptb) (item : Outgoing) (u : Nat) (s : State) : (queueNew release item u s).ptb = s.ptb := by
  unfold queueNew; (repeat' split) <;> simp [ptb_dropNotice h]

@[simp] theorem ptb_queueOver (item : Outgoing) (u : Nat) (e : QueueEntry) (s : State) : (queueOver item u e s).ptb = s.ptb := by
  unfold queueOver; (repeat' split) <;> simp

theorem ptb_queueWith {release : Resource → State → State} (h : ∀ r t, (release r t).ptb = t.ptb) (item : Outgoing) (u : Nat) (s : State) : (queueWith release item u s).ptb = s.ptb := by
  unfold queueWith; (repeat' split) <;> simp [ptb_queueNew h]

theorem ptb_queueRelease (n : Nat) (r : Resource) (s : State) : (queueRelease n r s).ptb = s.ptb := by
  induction n generalizing r s with
  | zero => rfl
  | succ n ih => exact ptb_queueWith ih _ _ _

@[simp] theorem ptb_queueNotice (item : Outgoing) (u : Nat) (s : State) : (queueNotice item u s).ptb = s.ptb :=
  ptb_queueWith (ptb_queueRelease 2) item u s


@[simp] theorem ptb_dueEvent (s : State) : (dueEvent s).ptb = s.ptb := by
  unfold dueEvent; dsimp only; (repeat' split) <;> simp

@[simp] theorem ptb_changeSeen (s : State) : (changeSeen s).ptb = s.ptb := by
  unfold changeSeen; dsimp only

@[simp] theorem ptb_announce (r : Resource) (s : State) : (announce r s).ptb = s.ptb := by
  unfold announce; dsimp only; (repeat' split) <;> simp

@[simp] theorem ptb_loseOwn (r : Resource) (releases : Bool) (s : State) : (loseOwn r releases s).ptb = s.ptb :=
  ptb_giveUp (fun t => by split <;> simp) r s

@[simp] theorem ptb_handField (f : KeyField) (s : State) : (handField f s).ptb = s.ptb := rfl

@[simp] theorem ptb_withdrawRaise (r : Resource) (s : State) : (withdrawRaise r s).ptb = s.ptb := by
  unfold withdrawRaise; dsimp only; (repeat' split) <;> simp

@[simp] theorem ptb_settleCheck (r : Resource) (s : State) : (settleCheck r s).ptb = s.ptb := by
  unfold settleCheck; dsimp only; (repeat' split) <;> simp

@[simp] theorem ptb_reexamineNow (r : Resource) (s : State) : (reexamineNow r s).ptb = s.ptb := by
  unfold reexamineNow; simp

@[simp] theorem ptb_ownEntryUrgency (r : Resource) (u : Nat) (s : State) : (ownEntryUrgency r u s).ptb = s.ptb := by
  unfold ownEntryUrgency; (repeat' split) <;> simp

@[simp] theorem ptb_changeUrgency (r : Resource) (u : Nat) (s : State) : (changeUrgency r u s).ptb = s.ptb := by
  unfold changeUrgency; dsimp only; (repeat' split) <;> simp

@[simp] theorem ptb_withdrawOwn (r : Resource) (s : State) : (withdrawOwn r s).ptb = s.ptb := by
  unfold withdrawOwn; (repeat' split) <;> simp

@[simp] theorem ptb_askFresh (r : Resource) (a u : Nat) (s : State) : (askFresh r a u s).ptb = s.ptb := by
  unfold askFresh; dsimp only; simp

@[simp] theorem ptb_lowerOwn (r : Resource) (a : Nat) (s : State) : (lowerOwn r a s).ptb = s.ptb := by
  unfold lowerOwn; dsimp only; simp

@[simp] theorem ptb_raiseOwn (r : Resource) (a : Nat) (s : State) : (raiseOwn r a s).ptb = s.ptb := by
  unfold raiseOwn; dsimp only; (repeat' split) <;> simp

@[simp] theorem ptb_askAmount (r : Resource) (a : Nat) (s : State) : (askAmount r a s).ptb = s.ptb := by
  unfold askAmount; dsimp only; (repeat' split) <;> simp

@[simp] theorem ptb_askOwn (r : Resource) (a u : Nat) (s : State) : (askOwn r a u s).ptb = s.ptb := by
  unfold askOwn; (repeat' split) <;> simp

@[simp] theorem ptb_askNext (s : State) : (askNext s).ptb = s.ptb := by
  unfold askNext; dsimp only; (repeat' split) <;> simp

@[simp] theorem ptb_markAnswered (q : Question) (s : State) : (markAnswered q s).ptb = s.ptb := by
  unfold markAnswered; dsimp only; (repeat' split) <;> simp

@[simp] theorem ptb_yieldOwn (r : Resource) (yielders : List Nat) (s : State) : (yieldOwn r yielders s).ptb = s.ptb := by
  unfold yieldOwn; (repeat' split) <;> simp

@[simp] theorem ptb_takeCapacity (before : Nat) (s : State) : (takeCapacity before s).ptb = s.ptb := by
  unfold takeCapacity; (repeat' split) <;> simp

@[simp] theorem ptb_removeEntry (r : Resource) (n : Nat) (s : State) : (removeEntry r n s).ptb = s.ptb := by
  unfold removeEntry; (repeat' split) <;> simp

@[simp] theorem ptb_enterInitial (r : Resource) (n a u : Nat) (s : State) : (enterInitial r n a u s).ptb = s.ptb := by
  unfold enterInitial; dsimp only; (repeat' split) <;> simp

@[simp] theorem ptb_object (r : Resource) (newcomer : Nat) (s : State) : (object r newcomer s).ptb = s.ptb := by
  unfold object; dsimp only; (repeat' split) <;> simp

@[simp] theorem ptb_initialHeard (r : Resource) (n a u : Nat) (s : State) : (initialHeard r n a u s).ptb = s.ptb := by
  unfold initialHeard; dsimp only; (repeat' split) <;> simp

@[simp] theorem ptb_refreshHeard (r : Resource) (n a u : Nat) (s : State) : (refreshHeard r n a u s).ptb = s.ptb := by
  unfold refreshHeard; simp

@[simp] theorem ptb_claimHeard (r : Resource) (refresh : Bool) (n a u : Nat) (s : State) : (claimHeard r refresh n a u s).ptb = s.ptb := by
  unfold claimHeard; (repeat' split) <;> simp

@[simp] theorem ptb_claimSent (r : Resource) (refresh : Bool) (a u : Nat) (s : State) : (claimSent r refresh a u s).ptb = s.ptb := by
  unfold claimSent; dsimp only; (repeat' split) <;> simp

@[simp] theorem ptb_payOwedRefresh (r : Resource) (s : State) : (payOwedRefresh r s).ptb = s.ptb := by
  unfold payOwedRefresh; dsimp only; (repeat' split) <;> simp

@[simp] theorem ptb_grantOwn (r : Resource) (a : Nat) (s : State) : (grantOwn r a s).ptb = s.ptb := by
  unfold grantOwn; dsimp only; simp

@[simp] theorem ptb_ownSettleDone (r : Resource) (s : State) : (ownSettleDone r s).ptb = s.ptb := by
  unfold ownSettleDone; dsimp only; (repeat' split) <;> simp

@[simp] theorem ptb_refreshLeadReached (r : Resource) (s : State) : (refreshLeadReached r s).ptb = s.ptb := by
  unfold refreshLeadReached; dsimp only; (repeat' split) <;> simp

@[simp] theorem ptb_refreshMissed (r : Resource) (s : State) : (refreshMissed r s).ptb = s.ptb := by
  unfold refreshMissed; dsimp only; (repeat' split) <;> simp

@[simp] theorem ptb_releaseForDuplicate (r : Resource) (s : State) : (releaseForDuplicate r s).ptb = s.ptb := by
  unfold releaseForDuplicate; dsimp only; (repeat' split) <;> simp

@[simp] theorem ptb_reconcile (r : Resource) (samples : WindowSamples) (s : State) : (reconcile r samples s).ptb = s.ptb := by
  unfold reconcile; dsimp only; (repeat' split) <;> simp

@[simp] theorem ptb_announceStop (s : State) : (announceStop s).ptb = s.ptb := by
  unfold announceStop; dsimp only; simp

@[simp] theorem ptb_stopOn (cause : StopCause) (s : State) : (stopOn cause s).ptb = s.ptb := by
  unfold stopOn; dsimp only; (repeat' split) <;> simp

@[simp] theorem ptb_stopOff (s : State) : (stopOff s).ptb = s.ptb := by
  unfold stopOff; dsimp only; (repeat' split) <;> simp

@[simp] theorem ptb_stopForSafeHold (s : State) : (stopForSafeHold s).ptb = s.ptb := by
  unfold stopForSafeHold; dsimp only; (repeat' split) <;> simp

@[simp] theorem ptb_announceHold (c : FaultCode) (s : State) : (announceHold c s).ptb = s.ptb := by
  unfold announceHold; (repeat' split) <;> simp

@[simp] theorem ptb_enterSafeHold (s : State) : (enterSafeHold s).ptb = s.ptb := by
  unfold enterSafeHold; dsimp only; simp

@[simp] theorem ptb_enterFault (c : FaultCode) (s : State) : (enterFault c s).ptb = s.ptb := by
  unfold enterFault; dsimp only; (repeat' split) <;> simp

@[simp] theorem ptb_leaveFault (c : FaultCode) (s : State) : (leaveFault c s).ptb = s.ptb := by
  unfold leaveFault; dsimp only; (repeat' split) <;> simp

@[simp] theorem ptb_raiseCondition (c : FaultCode) (s : State) : (raiseCondition c s).ptb = s.ptb := by
  unfold raiseCondition; dsimp only; (repeat' split) <;> simp

@[simp] theorem ptb_clearCondition (c : FaultCode) (s : State) : (clearCondition c s).ptb = s.ptb := by
  unfold clearCondition; dsimp only; (repeat' split) <;> simp

@[simp] theorem ptb_setCondition (c : FaultCode) (present : Bool) (s : State) : (setCondition c present s).ptb = s.ptb := by
  unfold setCondition; (repeat' split) <;> simp

@[simp] theorem ptb_ackCode (c : FaultCode) (s : State) : (ackCode c s).ptb = s.ptb := by
  unfold ackCode; dsimp only; (repeat' split) <;> simp

@[simp] theorem ptb_ackFaults (s : State) : (ackFaults s).ptb = s.ptb := by
  unfold ackFaults; exact ptb_foldl _ (fun t k => by simp) _ _

@[simp] theorem ptb_announceLatch (l : Latch) (s : State) : (announceLatch l s).ptb = s.ptb := by
  unfold announceLatch; simp

@[simp] theorem ptb_setLatch (l : Latch) (s : State) : (setLatch l s).ptb = s.ptb := by
  unfold setLatch; dsimp only; (repeat' split) <;> simp

@[simp] theorem ptb_clearLatch (l : Latch) (s : State) : (clearLatch l s).ptb = s.ptb := by
  unfold clearLatch; dsimp only; simp

@[simp] theorem ptb_ackLatch (l : Latch) (s : State) : (ackLatch l s).ptb = s.ptb := by
  unfold ackLatch; dsimp only; (repeat' split) <;> simp

@[simp] theorem ptb_causeEnded (l : Latch) (s : State) : (causeEnded l s).ptb = s.ptb := by
  unfold causeEnded; (repeat' split) <;> simp

@[simp] theorem ptb_singleSettle (l : Latch) (now : Bool) (s : State) : (singleSettle l now s).ptb = s.ptb := by
  unfold singleSettle; (repeat' split) <;> simp

@[simp] theorem ptb_frostMember (now : Bool) (s : State) : (frostMember now s).ptb = s.ptb := by
  unfold frostMember; dsimp only; (repeat' split) <;> simp

@[simp] theorem ptb_tripMemberActive (s : State) : (tripMemberActive s).ptb = s.ptb := by
  unfold tripMemberActive; dsimp only; (repeat' split) <;> simp

@[simp] theorem ptb_tripMembersInactive (s : State) : (tripMembersInactive s).ptb = s.ptb := by
  unfold tripMembersInactive; dsimp only; (repeat' split) <;> simp

@[simp] theorem ptb_setFailed (v : Vector Bool 4) (s : State) : (setFailed v s).ptb = s.ptb := by
  unfold setFailed; dsimp only

@[simp] theorem ptb_failStage (k : Fin 4) (s : State) : (failStage k s).ptb = s.ptb := by
  unfold failStage; dsimp only; simp

@[simp] theorem ptb_moveStage (k : Fin 4) (x : Stage) (s : State) : (moveStage k x s).ptb = s.ptb := by
  unfold moveStage; simp

@[simp] theorem ptb_commandStage (k : Fin 4) (on : Bool) (s : State) : (commandStage k on s).ptb = s.ptb := by
  unfold commandStage; dsimp only; (repeat' split) <;> simp

@[simp] theorem ptb_feedbackSettles (k : Fin 4) (now : Bool) (s : State) : (feedbackSettles k now s).ptb = s.ptb := by
  unfold feedbackSettles; dsimp only; (repeat' split) <;> simp

@[simp] theorem ptb_proofExpires (k : Fin 4) (s : State) : (proofExpires k s).ptb = s.ptb := by
  unfold proofExpires; dsimp only; (repeat' split) <;> simp

@[simp] theorem ptb_restoreStage (k : Fin 4) (s : State) : (restoreStage k s).ptb = s.ptb := by
  unfold restoreStage; (repeat' split) <;> simp

@[simp] theorem ptb_stageHealth (s : State) : (stageHealth s).ptb = s.ptb := by
  unfold stageHealth; dsimp only; split
  · simp only [ptb_emit]
    rw [ptb_foldl _ (fun t k => by split <;> simp), ptb_tripMembersInactive,
      ptb_foldl _ (fun t k => by simp)]; simp
  · rfl

@[simp] theorem ptb_ackLatches (ls : List Latch) (s : State) : (ackLatches ls s).ptb = s.ptb := by
  have h := ptb_foldl (fun t l => ackLatch l t) (fun t l => by simp) ls s
  unfold ackLatches; dsimp only; split
  · rw [ptb_stageHealth, h]
  · exact h

@[simp] theorem ptb_setGuard (g : GuardState) (s : State) : (setGuard g s).ptb = s.ptb := by
  unfold setGuard; dsimp only; simp

@[simp] theorem ptb_endDemand (s : State) : (endDemand s).ptb = s.ptb := by
  unfold endDemand; (repeat' split) <;> simp

@[simp] theorem ptb_announceSpill (s : State) : (announceSpill s).ptb = s.ptb := by
  unfold announceSpill; dsimp only; simp

@[simp] theorem ptb_enterSpill (s : State) : (enterSpill s).ptb = s.ptb := by
  unfold enterSpill; dsimp only; simp

@[simp] theorem ptb_enterCut (s : State) : (enterCut s).ptb = s.ptb := by
  unfold enterCut; dsimp only; simp

@[simp] theorem ptb_enterShut (s : State) : (enterShut s).ptb = s.ptb := by
  unfold enterShut; dsimp only; simp

@[simp] theorem ptb_shutToWatch (s : State) : (shutToWatch s).ptb = s.ptb := by
  unfold shutToWatch; dsimp only; simp

@[simp] theorem ptb_holdToWatch (s : State) : (holdToWatch s).ptb = s.ptb := by
  unfold holdToWatch; dsimp only; (repeat' split) <;> simp

@[simp] theorem ptb_calmUrgency (s : State) : (calmUrgency s).ptb = s.ptb := by
  unfold calmUrgency; dsimp only; (repeat' split) <;> simp

@[simp] theorem ptb_leaveSpill (s : State) : (leaveSpill s).ptb = s.ptb := by
  unfold leaveSpill; dsimp only; (repeat' split) <;> simp

theorem ptb_guardMove {ovfOnset : Bool} {s t : State} (h : guardMove ovfOnset s = some t) : t.ptb = s.ptb := by
  unfold guardMove at h
  (repeat' split at h) <;> first | (injection h with h; subst h; simp) | cases h

@[simp] theorem ptb_guardPass (x0 : Nat) (s : State) : (guardPass x0 s).ptb = s.ptb := by
  induction x0 generalizing s with
  | zero => rfl
  | succ n ih =>
    unfold guardPass; split
    · rfl
    · rw [ih]; exact ptb_guardMove (by assumption)

@[simp] theorem ptb_guardExamine (ovfOnset : Bool) (s : State) : (guardExamine ovfOnset s).ptb = s.ptb := by
  unfold guardExamine; split
  · rfl
  · rw [ptb_guardPass]; exact ptb_guardMove (by assumption)

@[simp] theorem ptb_guardSample (s : State) : (guardSample s).ptb = s.ptb := by
  unfold guardSample; dsimp only; (repeat' split) <;> simp

@[simp] theorem ptb_strokeExpires (s : State) : (strokeExpires s).ptb = s.ptb := by
  unfold strokeExpires; dsimp only; simp

@[simp] theorem ptb_leakCheck (s : State) : (leakCheck s).ptb = s.ptb := by
  unfold leakCheck; dsimp only; (repeat' split) <;> simp

@[simp] theorem ptb_floatCheck (s : State) : (floatCheck s).ptb = s.ptb := by
  unfold floatCheck; dsimp only; (repeat' split) <;> simp

@[simp] theorem ptb_reofferOwed (s : State) : (reofferOwed s).ptb = s.ptb := by
  unfold reofferOwed; dsimp only; (repeat' split) <;> simp

@[simp] theorem ptb_guardMinute (s : State) : (guardMinute s).ptb = s.ptb := by
  unfold guardMinute; simp

@[simp] theorem ptb_examineConfirmation (s : State) : (examineConfirmation s).ptb = s.ptb := by
  unfold examineConfirmation; dsimp only; (repeat' split) <;> simp

@[simp] theorem ptb_stopSent (on : Bool) (cause : Nat) (s : State) : (stopSent on cause s).ptb = s.ptb := by
  unfold stopSent; dsimp only; (repeat' split) <;> simp

@[simp] theorem ptb_spillAlarmSent (set : Bool) (s : State) : (spillAlarmSent set s).ptb = s.ptb := by
  unfold spillAlarmSent; dsimp only; (repeat' split) <;> simp

@[simp] theorem ptb_confirmExpires (s : State) : (confirmExpires s).ptb = s.ptb := by
  unfold confirmExpires; dsimp only; simp

@[simp] theorem ptb_moveFill (new : FillState) (s : State) : (moveFill new s).ptb = s.ptb := by
  unfold moveFill; dsimp only; simp

@[simp] theorem ptb_setFill (new : FillState) (s : State) : (setFill new s).ptb = s.ptb := by
  unfold setFill; dsimp only; (repeat' split) <;> simp

@[simp] theorem ptb_reliefStart (s : State) : (reliefStart s).ptb = s.ptb := by
  unfold reliefStart; (repeat' split) <;> simp

@[simp] theorem ptb_reliefEnd (s : State) : (reliefEnd s).ptb = s.ptb := by
  unfold reliefEnd; (repeat' split) <;> simp

@[simp] theorem ptb_planStep (s : State) : (planStep s).ptb = s.ptb := by
  unfold planStep; (repeat' split) <;> simp

@[simp] theorem ptb_handUrgency (s : State) : (handUrgency s).ptb = s.ptb := by
  unfold handUrgency; (repeat' split) <;> simp

@[simp] theorem ptb_replan (handsSlack : Bool) (s : State) : (replan handsSlack s).ptb = s.ptb := by
  unfold replan; dsimp only; (repeat' split) <;> simp

@[simp] theorem ptb_planAndStep (handsSlack : Bool) (s : State) : (planAndStep handsSlack s).ptb = s.ptb := by
  unfold planAndStep; simp

@[simp] theorem ptb_takeCauses (s : State) : (takeCauses s).ptb = s.ptb := by
  unfold takeCauses; dsimp only; (repeat' split) <;> simp

@[simp] theorem ptb_fillFollows (s : State) : (fillFollows s).ptb = s.ptb := by
  unfold fillFollows; (repeat' split) <;> simp

@[simp] theorem ptb_fillGranted (s : State) : (fillGranted s).ptb = s.ptb := by
  unfold fillGranted; (repeat' split) <;> simp

@[simp] theorem ptb_fillLost (s : State) : (fillLost s).ptb = s.ptb := by
  unfold fillLost; (repeat' split) <;> simp

@[simp] theorem ptb_withdrawTurnover (s : State) : (withdrawTurnover s).ptb = s.ptb := by
  unfold withdrawTurnover; dsimp only; (repeat' split) <;> simp

@[simp] theorem ptb_fillSample (s : State) : (fillSample s).ptb = s.ptb := by
  unfold fillSample; dsimp only; (repeat' split) <;> simp

@[simp] theorem ptb_fillPosition (old new : Position) (s : State) : (fillPosition old new s).ptb = s.ptb := by
  unfold fillPosition; dsimp only; (repeat' split) <;> simp

@[simp] theorem ptb_openExpires (s : State) : (openExpires s).ptb = s.ptb := by
  unfold openExpires; dsimp only; simp

@[simp] theorem ptb_clearingExpires (s : State) : (clearingExpires s).ptb = s.ptb := by
  unfold clearingExpires; dsimp only; simp

@[simp] theorem ptb_applyPermits (s : State) : (applyPermits s).ptb = s.ptb := by
  unfold applyPermits; dsimp only; (repeat' split) <;> simp

@[simp] theorem ptb_fillOrders (s : State) : (fillOrders s).ptb = s.ptb := by
  unfold fillOrders; simp

@[simp] theorem ptb_setPeriod (night : Bool) (elapsed : Nat) (s : State) : (setPeriod night elapsed s).ptb = s.ptb := by
  unfold setPeriod; dsimp only; (repeat' split) <;> simp

@[simp] theorem ptb_dayEndsTariff (s : State) : (dayEndsTariff s).ptb = s.ptb := by
  unfold dayEndsTariff; (repeat' split) <;> simp

@[simp] theorem ptb_tariffChange (s : State) : (tariffChange s).ptb = s.ptb := by
  unfold tariffChange; dsimp only; (repeat' split) <;> simp

@[simp] theorem ptb_takePeriod (night : Bool) (elapsed : Nat) (s : State) : (takePeriod night elapsed s).ptb = s.ptb := by
  unfold takePeriod; (repeat' split) <;> simp

@[simp] theorem ptb_tariffContact (now : Bool) (s : State) : (tariffContact now s).ptb = s.ptb := by
  unfold tariffContact; (repeat' split) <;> simp

@[simp] theorem ptb_tariffHeard (night : Bool) (elapsed : Nat) (s : State) : (tariffHeard night elapsed s).ptb = s.ptb := by
  unfold tariffHeard; dsimp only; (repeat' split) <;> simp

@[simp] theorem ptb_tariffCount (s : State) : (tariffCount s).ptb = s.ptb := by
  unfold tariffCount; dsimp only; (repeat' split) <;> simp

@[simp] theorem ptb_nightTimesOut (s : State) : (nightTimesOut s).ptb = s.ptb := by
  unfold nightTimesOut; dsimp only; (repeat' split) <;> simp

@[simp] theorem ptb_standingWishes (s : State) : (standingWishes s).ptb = s.ptb := by
  unfold standingWishes; dsimp only; (repeat' split) <;> simp

@[simp] theorem ptb_sampleWishes (s : State) : (sampleWishes s).ptb = s.ptb := by
  unfold sampleWishes; dsimp only; (repeat' split) <;> simp

@[simp] theorem ptb_selectNow (s : State) : (selectNow s).ptb = s.ptb := by
  unfold selectNow; dsimp only

@[simp] theorem ptb_updateFrostState (s : State) : (updateFrostState s).ptb = s.ptb := by
  unfold updateFrostState; dsimp only; (repeat' split) <;> simp

@[simp] theorem ptb_dropStages (s : State) : (dropStages s).ptb = s.ptb := by
  unfold dropStages; exact ptb_foldl _ (fun t k => by split <;> simp) _ _

@[simp] theorem ptb_requestLoad (s : State) : (requestLoad s).ptb = s.ptb := by
  unfold requestLoad; dsimp only; (repeat' split) <;> simp

@[simp] theorem ptb_energiseNext (s : State) : (energiseNext s).ptb = s.ptb := by
  unfold energiseNext; (repeat' split) <;> simp

@[simp] theorem ptb_judgeStarved (s : State) : (judgeStarved s).ptb = s.ptb := by
  unfold judgeStarved; dsimp only; (repeat' split) <;> simp

@[simp] theorem ptb_frostEvaluate (s : State) : (frostEvaluate s).ptb = s.ptb := by
  unfold frostEvaluate; (repeat' split) <;> simp

@[simp] theorem ptb_frostJudge (s : State) : (frostJudge s).ptb = s.ptb := by
  unfold frostJudge; dsimp only; (repeat' split) <;> simp

@[simp] theorem ptb_turnoverWarm (s : State) : (turnoverWarm s).ptb = s.ptb := by
  unfold turnoverWarm; (repeat' split) <;> simp

@[simp] theorem ptb_frostSample (s : State) : (frostSample s).ptb = s.ptb := by
  unfold frostSample; dsimp only; simp

@[simp] theorem ptb_stagnationMinute (s : State) : (stagnationMinute s).ptb = s.ptb := by
  unfold stagnationMinute; dsimp only

@[simp] theorem ptb_stagnationEnds (s : State) : (stagnationEnds s).ptb = s.ptb := by
  unfold stagnationEnds; dsimp only

@[simp] theorem ptb_evaluateSituation (s : State) : (evaluateSituation s).ptb = s.ptb := by
  unfold evaluateSituation; dsimp only; (repeat' split) <;> simp

@[simp] theorem ptb_situationChange (key : KeyBits) (s : State) : (situationChange key s).ptb = s.ptb := by
  unfold situationChange; dsimp only; (repeat' split) <;> simp

@[simp] theorem ptb_takeKey (key : KeyBits) (s : State) : (takeKey key s).ptb = s.ptb := by
  unfold takeKey; (repeat' split) <;> simp

@[simp] theorem ptb_takeField (f : KeyField) (value : Nat) (s : State) : (takeField f value s).ptb = s.ptb := by
  unfold takeField; simp

@[simp] theorem ptb_takeSlack (slack : Int) (s : State) : (takeSlack slack s).ptb = s.ptb := by
  unfold takeSlack; simp

@[simp] theorem ptb_takePending (s : State) : (takePending s).ptb = s.ptb := by
  unfold takePending; (repeat' split) <;> simp

@[simp] theorem ptb_startSituation (s : State) : (startSituation s).ptb = s.ptb := by
  unfold startSituation; dsimp only; simp

@[simp] theorem ptb_reportOrders (s : State) : (reportOrders s).ptb = s.ptb := by
  unfold reportOrders; dsimp only; (repeat' split) <;> simp

@[simp] theorem ptb_askAfterFault (s : State) : (askAfterFault s).ptb = s.ptb := by
  unfold askAfterFault; dsimp only; (repeat' split) <;> simp

@[simp] theorem ptb_becomeJoined (s : State) : (becomeJoined s).ptb = s.ptb := by
  unfold becomeJoined; dsimp only; simp

@[simp] theorem ptb_joinIfAnswered (s : State) : (joinIfAnswered s).ptb = s.ptb := by
  unfold joinIfAnswered; (repeat' split) <;> simp

@[simp] theorem ptb_questionDone (q : Question) (s : State) : (questionDone q s).ptb = s.ptb := by
  unfold questionDone; dsimp only; simp

@[simp] theorem ptb_questionWasDropped (q : Question) (s : State) : (questionWasDropped q s).ptb = s.ptb := by
  unfold questionWasDropped; (repeat' split) <;> simp

@[simp] theorem ptb_follow (s : State) : (follow s).ptb = s.ptb := by
  unfold follow; dsimp only

@[simp] theorem ptb_takeOrders (s : State) : (takeOrders s).ptb = s.ptb := by
  unfold takeOrders; simp

@[simp] theorem ptb_takeHandOn (h : HandOn) (s : State) : (takeHandOn h s).ptb = s.ptb := by
  have h := congrArg Quiet.ptb (quiet_takeHandOn h s)
  exact h

@[simp] theorem ptb_takeHandOns (x0 : Nat) (s : State) : (takeHandOns x0 s).ptb = s.ptb := by
  induction x0 generalizing s with
  | zero => rfl
  | succ n ih =>
    unfold takeHandOns; split
    · rfl
    · rw [ih, ptb_follow, ptb_takeHandOn]

@[simp] theorem ptb_beginEvent (s : State) : (beginEvent s).ptb = s.ptb := by
  unfold beginEvent; dsimp only

@[simp] theorem ptb_takePosition (s : State) : (takePosition s).ptb = s.ptb := by
  unfold takePosition; dsimp only; (repeat' split) <;> simp

@[simp] theorem ptb_pressAck (s : State) : (pressAck s).ptb = s.ptb := by
  unfold pressAck; simp

@[simp] theorem ptb_handSettled (i : ContactInput) (now : Bool) (s : State) : (handSettled i now s).ptb = s.ptb := by
  unfold handSettled; (repeat' split) <;> simp

@[simp] theorem ptb_settleInput (i : ContactInput) (s : State) : (settleInput i s).ptb = s.ptb := by
  unfold settleInput; dsimp only

@[simp] theorem ptb_inputSettles (i : ContactInput) (s : State) : (inputSettles i s).ptb = s.ptb := by
  unfold inputSettles; simp

@[simp] theorem ptb_setRaw (i : ContactInput) (now : Bool) (t : Option Nat) (s : State) : (setRaw i now t s).ptb = s.ptb := by
  unfold setRaw; dsimp only

@[simp] theorem ptb_followPin (i : ContactInput) (s : State) : (followPin i s).ptb = s.ptb := by
  unfold followPin; dsimp only; (repeat' split) <;> simp

@[simp] theorem ptb_readInputs (s : State) : (readInputs s).ptb = s.ptb := by
  unfold readInputs; dsimp only

@[simp] theorem ptb_latchStartUp (i : ContactInput) (s : State) : (latchStartUp i s).ptb = s.ptb := by
  unfold latchStartUp; (repeat' split) <;> simp

@[simp] theorem ptb_stageStartUp (k : Fin 4) (s : State) : (stageStartUp k s).ptb = s.ptb := by
  unfold stageStartUp; (repeat' split) <;> simp

@[simp] theorem ptb_startListening (s : State) : (startListening s).ptb = s.ptb := by
  unfold startListening; dsimp only

@[simp] theorem ptb_startInputs (s : State) : (startInputs s).ptb = s.ptb := by
  unfold startInputs; dsimp only
  rw [ptb_foldl _ (fun t k => by simp), ptb_takePosition, ptb_foldl _ (fun t k => by simp)]; simp

@[simp] theorem ptb_startTariff (s : State) : (startTariff s).ptb = s.ptb := by
  unfold startTariff; (repeat' split) <;> simp

@[simp] theorem ptb_startTrip (s : State) : (startTrip s).ptb = s.ptb := by
  unfold startTrip; (repeat' split) <;> simp

@[simp] theorem ptb_countTable (r : Resource) (s : State) : (countTable r s).ptb = s.ptb := by
  unfold countTable; simp

@[simp] theorem ptb_countClaims (s : State) : (countClaims s).ptb = s.ptb := by
  unfold countClaims; dsimp only; simp

@[simp] theorem ptb_countReport (s : State) : (countReport s).ptb = s.ptb := by
  unfold countReport; dsimp only

@[simp] theorem ptb_sampleTaken (s : State) : (sampleTaken s).ptb = s.ptb := by
  unfold sampleTaken; simp

@[simp] theorem ptb_changeRule (s : State) : (changeRule s).ptb = s.ptb := by
  unfold changeRule; dsimp only; (repeat' split) <;> simp

@[simp] theorem ptb_beginQuiet (s : State) : (beginQuiet s).ptb = s.ptb := by
  unfold beginQuiet; dsimp only

@[simp] theorem ptb_beginReceiving (s : State) : (beginReceiving s).ptb = s.ptb := by
  unfold beginReceiving; dsimp only

@[simp] theorem ptb_abandonSending (s : State) : (abandonSending s).ptb = s.ptb := by
  unfold abandonSending; dsimp only

@[simp] theorem ptb_enterSkip (s : State) : (enterSkip s).ptb = s.ptb := by
  unfold enterSkip; dsimp only

@[simp] theorem ptb_discardNotice (s : State) : (discardNotice s).ptb = s.ptb := by
  unfold discardNotice; dsimp only; (repeat' split) <;> simp

@[simp] theorem ptb_cancelHead (item : Outgoing) (s : State) : (cancelHead item s).ptb = s.ptb := by
  unfold cancelHead; dsimp only; (repeat' split) <;> simp

@[simp] theorem ptb_loseEcho (b : Nat) (s : State) : (loseEcho b s).ptb = s.ptb := by
  unfold loseEcho; dsimp only; simp

@[simp] theorem ptb_failDriver (s : State) : (failDriver s).ptb = s.ptb := by
  unfold failDriver; simp

@[simp] theorem ptb_beginRollCall (q : Question) (mine : Bool) (s : State) : (beginRollCall q mine s).ptb = s.ptb := by
  unfold beginRollCall; dsimp only

@[simp] theorem ptb_reportSent (body : List Byte) (s : State) : (reportSent body s).ptb = s.ptb := by
  unfold reportSent; dsimp only

@[simp] theorem ptb_tellSent (o : OnLine) (s : State) : (tellSent o s).ptb = s.ptb := by
  unfold tellSent; (repeat' split) <;> simp

@[simp] theorem ptb_lineAfterSent (o : OnLine) (s : State) : (lineAfterSent o s).ptb = s.ptb := by
  unfold lineAfterSent; dsimp only; (repeat' split) <;> simp

@[simp] theorem ptb_finishSending (s : State) : (finishSending s).ptb = s.ptb := by
  unfold finishSending; dsimp only; (repeat' split) <;> simp

@[simp] theorem ptb_enterLineFault (s : State) : (enterLineFault s).ptb = s.ptb := by
  unfold enterLineFault; dsimp only; simp

@[simp] theorem ptb_leaveLineFault (s : State) : (leaveLineFault s).ptb = s.ptb := by
  unfold leaveLineFault; dsimp only; simp

@[simp] theorem ptb_keepSamples (samples : WindowSamples) (s : State) : (keepSamples samples s).ptb = s.ptb := by
  unfold keepSamples; dsimp only

@[simp] theorem ptb_endDuplicate (s : State) : (endDuplicate s).ptb = s.ptb := by
  unfold endDuplicate; dsimp only; simp

@[simp] theorem ptb_lineAfterHeard (s : State) : (lineAfterHeard s).ptb = s.ptb := by
  unfold lineAfterHeard; dsimp only

@[simp] theorem ptb_heardUnconfigured (h : Heard) (s : State) : (heardUnconfigured h s).ptb = s.ptb := by
  unfold heardUnconfigured; (repeat' split) <;> simp

@[simp] theorem ptb_beginDuplicate (s : State) : (beginDuplicate s).ptb = s.ptb := by
  unfold beginDuplicate; simp

@[simp] theorem ptb_heardDuplicate (h : Heard) (s : State) : (heardDuplicate h s).ptb = s.ptb := by
  unfold heardDuplicate; dsimp only; (repeat' split) <;> simp

@[simp] theorem ptb_takeAck (target bits : Nat) (faults : Bool) (s : State) : (takeAck target bits faults s).ptb = s.ptb := by
  unfold takeAck; dsimp only; (repeat' split) <;> simp

@[simp] theorem ptb_handOn (h : Heard) (s : State) : (handOn h s).ptb = s.ptb := by
  unfold handOn; (repeat' split) <;> simp

@[simp] theorem ptb_settlePeer (r : Resource) (n : Nat) (s : State) : (settlePeer r n s).ptb = s.ptb := by
  unfold settlePeer; simp

@[simp] theorem ptb_endListening (s : State) : (endListening s).ptb = s.ptb := by
  unfold endListening; dsimp only; simp

@[simp] theorem ptb_endAnswering (s : State) : (endAnswering s).ptb = s.ptb := by
  unfold endAnswering; dsimp only; (repeat' split) <;> simp

@[simp] theorem ptb_learnStep (s : State) : (learnStep s).ptb = s.ptb := by
  unfold learnStep; dsimp only

@[simp] theorem ptb_fillMinute (s : State) : (fillMinute s).ptb = s.ptb := by
  unfold fillMinute; dsimp only; (repeat' split) <;> simp

@[simp] theorem ptb_markJobs (s : State) : (markJobs s).ptb = s.ptb := by
  unfold markJobs; simp

@[simp] theorem ptb_startSending (e : QueueEntry) (s : State) : (startSending e s).ptb = s.ptb := by
  unfold startSending; dsimp only


end Sys2Proof.Machine
end

