-- ==== Sys2Proof/Laws/FrameSituation.lean ====
section
/-! SUPPORT. Operations that leave one block's state as it is. -/

namespace Sys2Proof.Machine

/-! ### Operations that leave stu as it is -/

@[simp] theorem stu_emit (h : HandOn) (s : State) : (emit h s).stu = s.stu := rfl
@[simp] theorem stu_setOwn (r : Resource) (c : OwnClaim) (s : State) : (setOwn r c s).stu = s.stu := by cases r <;> rfl
@[simp] theorem stu_setTable (r : Resource) (t : Vector (Option Holding) 24) (s : State) :
    (setTable r t s).stu = s.stu := by cases r <;> rfl
@[simp] theorem stu_setEntry (r : Resource) (n : Nat) (e : Option Holding) (s : State) :
    (setEntry r n e s).stu = s.stu := by unfold setEntry; split <;> simp
@[simp] theorem stu_setPeer (n : Nat) (p : Peer) (s : State) : (setPeer n p s).stu = s.stu := by
  unfold setPeer; split <;> simp
@[simp] theorem stu_setIncompleteTimer (r : Resource) (t : Option Nat) (s : State) :
    (setIncompleteTimer r t s).stu = s.stu := by cases r <;> rfl
@[simp] theorem stu_setStage (k : Fin 4) (x : Stage) (s : State) : (setStage k x s).stu = s.stu := rfl

theorem stu_foldl {α : Type} (f : State → α → State) (h : ∀ t k, (f t k).stu = t.stu) (l : List α) (s : State) :
    (l.foldl f s).stu = s.stu := by
  induction l generalizing s with
  | nil => rfl
  | cons k l ih => rw [List.foldl_cons, ih, h]

@[simp] theorem stu_noteOccurrence (s : State) : (noteOccurrence s).stu = s.stu := by
  unfold noteOccurrence; dsimp only

@[simp] theorem stu_lineError (s : State) : (lineError s).stu = s.stu := by
  unfold lineError; dsimp only

@[simp] theorem stu_countSkipped (s : State) : (countSkipped s).stu = s.stu := by
  unfold countSkipped; dsimp only

@[simp] theorem stu_reportDropped (s : State) : (reportDropped s).stu = s.stu := by
  unfold reportDropped; dsimp only; simp

@[simp] theorem stu_claimBackToWaiting (r : Resource) (s : State) : (claimBackToWaiting r s).stu = s.stu := by
  unfold claimBackToWaiting; dsimp only; (repeat' split) <;> simp

@[simp] theorem stu_tellLost (x0 : Resource) (s : State) : (tellLost x0 s).stu = s.stu := by
  unfold tellLost; (repeat' split) <;> simp

@[simp] theorem stu_tellGranted (x0 : Resource) (s : State) : (tellGranted x0 s).stu = s.stu := by
  unfold tellGranted; (repeat' split) <;> simp

@[simp] theorem stu_tellRaiseWithdrawn (x0 : Resource) (s : State) : (tellRaiseWithdrawn x0 s).stu = s.stu := by
  unfold tellRaiseWithdrawn; (repeat' split) <;> simp

@[simp] theorem stu_dropOwnEntry (r : Resource) (s : State) : (dropOwnEntry r s).stu = s.stu := by
  unfold dropOwnEntry; simp

theorem stu_giveUp {release : State → State} (h : ∀ t, (release t).stu = t.stu) (r : Resource) (s : State) : (giveUp release r s).stu = s.stu := by
  unfold giveUp; simp [h]

@[simp] theorem stu_setIncomplete (r : Resource) (s : State) : (setIncomplete r s).stu = s.stu := by
  unfold setIncomplete; simp

@[simp] theorem stu_markIncompleteFor (q : Question) (s : State) : (markIncompleteFor q s).stu = s.stu := by
  unfold markIncompleteFor; split <;> simp

theorem stu_tellDropped {release : Resource → State → State} (h : ∀ r t, (release r t).stu = t.stu) (item : Outgoing) (s : State) : (tellDropped release item s).stu = s.stu := by
  unfold tellDropped; (repeat' split) <;> simp [stu_giveUp (h _)]

theorem stu_dropNotice {release : Resource → State → State} (h : ∀ r t, (release r t).stu = t.stu) (item : Outgoing) (s : State) : (dropNotice release item s).stu = s.stu := by
  unfold dropNotice; simp [stu_tellDropped h]

@[simp] theorem stu_claimRefused (r : Resource) (refresh : Bool) (s : State) : (claimRefused r refresh s).stu = s.stu := by
  unfold claimRefused; (repeat' split) <;> simp

@[simp] theorem stu_enqueue (item : Outgoing) (u : Nat) (s : State) : (enqueue item u s).stu = s.stu := by
  unfold enqueue; dsimp only

theorem stu_queueNew {release : Resource → State → State} (h : ∀ r t, (release r t).stu = t.stu) (item : Outgoing) (u : Nat) (s : State) : (queueNew release item u s).stu = s.stu := by
  unfold queueNew; (repeat' split) <;> simp [stu_dropNotice h]

@[simp] theorem stu_queueOver (item : Outgoing) (u : Nat) (e : QueueEntry) (s : State) : (queueOver item u e s).stu = s.stu := by
  unfold queueOver; (repeat' split) <;> simp

theorem stu_queueWith {release : Resource → State → State} (h : ∀ r t, (release r t).stu = t.stu) (item : Outgoing) (u : Nat) (s : State) : (queueWith release item u s).stu = s.stu := by
  unfold queueWith; (repeat' split) <;> simp [stu_queueNew h]

theorem stu_queueRelease (n : Nat) (r : Resource) (s : State) : (queueRelease n r s).stu = s.stu := by
  induction n generalizing r s with
  | zero => rfl
  | succ n ih => exact stu_queueWith ih _ _ _

@[simp] theorem stu_queueNotice (item : Outgoing) (u : Nat) (s : State) : (queueNotice item u s).stu = s.stu :=
  stu_queueWith (stu_queueRelease 2) item u s


@[simp] theorem stu_dueEvent (s : State) : (dueEvent s).stu = s.stu := by
  unfold dueEvent; dsimp only; (repeat' split) <;> simp

@[simp] theorem stu_changeSeen (s : State) : (changeSeen s).stu = s.stu := by
  unfold changeSeen; dsimp only

@[simp] theorem stu_announce (r : Resource) (s : State) : (announce r s).stu = s.stu := by
  unfold announce; dsimp only; (repeat' split) <;> simp

@[simp] theorem stu_loseOwn (r : Resource) (releases : Bool) (s : State) : (loseOwn r releases s).stu = s.stu :=
  stu_giveUp (fun t => by split <;> simp) r s

@[simp] theorem stu_handField (f : KeyField) (s : State) : (handField f s).stu = s.stu := rfl

@[simp] theorem stu_withdrawRaise (r : Resource) (s : State) : (withdrawRaise r s).stu = s.stu := by
  unfold withdrawRaise; dsimp only; (repeat' split) <;> simp

@[simp] theorem stu_settleCheck (r : Resource) (s : State) : (settleCheck r s).stu = s.stu := by
  unfold settleCheck; dsimp only; (repeat' split) <;> simp

@[simp] theorem stu_reexamineNow (r : Resource) (s : State) : (reexamineNow r s).stu = s.stu := by
  unfold reexamineNow; simp

@[simp] theorem stu_ownEntryUrgency (r : Resource) (u : Nat) (s : State) : (ownEntryUrgency r u s).stu = s.stu := by
  unfold ownEntryUrgency; (repeat' split) <;> simp

@[simp] theorem stu_changeUrgency (r : Resource) (u : Nat) (s : State) : (changeUrgency r u s).stu = s.stu := by
  unfold changeUrgency; dsimp only; (repeat' split) <;> simp

@[simp] theorem stu_withdrawOwn (r : Resource) (s : State) : (withdrawOwn r s).stu = s.stu := by
  unfold withdrawOwn; (repeat' split) <;> simp

@[simp] theorem stu_askFresh (r : Resource) (a u : Nat) (s : State) : (askFresh r a u s).stu = s.stu := by
  unfold askFresh; dsimp only; simp

@[simp] theorem stu_lowerOwn (r : Resource) (a : Nat) (s : State) : (lowerOwn r a s).stu = s.stu := by
  unfold lowerOwn; dsimp only; simp

@[simp] theorem stu_raiseOwn (r : Resource) (a : Nat) (s : State) : (raiseOwn r a s).stu = s.stu := by
  unfold raiseOwn; dsimp only; (repeat' split) <;> simp

@[simp] theorem stu_askAmount (r : Resource) (a : Nat) (s : State) : (askAmount r a s).stu = s.stu := by
  unfold askAmount; dsimp only; (repeat' split) <;> simp

@[simp] theorem stu_askOwn (r : Resource) (a u : Nat) (s : State) : (askOwn r a u s).stu = s.stu := by
  unfold askOwn; (repeat' split) <;> simp

@[simp] theorem stu_askNext (s : State) : (askNext s).stu = s.stu := by
  unfold askNext; dsimp only; (repeat' split) <;> simp

@[simp] theorem stu_markAnswered (q : Question) (s : State) : (markAnswered q s).stu = s.stu := by
  unfold markAnswered; dsimp only; (repeat' split) <;> simp

@[simp] theorem stu_yieldOwn (r : Resource) (yielders : List Nat) (s : State) : (yieldOwn r yielders s).stu = s.stu := by
  unfold yieldOwn; (repeat' split) <;> simp

@[simp] theorem stu_takeCapacity (before : Nat) (s : State) : (takeCapacity before s).stu = s.stu := by
  unfold takeCapacity; (repeat' split) <;> simp

@[simp] theorem stu_removeEntry (r : Resource) (n : Nat) (s : State) : (removeEntry r n s).stu = s.stu := by
  unfold removeEntry; (repeat' split) <;> simp

@[simp] theorem stu_enterInitial (r : Resource) (n a u : Nat) (s : State) : (enterInitial r n a u s).stu = s.stu := by
  unfold enterInitial; dsimp only; (repeat' split) <;> simp

@[simp] theorem stu_object (r : Resource) (newcomer : Nat) (s : State) : (object r newcomer s).stu = s.stu := by
  unfold object; dsimp only; (repeat' split) <;> simp

@[simp] theorem stu_initialHeard (r : Resource) (n a u : Nat) (s : State) : (initialHeard r n a u s).stu = s.stu := by
  unfold initialHeard; dsimp only; (repeat' split) <;> simp

@[simp] theorem stu_refreshHeard (r : Resource) (n a u : Nat) (s : State) : (refreshHeard r n a u s).stu = s.stu := by
  unfold refreshHeard; simp

@[simp] theorem stu_claimHeard (r : Resource) (refresh : Bool) (n a u : Nat) (s : State) : (claimHeard r refresh n a u s).stu = s.stu := by
  unfold claimHeard; (repeat' split) <;> simp

@[simp] theorem stu_claimSent (r : Resource) (refresh : Bool) (a u : Nat) (s : State) : (claimSent r refresh a u s).stu = s.stu := by
  unfold claimSent; dsimp only; (repeat' split) <;> simp

@[simp] theorem stu_payOwedRefresh (r : Resource) (s : State) : (payOwedRefresh r s).stu = s.stu := by
  unfold payOwedRefresh; dsimp only; (repeat' split) <;> simp

@[simp] theorem stu_grantOwn (r : Resource) (a : Nat) (s : State) : (grantOwn r a s).stu = s.stu := by
  unfold grantOwn; dsimp only; simp

@[simp] theorem stu_ownSettleDone (r : Resource) (s : State) : (ownSettleDone r s).stu = s.stu := by
  unfold ownSettleDone; dsimp only; (repeat' split) <;> simp

@[simp] theorem stu_refreshLeadReached (r : Resource) (s : State) : (refreshLeadReached r s).stu = s.stu := by
  unfold refreshLeadReached; dsimp only; (repeat' split) <;> simp

@[simp] theorem stu_refreshMissed (r : Resource) (s : State) : (refreshMissed r s).stu = s.stu := by
  unfold refreshMissed; dsimp only; (repeat' split) <;> simp

@[simp] theorem stu_releaseForDuplicate (r : Resource) (s : State) : (releaseForDuplicate r s).stu = s.stu := by
  unfold releaseForDuplicate; dsimp only; (repeat' split) <;> simp

@[simp] theorem stu_reconcile (r : Resource) (samples : WindowSamples) (s : State) : (reconcile r samples s).stu = s.stu := by
  unfold reconcile; dsimp only; (repeat' split) <;> simp

@[simp] theorem stu_announceStop (s : State) : (announceStop s).stu = s.stu := by
  unfold announceStop; dsimp only; simp

@[simp] theorem stu_stopOn (cause : StopCause) (s : State) : (stopOn cause s).stu = s.stu := by
  unfold stopOn; dsimp only; (repeat' split) <;> simp

@[simp] theorem stu_stopOff (s : State) : (stopOff s).stu = s.stu := by
  unfold stopOff; dsimp only; (repeat' split) <;> simp

@[simp] theorem stu_stopForSafeHold (s : State) : (stopForSafeHold s).stu = s.stu := by
  unfold stopForSafeHold; dsimp only; (repeat' split) <;> simp

@[simp] theorem stu_announceHold (c : FaultCode) (s : State) : (announceHold c s).stu = s.stu := by
  unfold announceHold; (repeat' split) <;> simp

@[simp] theorem stu_enterSafeHold (s : State) : (enterSafeHold s).stu = s.stu := by
  unfold enterSafeHold; dsimp only; simp

@[simp] theorem stu_enterFault (c : FaultCode) (s : State) : (enterFault c s).stu = s.stu := by
  unfold enterFault; dsimp only; (repeat' split) <;> simp

@[simp] theorem stu_leaveFault (c : FaultCode) (s : State) : (leaveFault c s).stu = s.stu := by
  unfold leaveFault; dsimp only; (repeat' split) <;> simp

@[simp] theorem stu_raiseCondition (c : FaultCode) (s : State) : (raiseCondition c s).stu = s.stu := by
  unfold raiseCondition; dsimp only; (repeat' split) <;> simp

@[simp] theorem stu_clearCondition (c : FaultCode) (s : State) : (clearCondition c s).stu = s.stu := by
  unfold clearCondition; dsimp only; (repeat' split) <;> simp

@[simp] theorem stu_setCondition (c : FaultCode) (present : Bool) (s : State) : (setCondition c present s).stu = s.stu := by
  unfold setCondition; (repeat' split) <;> simp

@[simp] theorem stu_ackCode (c : FaultCode) (s : State) : (ackCode c s).stu = s.stu := by
  unfold ackCode; dsimp only; (repeat' split) <;> simp

@[simp] theorem stu_ackFaults (s : State) : (ackFaults s).stu = s.stu := by
  unfold ackFaults; exact stu_foldl _ (fun t k => by simp) _ _

@[simp] theorem stu_announceLatch (l : Latch) (s : State) : (announceLatch l s).stu = s.stu := by
  unfold announceLatch; simp

@[simp] theorem stu_setLatch (l : Latch) (s : State) : (setLatch l s).stu = s.stu := by
  unfold setLatch; dsimp only; (repeat' split) <;> simp

@[simp] theorem stu_clearLatch (l : Latch) (s : State) : (clearLatch l s).stu = s.stu := by
  unfold clearLatch; dsimp only; simp

@[simp] theorem stu_ackLatch (l : Latch) (s : State) : (ackLatch l s).stu = s.stu := by
  unfold ackLatch; dsimp only; (repeat' split) <;> simp

@[simp] theorem stu_causeEnded (l : Latch) (s : State) : (causeEnded l s).stu = s.stu := by
  unfold causeEnded; (repeat' split) <;> simp

@[simp] theorem stu_singleSettle (l : Latch) (now : Bool) (s : State) : (singleSettle l now s).stu = s.stu := by
  unfold singleSettle; (repeat' split) <;> simp

@[simp] theorem stu_frostMember (now : Bool) (s : State) : (frostMember now s).stu = s.stu := by
  unfold frostMember; dsimp only; (repeat' split) <;> simp

@[simp] theorem stu_tripMemberActive (s : State) : (tripMemberActive s).stu = s.stu := by
  unfold tripMemberActive; dsimp only; (repeat' split) <;> simp

@[simp] theorem stu_tripMembersInactive (s : State) : (tripMembersInactive s).stu = s.stu := by
  unfold tripMembersInactive; dsimp only; (repeat' split) <;> simp

@[simp] theorem stu_setFailed (v : Vector Bool 4) (s : State) : (setFailed v s).stu = s.stu := by
  unfold setFailed; dsimp only

@[simp] theorem stu_failStage (k : Fin 4) (s : State) : (failStage k s).stu = s.stu := by
  unfold failStage; dsimp only; simp

@[simp] theorem stu_moveStage (k : Fin 4) (x : Stage) (s : State) : (moveStage k x s).stu = s.stu := by
  unfold moveStage; simp

@[simp] theorem stu_commandStage (k : Fin 4) (on : Bool) (s : State) : (commandStage k on s).stu = s.stu := by
  unfold commandStage; dsimp only; (repeat' split) <;> simp

@[simp] theorem stu_feedbackSettles (k : Fin 4) (now : Bool) (s : State) : (feedbackSettles k now s).stu = s.stu := by
  unfold feedbackSettles; dsimp only; (repeat' split) <;> simp

@[simp] theorem stu_proofExpires (k : Fin 4) (s : State) : (proofExpires k s).stu = s.stu := by
  unfold proofExpires; dsimp only; (repeat' split) <;> simp

@[simp] theorem stu_restoreStage (k : Fin 4) (s : State) : (restoreStage k s).stu = s.stu := by
  unfold restoreStage; (repeat' split) <;> simp

@[simp] theorem stu_stageHealth (s : State) : (stageHealth s).stu = s.stu := by
  unfold stageHealth; dsimp only; split
  · simp only [stu_emit]
    rw [stu_foldl _ (fun t k => by split <;> simp), stu_tripMembersInactive,
      stu_foldl _ (fun t k => by simp)]; simp
  · rfl

@[simp] theorem stu_ackLatches (ls : List Latch) (s : State) : (ackLatches ls s).stu = s.stu := by
  have h := stu_foldl (fun t l => ackLatch l t) (fun t l => by simp) ls s
  unfold ackLatches; dsimp only; split
  · rw [stu_stageHealth, h]
  · exact h

@[simp] theorem stu_setGuard (g : GuardState) (s : State) : (setGuard g s).stu = s.stu := by
  unfold setGuard; dsimp only; simp

@[simp] theorem stu_endDemand (s : State) : (endDemand s).stu = s.stu := by
  unfold endDemand; (repeat' split) <;> simp

@[simp] theorem stu_announceSpill (s : State) : (announceSpill s).stu = s.stu := by
  unfold announceSpill; dsimp only; simp

@[simp] theorem stu_enterSpill (s : State) : (enterSpill s).stu = s.stu := by
  unfold enterSpill; dsimp only; simp

@[simp] theorem stu_enterCut (s : State) : (enterCut s).stu = s.stu := by
  unfold enterCut; dsimp only; simp

@[simp] theorem stu_enterShut (s : State) : (enterShut s).stu = s.stu := by
  unfold enterShut; dsimp only; simp

@[simp] theorem stu_shutToWatch (s : State) : (shutToWatch s).stu = s.stu := by
  unfold shutToWatch; dsimp only; simp

@[simp] theorem stu_holdToWatch (s : State) : (holdToWatch s).stu = s.stu := by
  unfold holdToWatch; dsimp only; (repeat' split) <;> simp

@[simp] theorem stu_calmUrgency (s : State) : (calmUrgency s).stu = s.stu := by
  unfold calmUrgency; dsimp only; (repeat' split) <;> simp

@[simp] theorem stu_leaveSpill (s : State) : (leaveSpill s).stu = s.stu := by
  unfold leaveSpill; dsimp only; (repeat' split) <;> simp

theorem stu_guardMove {ovfOnset : Bool} {s t : State} (h : guardMove ovfOnset s = some t) : t.stu = s.stu := by
  unfold guardMove at h
  (repeat' split at h) <;> first | (injection h with h; subst h; simp) | cases h

@[simp] theorem stu_guardPass (x0 : Nat) (s : State) : (guardPass x0 s).stu = s.stu := by
  induction x0 generalizing s with
  | zero => rfl
  | succ n ih =>
    unfold guardPass; split
    · rfl
    · rw [ih]; exact stu_guardMove (by assumption)

@[simp] theorem stu_guardExamine (ovfOnset : Bool) (s : State) : (guardExamine ovfOnset s).stu = s.stu := by
  unfold guardExamine; split
  · rfl
  · rw [stu_guardPass]; exact stu_guardMove (by assumption)

@[simp] theorem stu_guardSample (s : State) : (guardSample s).stu = s.stu := by
  unfold guardSample; dsimp only; (repeat' split) <;> simp

@[simp] theorem stu_strokeExpires (s : State) : (strokeExpires s).stu = s.stu := by
  unfold strokeExpires; dsimp only; simp

@[simp] theorem stu_leakCheck (s : State) : (leakCheck s).stu = s.stu := by
  unfold leakCheck; dsimp only; (repeat' split) <;> simp

@[simp] theorem stu_floatCheck (s : State) : (floatCheck s).stu = s.stu := by
  unfold floatCheck; dsimp only; (repeat' split) <;> simp

@[simp] theorem stu_reofferOwed (s : State) : (reofferOwed s).stu = s.stu := by
  unfold reofferOwed; dsimp only; (repeat' split) <;> simp

@[simp] theorem stu_guardMinute (s : State) : (guardMinute s).stu = s.stu := by
  unfold guardMinute; simp

@[simp] theorem stu_examineConfirmation (s : State) : (examineConfirmation s).stu = s.stu := by
  unfold examineConfirmation; dsimp only; (repeat' split) <;> simp

@[simp] theorem stu_stopSent (on : Bool) (cause : Nat) (s : State) : (stopSent on cause s).stu = s.stu := by
  unfold stopSent; dsimp only; (repeat' split) <;> simp

@[simp] theorem stu_spillAlarmSent (set : Bool) (s : State) : (spillAlarmSent set s).stu = s.stu := by
  unfold spillAlarmSent; dsimp only; (repeat' split) <;> simp

@[simp] theorem stu_confirmExpires (s : State) : (confirmExpires s).stu = s.stu := by
  unfold confirmExpires; dsimp only; simp

@[simp] theorem stu_moveFill (new : FillState) (s : State) : (moveFill new s).stu = s.stu := by
  unfold moveFill; dsimp only; simp

@[simp] theorem stu_setFill (new : FillState) (s : State) : (setFill new s).stu = s.stu := by
  unfold setFill; dsimp only; (repeat' split) <;> simp

@[simp] theorem stu_reliefStart (s : State) : (reliefStart s).stu = s.stu := by
  unfold reliefStart; (repeat' split) <;> simp

@[simp] theorem stu_reliefEnd (s : State) : (reliefEnd s).stu = s.stu := by
  unfold reliefEnd; (repeat' split) <;> simp

@[simp] theorem stu_planStep (s : State) : (planStep s).stu = s.stu := by
  unfold planStep; (repeat' split) <;> simp

@[simp] theorem stu_handUrgency (s : State) : (handUrgency s).stu = s.stu := by
  unfold handUrgency; (repeat' split) <;> simp

@[simp] theorem stu_replan (handsSlack : Bool) (s : State) : (replan handsSlack s).stu = s.stu := by
  unfold replan; dsimp only; (repeat' split) <;> simp

@[simp] theorem stu_planAndStep (handsSlack : Bool) (s : State) : (planAndStep handsSlack s).stu = s.stu := by
  unfold planAndStep; simp

@[simp] theorem stu_takeCauses (s : State) : (takeCauses s).stu = s.stu := by
  unfold takeCauses; dsimp only; (repeat' split) <;> simp

@[simp] theorem stu_fillFollows (s : State) : (fillFollows s).stu = s.stu := by
  unfold fillFollows; (repeat' split) <;> simp

@[simp] theorem stu_fillGranted (s : State) : (fillGranted s).stu = s.stu := by
  unfold fillGranted; (repeat' split) <;> simp

@[simp] theorem stu_fillLost (s : State) : (fillLost s).stu = s.stu := by
  unfold fillLost; (repeat' split) <;> simp

@[simp] theorem stu_withdrawTurnover (s : State) : (withdrawTurnover s).stu = s.stu := by
  unfold withdrawTurnover; dsimp only; (repeat' split) <;> simp

@[simp] theorem stu_fillSample (s : State) : (fillSample s).stu = s.stu := by
  unfold fillSample; dsimp only; (repeat' split) <;> simp

@[simp] theorem stu_fillPosition (old new : Position) (s : State) : (fillPosition old new s).stu = s.stu := by
  unfold fillPosition; dsimp only; (repeat' split) <;> simp

@[simp] theorem stu_openExpires (s : State) : (openExpires s).stu = s.stu := by
  unfold openExpires; dsimp only; simp

@[simp] theorem stu_clearingExpires (s : State) : (clearingExpires s).stu = s.stu := by
  unfold clearingExpires; dsimp only; simp

@[simp] theorem stu_applyPermits (s : State) : (applyPermits s).stu = s.stu := by
  unfold applyPermits; dsimp only; (repeat' split) <;> simp

@[simp] theorem stu_fillOrders (s : State) : (fillOrders s).stu = s.stu := by
  unfold fillOrders; simp

@[simp] theorem stu_setPeriod (night : Bool) (elapsed : Nat) (s : State) : (setPeriod night elapsed s).stu = s.stu := by
  unfold setPeriod; dsimp only; (repeat' split) <;> simp

@[simp] theorem stu_dayEndsTariff (s : State) : (dayEndsTariff s).stu = s.stu := by
  unfold dayEndsTariff; (repeat' split) <;> simp

@[simp] theorem stu_tariffChange (s : State) : (tariffChange s).stu = s.stu := by
  unfold tariffChange; dsimp only; (repeat' split) <;> simp

@[simp] theorem stu_takePeriod (night : Bool) (elapsed : Nat) (s : State) : (takePeriod night elapsed s).stu = s.stu := by
  unfold takePeriod; (repeat' split) <;> simp

@[simp] theorem stu_tariffContact (now : Bool) (s : State) : (tariffContact now s).stu = s.stu := by
  unfold tariffContact; (repeat' split) <;> simp

@[simp] theorem stu_tariffHeard (night : Bool) (elapsed : Nat) (s : State) : (tariffHeard night elapsed s).stu = s.stu := by
  unfold tariffHeard; dsimp only; (repeat' split) <;> simp

@[simp] theorem stu_tariffCount (s : State) : (tariffCount s).stu = s.stu := by
  unfold tariffCount; dsimp only; (repeat' split) <;> simp

@[simp] theorem stu_nightTimesOut (s : State) : (nightTimesOut s).stu = s.stu := by
  unfold nightTimesOut; dsimp only; (repeat' split) <;> simp

@[simp] theorem stu_standingWishes (s : State) : (standingWishes s).stu = s.stu := by
  unfold standingWishes; dsimp only; (repeat' split) <;> simp

@[simp] theorem stu_sampleWishes (s : State) : (sampleWishes s).stu = s.stu := by
  unfold sampleWishes; dsimp only; (repeat' split) <;> simp

@[simp] theorem stu_selectNow (s : State) : (selectNow s).stu = s.stu := by
  unfold selectNow; dsimp only

@[simp] theorem stu_updateFrostState (s : State) : (updateFrostState s).stu = s.stu := by
  unfold updateFrostState; dsimp only; (repeat' split) <;> simp

@[simp] theorem stu_dropStages (s : State) : (dropStages s).stu = s.stu := by
  unfold dropStages; exact stu_foldl _ (fun t k => by split <;> simp) _ _

@[simp] theorem stu_requestLoad (s : State) : (requestLoad s).stu = s.stu := by
  unfold requestLoad; dsimp only; (repeat' split) <;> simp

@[simp] theorem stu_energiseNext (s : State) : (energiseNext s).stu = s.stu := by
  unfold energiseNext; (repeat' split) <;> simp

@[simp] theorem stu_judgeStarved (s : State) : (judgeStarved s).stu = s.stu := by
  unfold judgeStarved; dsimp only; (repeat' split) <;> simp

@[simp] theorem stu_frostEvaluate (s : State) : (frostEvaluate s).stu = s.stu := by
  unfold frostEvaluate; (repeat' split) <;> simp

@[simp] theorem stu_frostJudge (s : State) : (frostJudge s).stu = s.stu := by
  unfold frostJudge; dsimp only; (repeat' split) <;> simp

@[simp] theorem stu_turnoverWarm (s : State) : (turnoverWarm s).stu = s.stu := by
  unfold turnoverWarm; (repeat' split) <;> simp

@[simp] theorem stu_frostSample (s : State) : (frostSample s).stu = s.stu := by
  unfold frostSample; dsimp only; simp

@[simp] theorem stu_stagnationMinute (s : State) : (stagnationMinute s).stu = s.stu := by
  unfold stagnationMinute; dsimp only

@[simp] theorem stu_stagnationEnds (s : State) : (stagnationEnds s).stu = s.stu := by
  unfold stagnationEnds; dsimp only

@[simp] theorem stu_reportOrders (s : State) : (reportOrders s).stu = s.stu := by
  unfold reportOrders; dsimp only; (repeat' split) <;> simp

@[simp] theorem stu_updateCapacity (s : State) : (updateCapacity s).stu = s.stu := by
  unfold updateCapacity; dsimp only; simp

@[simp] theorem stu_updateSummary (s : State) : (updateSummary s).stu = s.stu := by
  unfold updateSummary; dsimp only; (repeat' split) <;> simp

@[simp] theorem stu_peersChanged (s : State) : (peersChanged s).stu = s.stu := by
  unfold peersChanged; simp

@[simp] theorem stu_hearSender (n : Nat) (role : Role) (s : State) : (hearSender n role s).stu = s.stu := by
  unfold hearSender; simp

@[simp] theorem stu_losePeer (n : Nat) (s : State) : (losePeer n s).stu = s.stu := by
  unfold losePeer; dsimp only; (repeat' split) <;> simp

@[simp] theorem stu_mapTowers (f : Bool → Peer → Peer) (samples : WindowSamples) (s : State) : (mapTowers f samples s).stu = s.stu := by
  unfold mapTowers; dsimp only

@[simp] theorem stu_stoppingResult (samples : WindowSamples) (s : State) : (stoppingResult samples s).stu = s.stu := by
  unfold stoppingResult; simp

@[simp] theorem stu_alarmResult (u : Nat) (samples : WindowSamples) (s : State) : (alarmResult u samples s).stu = s.stu := by
  unfold alarmResult; (repeat' split) <;> simp

@[simp] theorem stu_askAfterFault (s : State) : (askAfterFault s).stu = s.stu := by
  unfold askAfterFault; dsimp only; (repeat' split) <;> simp

@[simp] theorem stu_becomeJoined (s : State) : (becomeJoined s).stu = s.stu := by
  unfold becomeJoined; dsimp only; simp

@[simp] theorem stu_joinIfAnswered (s : State) : (joinIfAnswered s).stu = s.stu := by
  unfold joinIfAnswered; (repeat' split) <;> simp

@[simp] theorem stu_questionDone (q : Question) (s : State) : (questionDone q s).stu = s.stu := by
  unfold questionDone; dsimp only; simp

@[simp] theorem stu_questionWasDropped (q : Question) (s : State) : (questionWasDropped q s).stu = s.stu := by
  unfold questionWasDropped; (repeat' split) <;> simp

@[simp] theorem stu_follow (s : State) : (follow s).stu = s.stu := by
  unfold follow; dsimp only

@[simp] theorem stu_takeOrders (s : State) : (takeOrders s).stu = s.stu := by
  unfold takeOrders; simp

@[simp] theorem stu_takePosition (s : State) : (takePosition s).stu = s.stu := by
  unfold takePosition; dsimp only; (repeat' split) <;> simp

@[simp] theorem stu_pressAck (s : State) : (pressAck s).stu = s.stu := by
  unfold pressAck; simp

@[simp] theorem stu_handSettled (i : ContactInput) (now : Bool) (s : State) : (handSettled i now s).stu = s.stu := by
  unfold handSettled; (repeat' split) <;> simp

@[simp] theorem stu_settleInput (i : ContactInput) (s : State) : (settleInput i s).stu = s.stu := by
  unfold settleInput; dsimp only

@[simp] theorem stu_inputSettles (i : ContactInput) (s : State) : (inputSettles i s).stu = s.stu := by
  unfold inputSettles; simp

@[simp] theorem stu_setRaw (i : ContactInput) (now : Bool) (t : Option Nat) (s : State) : (setRaw i now t s).stu = s.stu := by
  unfold setRaw; dsimp only

@[simp] theorem stu_followPin (i : ContactInput) (s : State) : (followPin i s).stu = s.stu := by
  unfold followPin; dsimp only; (repeat' split) <;> simp

@[simp] theorem stu_readInputs (s : State) : (readInputs s).stu = s.stu := by
  unfold readInputs; dsimp only

@[simp] theorem stu_latchStartUp (i : ContactInput) (s : State) : (latchStartUp i s).stu = s.stu := by
  unfold latchStartUp; (repeat' split) <;> simp

@[simp] theorem stu_stageStartUp (k : Fin 4) (s : State) : (stageStartUp k s).stu = s.stu := by
  unfold stageStartUp; (repeat' split) <;> simp

@[simp] theorem stu_startListening (s : State) : (startListening s).stu = s.stu := by
  unfold startListening; dsimp only

@[simp] theorem stu_startInputs (s : State) : (startInputs s).stu = s.stu := by
  unfold startInputs; dsimp only
  rw [stu_foldl _ (fun t k => by simp), stu_takePosition, stu_foldl _ (fun t k => by simp)]; simp

@[simp] theorem stu_startTariff (s : State) : (startTariff s).stu = s.stu := by
  unfold startTariff; (repeat' split) <;> simp

@[simp] theorem stu_startTrip (s : State) : (startTrip s).stu = s.stu := by
  unfold startTrip; (repeat' split) <;> simp

@[simp] theorem stu_countTable (r : Resource) (s : State) : (countTable r s).stu = s.stu := by
  unfold countTable; simp

@[simp] theorem stu_countClaims (s : State) : (countClaims s).stu = s.stu := by
  unfold countClaims; dsimp only; simp

@[simp] theorem stu_countReport (s : State) : (countReport s).stu = s.stu := by
  unfold countReport; dsimp only

@[simp] theorem stu_countTimers (s : State) : (countTimers s).stu = s.stu := by
  unfold countTimers; dsimp only; simp

@[simp] theorem stu_sampleTaken (s : State) : (sampleTaken s).stu = s.stu := by
  unfold sampleTaken; simp

@[simp] theorem stu_changeRule (s : State) : (changeRule s).stu = s.stu := by
  unfold changeRule; dsimp only; (repeat' split) <;> simp

@[simp] theorem stu_beginQuiet (s : State) : (beginQuiet s).stu = s.stu := by
  unfold beginQuiet; dsimp only

@[simp] theorem stu_beginReceiving (s : State) : (beginReceiving s).stu = s.stu := by
  unfold beginReceiving; dsimp only

@[simp] theorem stu_abandonSending (s : State) : (abandonSending s).stu = s.stu := by
  unfold abandonSending; dsimp only

@[simp] theorem stu_enterSkip (s : State) : (enterSkip s).stu = s.stu := by
  unfold enterSkip; dsimp only

@[simp] theorem stu_discardNotice (s : State) : (discardNotice s).stu = s.stu := by
  unfold discardNotice; dsimp only; (repeat' split) <;> simp

@[simp] theorem stu_cancelHead (item : Outgoing) (s : State) : (cancelHead item s).stu = s.stu := by
  unfold cancelHead; dsimp only; (repeat' split) <;> simp

@[simp] theorem stu_loseEcho (b : Nat) (s : State) : (loseEcho b s).stu = s.stu := by
  unfold loseEcho; dsimp only; simp

@[simp] theorem stu_failDriver (s : State) : (failDriver s).stu = s.stu := by
  unfold failDriver; simp

@[simp] theorem stu_beginRollCall (q : Question) (mine : Bool) (s : State) : (beginRollCall q mine s).stu = s.stu := by
  unfold beginRollCall; dsimp only

@[simp] theorem stu_reportSent (body : List Byte) (s : State) : (reportSent body s).stu = s.stu := by
  unfold reportSent; dsimp only

@[simp] theorem stu_tellSent (o : OnLine) (s : State) : (tellSent o s).stu = s.stu := by
  unfold tellSent; (repeat' split) <;> simp

@[simp] theorem stu_lineAfterSent (o : OnLine) (s : State) : (lineAfterSent o s).stu = s.stu := by
  unfold lineAfterSent; dsimp only; (repeat' split) <;> simp

@[simp] theorem stu_finishSending (s : State) : (finishSending s).stu = s.stu := by
  unfold finishSending; dsimp only; (repeat' split) <;> simp

@[simp] theorem stu_enterLineFault (s : State) : (enterLineFault s).stu = s.stu := by
  unfold enterLineFault; dsimp only; simp

@[simp] theorem stu_leaveLineFault (s : State) : (leaveLineFault s).stu = s.stu := by
  unfold leaveLineFault; dsimp only; simp

@[simp] theorem stu_giveResult (q : Question) (samples : WindowSamples) (s : State) : (giveResult q samples s).stu = s.stu := by
  unfold giveResult; (repeat' split) <;> simp

@[simp] theorem stu_keepSamples (samples : WindowSamples) (s : State) : (keepSamples samples s).stu = s.stu := by
  unfold keepSamples; dsimp only

@[simp] theorem stu_judgeWindow (c : RollCall) (samples : WindowSamples) (s : State) : (judgeWindow c samples s).stu = s.stu := by
  unfold judgeWindow; dsimp only; (repeat' split) <;> simp

@[simp] theorem stu_endWindow (samples : WindowSamples) (s : State) : (endWindow samples s).stu = s.stu := by
  unfold endWindow; dsimp only; (repeat' split) <;> simp

@[simp] theorem stu_endDuplicate (s : State) : (endDuplicate s).stu = s.stu := by
  unfold endDuplicate; dsimp only; simp

@[simp] theorem stu_lineAfterHeard (s : State) : (lineAfterHeard s).stu = s.stu := by
  unfold lineAfterHeard; dsimp only

@[simp] theorem stu_heardUnconfigured (h : Heard) (s : State) : (heardUnconfigured h s).stu = s.stu := by
  unfold heardUnconfigured; (repeat' split) <;> simp

@[simp] theorem stu_beginDuplicate (s : State) : (beginDuplicate s).stu = s.stu := by
  unfold beginDuplicate; simp

@[simp] theorem stu_heardDuplicate (h : Heard) (s : State) : (heardDuplicate h s).stu = s.stu := by
  unfold heardDuplicate; dsimp only; (repeat' split) <;> simp

@[simp] theorem stu_takeAck (target bits : Nat) (faults : Bool) (s : State) : (takeAck target bits faults s).stu = s.stu := by
  unfold takeAck; dsimp only; (repeat' split) <;> simp

@[simp] theorem stu_writePeer (h : Heard) (s : State) : (writePeer h s).stu = s.stu := by
  unfold writePeer; dsimp only; (repeat' split) <;> simp

@[simp] theorem stu_handOn (h : Heard) (s : State) : (handOn h s).stu = s.stu := by
  unfold handOn; (repeat' split) <;> simp

@[simp] theorem stu_heardPeer (h : Heard) (s : State) : (heardPeer h s).stu = s.stu := by
  unfold heardPeer; simp

@[simp] theorem stu_heardValid (h : Heard) (s : State) : (heardValid h s).stu = s.stu := by
  unfold heardValid; (repeat' split) <;> simp

@[simp] theorem stu_noticeCompleted (chars : List Byte) (s : State) : (noticeCompleted chars s).stu = s.stu := by
  unfold noticeCompleted; (repeat' split) <;> simp

@[simp] theorem stu_settlePeer (r : Resource) (n : Nat) (s : State) : (settlePeer r n s).stu = s.stu := by
  unfold settlePeer; simp

@[simp] theorem stu_endListening (s : State) : (endListening s).stu = s.stu := by
  unfold endListening; dsimp only; simp

@[simp] theorem stu_endAnswering (s : State) : (endAnswering s).stu = s.stu := by
  unfold endAnswering; dsimp only; (repeat' split) <;> simp

@[simp] theorem stu_learnStep (s : State) : (learnStep s).stu = s.stu := by
  unfold learnStep; dsimp only

@[simp] theorem stu_fillMinute (s : State) : (fillMinute s).stu = s.stu := by
  unfold fillMinute; dsimp only; (repeat' split) <;> simp

@[simp] theorem stu_markJobs (s : State) : (markJobs s).stu = s.stu := by
  unfold markJobs; simp

@[simp] theorem stu_startSending (e : QueueEntry) (s : State) : (startSending e s).stu = s.stu := by
  unfold startSending; dsimp only


end Sys2Proof.Machine
end

