-- ==== Sys2Proof/Laws/Numbers.lean ====
section
/-! SUPPORT. What the operations on numbers, bytes and the strap table can answer. -/

namespace Sys2Proof.Machine

/-! ### Clamping and saturating -/

theorem clampTo_mem {lo hi : Int} (h : lo ≤ hi) (x : Int) : lo ≤ clampTo lo hi x ∧ clampTo lo hi x ≤ hi := by
  unfold clampTo; omega

theorem clampTo_of_mem {lo hi x : Int} (h : lo ≤ x) (k : x ≤ hi) : clampTo lo hi x = x := by unfold clampTo; omega

theorem satSucc_le (top n : Nat) : satSucc top n ≤ top := by unfold satSucc; omega

theorem satSucc_of_lt {top n : Nat} (h : n < top) : satSucc top n = n + 1 := by unfold satSucc; omega

/-! ### Division -/

/-- The quotient toward negative infinity: the largest q with q b ≤ a. -/
theorem floorDiv_spec (a : Int) {b : Int} (h : 0 < b) : floorDiv a b * b ≤ a ∧ a < (floorDiv a b + 1) * b := by
  unfold floorDiv
  have e := Int.emod_add_mul_ediv a b
  have lt := Int.emod_lt_of_pos a h
  have ge := Int.emod_nonneg a (by omega : b ≠ 0)
  have c := Int.mul_comm b (a / b)
  rw [Int.add_mul]
  omega

/-- The quotient toward positive infinity: the least q with a ≤ q b. -/
theorem ceilDiv_spec (a : Int) {b : Int} (h : 0 < b) : (ceilDiv a b - 1) * b < a ∧ a ≤ ceilDiv a b * b := by
  have k := floorDiv_spec (-a) h
  unfold floorDiv at k
  unfold ceilDiv
  rw [Int.sub_mul, Int.neg_mul]
  rw [Int.add_mul] at k
  omega

/-! ### Bytes and bits -/

@[simp] theorem bytesOf_length (k n : Nat) : (bytesOf k n).length = k := by
  induction k with
  | zero => rfl
  | succ k ih => simp [bytesOf, ih]

theorem bitsToNat_lt (l : List Bool) : bitsToNat l < 2 ^ l.length := by
  induction l with
  | nil => simp [bitsToNat]
  | cons b l ih =>
    simp only [bitsToNat, List.length_cons, Nat.pow_succ]
    cases b <;> simp <;> omega

theorem lowBits_lt (k : Nat) (x : Int) : lowBits k x < 2 ^ k := by
  unfold lowBits
  have : (0 : Int) < (2 ^ k : Nat) := by exact_mod_cast Nat.two_pow_pos k
  have ge := Int.emod_nonneg x (by omega : ((2 ^ k : Nat) : Int) ≠ 0)
  have lt := Int.emod_lt_of_pos x this
  omega

/-! ### Cancelling at win-time -/

theorem cancelled_of_ne_claim {item : Outgoing} (h : isClaim item = false) (u : Nat) (s : State) : cancelled item u s = false := by
  cases item <;> first | rfl | cases h

end Sys2Proof.Machine
end

