-- ==== Sys2Proof/Laws/PerInstr.lean ====
section
/-! SUPPORT. Laws made once for each command. -/

namespace Sys2Proof.Laws

/-- No word of any width spells the command: no row of the table gives bits (log 33). -/
def Unspelled.Statement (i : Instr) : Prop := ∀ nbits w : Nat, decodeTableWord nbits w ≠ some i

/-- Nothing is spelled at all. -/
theorem decodeTableWord_none (nbits w : Nat) : decodeTableWord nbits w = none := rfl

theorem Unspelled.powerOnReset : Unspelled.Statement (.powerOnReset) := by
  intro nbits w; simp [decodeTableWord_none]

theorem Unspelled.externalReset : Unspelled.Statement (.externalReset) := by
  intro nbits w; simp [decodeTableWord_none]

theorem Unspelled.loadAttemptDone (block : List Byte) : Unspelled.Statement (.loadAttemptDone block) := by
  intro nbits w; simp [decodeTableWord_none]

theorem Unspelled.retryWaitExpiry : Unspelled.Statement (.retryWaitExpiry) := by
  intro nbits w; simp [decodeTableWord_none]

theorem Unspelled.secondEvent (p tw tr ta : AnalogCode) : Unspelled.Statement (.secondEvent p tw tr ta) := by
  intro nbits w; simp [decodeTableWord_none]

theorem Unspelled.minuteMark : Unspelled.Statement (.minuteMark) := by
  intro nbits w; simp [decodeTableWord_none]

theorem Unspelled.rawInputChange (input : ContactInput) (closed : Bool) : Unspelled.Statement (.rawInputChange input closed) := by
  intro nbits w; simp [decodeTableWord_none]

theorem Unspelled.inputSettled (input : ContactInput) : Unspelled.Statement (.inputSettled input) := by
  intro nbits w; simp [decodeTableWord_none]

theorem Unspelled.proofTimerExpiry (stage : Fin 4) : Unspelled.Statement (.proofTimerExpiry stage) := by
  intro nbits w; simp [decodeTableWord_none]

theorem Unspelled.quietReached : Unspelled.Statement (.quietReached) := by
  intro nbits w; simp [decodeTableWord_none]

theorem Unspelled.winTime (slot : Nat) : Unspelled.Statement (.winTime slot) := by
  intro nbits w; simp [decodeTableWord_none]

theorem Unspelled.echoConflict (bit : Nat) : Unspelled.Statement (.echoConflict bit) := by
  intro nbits w; simp [decodeTableWord_none]

theorem Unspelled.driverFailure (bit : Nat) : Unspelled.Statement (.driverFailure bit) := by
  intro nbits w; simp [decodeTableWord_none]

theorem Unspelled.noticeSent : Unspelled.Statement (.noticeSent) := by
  intro nbits w; simp [decodeTableWord_none]

theorem Unspelled.noticeHeard (chars : List Byte) : Unspelled.Statement (.noticeHeard chars) := by
  intro nbits w; simp [decodeTableWord_none]

theorem Unspelled.noticeDiscarded (cause : DiscardCause) : Unspelled.Statement (.noticeDiscarded cause) := by
  intro nbits w; simp [decodeTableWord_none]

theorem Unspelled.dupTimerExpiry : Unspelled.Statement (.dupTimerExpiry) := by
  intro nbits w; simp [decodeTableWord_none]

theorem Unspelled.lineFaultEntry : Unspelled.Statement (.lineFaultEntry) := by
  intro nbits w; simp [decodeTableWord_none]

theorem Unspelled.lineFaultExit : Unspelled.Statement (.lineFaultExit) := by
  intro nbits w; simp [decodeTableWord_none]

theorem Unspelled.answerWaitEnd : Unspelled.Statement (.answerWaitEnd) := by
  intro nbits w; simp [decodeTableWord_none]

theorem Unspelled.windowEnd (samples : WindowSamples) : Unspelled.Statement (.windowEnd samples) := by
  intro nbits w; simp [decodeTableWord_none]

theorem Unspelled.peerLost (station : Nat) : Unspelled.Statement (.peerLost station) := by
  intro nbits w; simp [decodeTableWord_none]

theorem Unspelled.tariffNightTimeout : Unspelled.Statement (.tariffNightTimeout) := by
  intro nbits w; simp [decodeTableWord_none]

theorem Unspelled.peerSettleExpiry (station : Nat) (resource : Resource) : Unspelled.Statement (.peerSettleExpiry station resource) := by
  intro nbits w; simp [decodeTableWord_none]

theorem Unspelled.entryAgedOut (station : Nat) (resource : Resource) : Unspelled.Statement (.entryAgedOut station resource) := by
  intro nbits w; simp [decodeTableWord_none]

theorem Unspelled.ownSettleExpiry (resource : Resource) : Unspelled.Statement (.ownSettleExpiry resource) := by
  intro nbits w; simp [decodeTableWord_none]

theorem Unspelled.refreshLead (resource : Resource) : Unspelled.Statement (.refreshLead resource) := by
  intro nbits w; simp [decodeTableWord_none]

theorem Unspelled.refreshTime (resource : Resource) : Unspelled.Statement (.refreshTime resource) := by
  intro nbits w; simp [decodeTableWord_none]

theorem Unspelled.incompleteTimerExpiry (resource : Resource) : Unspelled.Statement (.incompleteTimerExpiry resource) := by
  intro nbits w; simp [decodeTableWord_none]

theorem Unspelled.listeningTimerExpiry : Unspelled.Statement (.listeningTimerExpiry) := by
  intro nbits w; simp [decodeTableWord_none]

theorem Unspelled.answerTimerExpiry : Unspelled.Statement (.answerTimerExpiry) := by
  intro nbits w; simp [decodeTableWord_none]

theorem Unspelled.openTimerExpiry : Unspelled.Statement (.openTimerExpiry) := by
  intro nbits w; simp [decodeTableWord_none]

theorem Unspelled.clearingTimerExpiry : Unspelled.Statement (.clearingTimerExpiry) := by
  intro nbits w; simp [decodeTableWord_none]

theorem Unspelled.strokeTimerExpiry : Unspelled.Statement (.strokeTimerExpiry) := by
  intro nbits w; simp [decodeTableWord_none]

theorem Unspelled.confirmTimerExpiry : Unspelled.Statement (.confirmTimerExpiry) := by
  intro nbits w; simp [decodeTableWord_none]

theorem Unspelled.stagnationPeriodEnd : Unspelled.Statement (.stagnationPeriodEnd) := by
  intro nbits w; simp [decodeTableWord_none]

theorem Unspelled.reportTimerDue : Unspelled.Statement (.reportTimerDue) := by
  intro nbits w; simp [decodeTableWord_none]

theorem Unspelled.startBitFromAnotherStation : Unspelled.Statement (.startBitFromAnotherStation) := by
  intro nbits w; simp [decodeTableWord_none]

theorem Unspelled.resetPinReturnsHigh : Unspelled.Statement (.resetPinReturnsHigh) := by
  intro nbits w; simp [decodeTableWord_none]

end Sys2Proof.Laws
end

