-- ==== Sys2Proof/Laws/Rest.lean ====
section
/-! SUPPORT. Why an event comes to rest: a budget of the hand-ons still to come, and that nothing is left handed on where each hand-on taken
lowers it. -/

namespace Sys2Proof.Machine

/-! ### What an evaluation of the frost controller would still do -/

/-- The state as an evaluation sees it before its drops: wishes, selection and frost state anew (R148 to R150). -/
def evaluationView (s : State) : State :=
  let x := selectNow (standingWishes s)
  { x with frc := { x.frc with state := frostStateNow x } }

/-- The stages an evaluation would drop (R153). -/
def dropsDue (s : State) : Nat :=
  (allStages.filter (fun k => (stageAt k s).command && !(keptStages (evaluationView s)).contains k)).length

/-- The stages not commanded ON: each energising takes one of them (R154). -/
def idleStages (s : State) : Nat := (allStages.filter (fun k => !(stageAt k s).command)).length

/-- An evaluation would ask for another amount or urgency (R151). -/
def askStale (s : State) : Bool :=
  let x := evaluationView s
  s.frc.asked != (if x.frc.required = 0 then none else some (min 255 x.frc.required, desiredUrgency x))

/-- An evaluation would change the frost state (R148). -/
def frostStale (s : State) : Bool := s.frc.state != (evaluationView s).frc.state

/-- An evaluation would change the starved flag at the present covered amount (R155). -/
def starvedStale (s : State) : Bool :=
  let x := evaluationView s
  s.frc.starved != (!localAuthority x && decide (coveredAmount s < x.frc.required))

/-! ### The budget -/

/-- A hand-on's own part: an orders change replans and queues, a re-examination may announce. -/
def HandOn.cost : HandOn → Nat
  | .orders => 60
  | .reexamine _ => 3
  | _ => 1

/-- What the frost controller may still hand on. -/
def frostBudget (s : State) : Nat :=
  2 * idleStages s + 5 * dropsDue s + 40 * (askStale s).toNat + 30 * (frostStale s).toNat + 2 * (starvedStale s).toNat

/-- What the loss of an own claim, or of its raise, may still hand on (R88, R91, R92). -/
def lossBudget (r : Resource) (s : State) : Nat :=
  40 * ((own r s).state == .settling || (own r s).state == .held).toNat +
    8 * (((own r s).raise.map Raise.phase) == some .settling).toNat

/-- The budget of an event: its hand-ons, the orders changes that R172 still allows, a joining that may end, the questions that
wait, and what the frost controller and the own claims may still hand on. -/
def restBudget (s : State) : Nat :=
  (s.handOns.map HandOn.cost).sum + 180 * (2 - s.stu.changeCount) + 100 * (s.sld.mode == .joining).toNat +
    4 * s.clu.questions.length + frostBudget s + lossBudget .supply s + lossBudget .load s

/-! ### Coming to rest -/

/-- Each hand-on taken lowers the budget. -/
def HandOnsLower : Prop :=
  ∀ (s : State) (h : HandOn) (rest : List HandOn), s.handOns = h :: rest →
    restBudget (follow (takeHandOn h { s with handOns := rest })) < restBudget s

/-- Where each hand-on lowers the budget, no more of them than the budget are taken. -/
theorem takeHandOns_settles (low : HandOnsLower) (n : Nat) (s : State) (b : restBudget s ≤ n) : Settled (takeHandOns n s) := by
  induction n generalizing s with
  | zero =>
    unfold takeHandOns Settled
    cases e : s.handOns with
    | nil => rfl
    | cons h rest => exact absurd (low s h rest e) (by omega)
  | succ n ih =>
    unfold takeHandOns
    split
    · assumption
    · rename_i h rest e
      exact ih _ (by have := low s h rest e; omega)

/-- An event whose own effect leaves a budget within the bound comes to rest. -/
theorem event_settles (low : HandOnsLower) (f : State → State) (s : State)
    (b : restBudget (follow (f (beginEvent s))) ≤ Config.handOnBound) : Settled (event f s) :=
  takeHandOns_settles low _ _ b

end Sys2Proof.Machine
end

