-- ==== Sys2Proof/Laws/State.lean ====
section
/-! SUPPORT. One lemma for each field of the state and each named update: the field after the update. -/

namespace Sys2Proof.Machine


/-! ### emit -/

@[simp] theorem emit_pending (h : HandOn) (s : State) : (emit h s).pending = s.pending := rfl
@[simp] theorem emit_pins (h : HandOn) (s : State) : (emit h s).pins = s.pins := rfl
@[simp] theorem emit_resetLow (h : HandOn) (s : State) : (emit h s).resetLow = s.resetLow := rfl
@[simp] theorem emit_bodiesFilled (h : HandOn) (s : State) : (emit h s).bodiesFilled = s.bodiesFilled := rfl
@[simp] theorem emit_handOns (h : HandOn) (s : State) : (emit h s).handOns = s.handOns ++ [h] := rfl
@[simp] theorem emit_sld (h : HandOn) (s : State) : (emit h s).sld = s.sld := rfl
@[simp] theorem emit_msu (h : HandOn) (s : State) : (emit h s).msu = s.msu := rfl
@[simp] theorem emit_ilu (h : HandOn) (s : State) : (emit h s).ilu = s.ilu := rfl
@[simp] theorem emit_odu (h : HandOn) (s : State) : (emit h s).odu = s.odu := rfl
@[simp] theorem emit_lnu (h : HandOn) (s : State) : (emit h s).lnu = s.lnu := rfl
@[simp] theorem emit_ptb (h : HandOn) (s : State) : (emit h s).ptb = s.ptb := rfl
@[simp] theorem emit_clu (h : HandOn) (s : State) : (emit h s).clu = s.clu := rfl
@[simp] theorem emit_flc (h : HandOn) (s : State) : (emit h s).flc = s.flc := rfl
@[simp] theorem emit_ogu (h : HandOn) (s : State) : (emit h s).ogu = s.ogu := rfl
@[simp] theorem emit_frc (h : HandOn) (s : State) : (emit h s).frc = s.frc := rfl
@[simp] theorem emit_stu (h : HandOn) (s : State) : (emit h s).stu = s.stu := rfl
@[simp] theorem emit_rpu (h : HandOn) (s : State) : (emit h s).rpu = s.rpu := rfl
@[simp] theorem emit_ftu (h : HandOn) (s : State) : (emit h s).ftu = s.ftu := rfl

/-! ### setStage -/

@[simp] theorem setStage_pending (k : Fin 4) (x : Stage) (s : State) : (setStage k x s).pending = s.pending := rfl
@[simp] theorem setStage_pins (k : Fin 4) (x : Stage) (s : State) : (setStage k x s).pins = s.pins := rfl
@[simp] theorem setStage_resetLow (k : Fin 4) (x : Stage) (s : State) : (setStage k x s).resetLow = s.resetLow := rfl
@[simp] theorem setStage_bodiesFilled (k : Fin 4) (x : Stage) (s : State) :
    (setStage k x s).bodiesFilled = s.bodiesFilled := rfl
@[simp] theorem setStage_handOns (k : Fin 4) (x : Stage) (s : State) : (setStage k x s).handOns = s.handOns := rfl
@[simp] theorem setStage_sld (k : Fin 4) (x : Stage) (s : State) : (setStage k x s).sld = s.sld := rfl
@[simp] theorem setStage_msu (k : Fin 4) (x : Stage) (s : State) : (setStage k x s).msu = s.msu := rfl
@[simp] theorem setStage_ilu (k : Fin 4) (x : Stage) (s : State) : (setStage k x s).ilu = s.ilu := rfl
@[simp] theorem setStage_odu (k : Fin 4) (x : Stage) (s : State) :
    (setStage k x s).odu = { s.odu with stages := put s.odu.stages k x } := rfl
@[simp] theorem setStage_lnu (k : Fin 4) (x : Stage) (s : State) : (setStage k x s).lnu = s.lnu := rfl
@[simp] theorem setStage_ptb (k : Fin 4) (x : Stage) (s : State) : (setStage k x s).ptb = s.ptb := rfl
@[simp] theorem setStage_clu (k : Fin 4) (x : Stage) (s : State) : (setStage k x s).clu = s.clu := rfl
@[simp] theorem setStage_flc (k : Fin 4) (x : Stage) (s : State) : (setStage k x s).flc = s.flc := rfl
@[simp] theorem setStage_ogu (k : Fin 4) (x : Stage) (s : State) : (setStage k x s).ogu = s.ogu := rfl
@[simp] theorem setStage_frc (k : Fin 4) (x : Stage) (s : State) : (setStage k x s).frc = s.frc := rfl
@[simp] theorem setStage_stu (k : Fin 4) (x : Stage) (s : State) : (setStage k x s).stu = s.stu := rfl
@[simp] theorem setStage_rpu (k : Fin 4) (x : Stage) (s : State) : (setStage k x s).rpu = s.rpu := rfl
@[simp] theorem setStage_ftu (k : Fin 4) (x : Stage) (s : State) : (setStage k x s).ftu = s.ftu := rfl

/-! ### setPeer -/

@[simp] theorem setPeer_pending (n : Nat) (p : Peer) (s : State) :
    (setPeer n p s).pending = s.pending := by unfold setPeer; split <;> rfl
@[simp] theorem setPeer_pins (n : Nat) (p : Peer) (s : State) :
    (setPeer n p s).pins = s.pins := by unfold setPeer; split <;> rfl
@[simp] theorem setPeer_resetLow (n : Nat) (p : Peer) (s : State) :
    (setPeer n p s).resetLow = s.resetLow := by unfold setPeer; split <;> rfl
@[simp] theorem setPeer_bodiesFilled (n : Nat) (p : Peer) (s : State) :
    (setPeer n p s).bodiesFilled = s.bodiesFilled := by unfold setPeer; split <;> rfl
@[simp] theorem setPeer_handOns (n : Nat) (p : Peer) (s : State) :
    (setPeer n p s).handOns = s.handOns := by unfold setPeer; split <;> rfl
@[simp] theorem setPeer_sld (n : Nat) (p : Peer) (s : State) :
    (setPeer n p s).sld = s.sld := by unfold setPeer; split <;> rfl
@[simp] theorem setPeer_msu (n : Nat) (p : Peer) (s : State) :
    (setPeer n p s).msu = s.msu := by unfold setPeer; split <;> rfl
@[simp] theorem setPeer_ilu (n : Nat) (p : Peer) (s : State) :
    (setPeer n p s).ilu = s.ilu := by unfold setPeer; split <;> rfl
@[simp] theorem setPeer_odu (n : Nat) (p : Peer) (s : State) :
    (setPeer n p s).odu = s.odu := by unfold setPeer; split <;> rfl
@[simp] theorem setPeer_lnu (n : Nat) (p : Peer) (s : State) :
    (setPeer n p s).lnu = s.lnu := by unfold setPeer; split <;> rfl
@[simp] theorem setPeer_clu (n : Nat) (p : Peer) (s : State) :
    (setPeer n p s).clu = s.clu := by unfold setPeer; split <;> rfl
@[simp] theorem setPeer_flc (n : Nat) (p : Peer) (s : State) :
    (setPeer n p s).flc = s.flc := by unfold setPeer; split <;> rfl
@[simp] theorem setPeer_ogu (n : Nat) (p : Peer) (s : State) :
    (setPeer n p s).ogu = s.ogu := by unfold setPeer; split <;> rfl
@[simp] theorem setPeer_frc (n : Nat) (p : Peer) (s : State) :
    (setPeer n p s).frc = s.frc := by unfold setPeer; split <;> rfl
@[simp] theorem setPeer_stu (n : Nat) (p : Peer) (s : State) :
    (setPeer n p s).stu = s.stu := by unfold setPeer; split <;> rfl
@[simp] theorem setPeer_rpu (n : Nat) (p : Peer) (s : State) :
    (setPeer n p s).rpu = s.rpu := by unfold setPeer; split <;> rfl
@[simp] theorem setPeer_ftu (n : Nat) (p : Peer) (s : State) :
    (setPeer n p s).ftu = s.ftu := by unfold setPeer; split <;> rfl

/-! ### setOwn -/

@[simp] theorem setOwn_pending (r : Resource) (c : OwnClaim) (s : State) :
    (setOwn r c s).pending = s.pending := by cases r <;> rfl
@[simp] theorem setOwn_pins (r : Resource) (c : OwnClaim) (s : State) :
    (setOwn r c s).pins = s.pins := by cases r <;> rfl
@[simp] theorem setOwn_resetLow (r : Resource) (c : OwnClaim) (s : State) :
    (setOwn r c s).resetLow = s.resetLow := by cases r <;> rfl
@[simp] theorem setOwn_bodiesFilled (r : Resource) (c : OwnClaim) (s : State) :
    (setOwn r c s).bodiesFilled = s.bodiesFilled := by cases r <;> rfl
@[simp] theorem setOwn_handOns (r : Resource) (c : OwnClaim) (s : State) :
    (setOwn r c s).handOns = s.handOns := by cases r <;> rfl
@[simp] theorem setOwn_sld (r : Resource) (c : OwnClaim) (s : State) :
    (setOwn r c s).sld = s.sld := by cases r <;> rfl
@[simp] theorem setOwn_msu (r : Resource) (c : OwnClaim) (s : State) :
    (setOwn r c s).msu = s.msu := by cases r <;> rfl
@[simp] theorem setOwn_ilu (r : Resource) (c : OwnClaim) (s : State) :
    (setOwn r c s).ilu = s.ilu := by cases r <;> rfl
@[simp] theorem setOwn_odu (r : Resource) (c : OwnClaim) (s : State) :
    (setOwn r c s).odu = s.odu := by cases r <;> rfl
@[simp] theorem setOwn_lnu (r : Resource) (c : OwnClaim) (s : State) :
    (setOwn r c s).lnu = s.lnu := by cases r <;> rfl
@[simp] theorem setOwn_ptb (r : Resource) (c : OwnClaim) (s : State) :
    (setOwn r c s).ptb = s.ptb := by cases r <;> rfl
@[simp] theorem setOwn_flc (r : Resource) (c : OwnClaim) (s : State) :
    (setOwn r c s).flc = s.flc := by cases r <;> rfl
@[simp] theorem setOwn_ogu (r : Resource) (c : OwnClaim) (s : State) :
    (setOwn r c s).ogu = s.ogu := by cases r <;> rfl
@[simp] theorem setOwn_frc (r : Resource) (c : OwnClaim) (s : State) :
    (setOwn r c s).frc = s.frc := by cases r <;> rfl
@[simp] theorem setOwn_stu (r : Resource) (c : OwnClaim) (s : State) :
    (setOwn r c s).stu = s.stu := by cases r <;> rfl
@[simp] theorem setOwn_rpu (r : Resource) (c : OwnClaim) (s : State) :
    (setOwn r c s).rpu = s.rpu := by cases r <;> rfl
@[simp] theorem setOwn_ftu (r : Resource) (c : OwnClaim) (s : State) :
    (setOwn r c s).ftu = s.ftu := by cases r <;> rfl

/-! ### setTable -/

@[simp] theorem setTable_pending (r : Resource) (x : Vector (Option Holding) 24) (s : State) :
    (setTable r x s).pending = s.pending := by cases r <;> rfl
@[simp] theorem setTable_pins (r : Resource) (x : Vector (Option Holding) 24) (s : State) :
    (setTable r x s).pins = s.pins := by cases r <;> rfl
@[simp] theorem setTable_resetLow (r : Resource) (x : Vector (Option Holding) 24) (s : State) :
    (setTable r x s).resetLow = s.resetLow := by cases r <;> rfl
@[simp] theorem setTable_bodiesFilled (r : Resource) (x : Vector (Option Holding) 24) (s : State) :
    (setTable r x s).bodiesFilled = s.bodiesFilled := by cases r <;> rfl
@[simp] theorem setTable_handOns (r : Resource) (x : Vector (Option Holding) 24) (s : State) :
    (setTable r x s).handOns = s.handOns := by cases r <;> rfl
@[simp] theorem setTable_sld (r : Resource) (x : Vector (Option Holding) 24) (s : State) :
    (setTable r x s).sld = s.sld := by cases r <;> rfl
@[simp] theorem setTable_msu (r : Resource) (x : Vector (Option Holding) 24) (s : State) :
    (setTable r x s).msu = s.msu := by cases r <;> rfl
@[simp] theorem setTable_ilu (r : Resource) (x : Vector (Option Holding) 24) (s : State) :
    (setTable r x s).ilu = s.ilu := by cases r <;> rfl
@[simp] theorem setTable_odu (r : Resource) (x : Vector (Option Holding) 24) (s : State) :
    (setTable r x s).odu = s.odu := by cases r <;> rfl
@[simp] theorem setTable_lnu (r : Resource) (x : Vector (Option Holding) 24) (s : State) :
    (setTable r x s).lnu = s.lnu := by cases r <;> rfl
@[simp] theorem setTable_ptb (r : Resource) (x : Vector (Option Holding) 24) (s : State) :
    (setTable r x s).ptb = s.ptb := by cases r <;> rfl
@[simp] theorem setTable_flc (r : Resource) (x : Vector (Option Holding) 24) (s : State) :
    (setTable r x s).flc = s.flc := by cases r <;> rfl
@[simp] theorem setTable_ogu (r : Resource) (x : Vector (Option Holding) 24) (s : State) :
    (setTable r x s).ogu = s.ogu := by cases r <;> rfl
@[simp] theorem setTable_frc (r : Resource) (x : Vector (Option Holding) 24) (s : State) :
    (setTable r x s).frc = s.frc := by cases r <;> rfl
@[simp] theorem setTable_stu (r : Resource) (x : Vector (Option Holding) 24) (s : State) :
    (setTable r x s).stu = s.stu := by cases r <;> rfl
@[simp] theorem setTable_rpu (r : Resource) (x : Vector (Option Holding) 24) (s : State) :
    (setTable r x s).rpu = s.rpu := by cases r <;> rfl
@[simp] theorem setTable_ftu (r : Resource) (x : Vector (Option Holding) 24) (s : State) :
    (setTable r x s).ftu = s.ftu := by cases r <;> rfl

/-! ### setEntry -/

@[simp] theorem setEntry_pending (r : Resource) (n : Nat) (e : Option Holding) (s : State) :
    (setEntry r n e s).pending = s.pending := by unfold setEntry; split <;> cases r <;> rfl
@[simp] theorem setEntry_pins (r : Resource) (n : Nat) (e : Option Holding) (s : State) :
    (setEntry r n e s).pins = s.pins := by unfold setEntry; split <;> cases r <;> rfl
@[simp] theorem setEntry_resetLow (r : Resource) (n : Nat) (e : Option Holding) (s : State) :
    (setEntry r n e s).resetLow = s.resetLow := by unfold setEntry; split <;> cases r <;> rfl
@[simp] theorem setEntry_bodiesFilled (r : Resource) (n : Nat) (e : Option Holding) (s : State) :
    (setEntry r n e s).bodiesFilled = s.bodiesFilled := by unfold setEntry; split <;> cases r <;> rfl
@[simp] theorem setEntry_handOns (r : Resource) (n : Nat) (e : Option Holding) (s : State) :
    (setEntry r n e s).handOns = s.handOns := by unfold setEntry; split <;> cases r <;> rfl
@[simp] theorem setEntry_sld (r : Resource) (n : Nat) (e : Option Holding) (s : State) :
    (setEntry r n e s).sld = s.sld := by unfold setEntry; split <;> cases r <;> rfl
@[simp] theorem setEntry_msu (r : Resource) (n : Nat) (e : Option Holding) (s : State) :
    (setEntry r n e s).msu = s.msu := by unfold setEntry; split <;> cases r <;> rfl
@[simp] theorem setEntry_ilu (r : Resource) (n : Nat) (e : Option Holding) (s : State) :
    (setEntry r n e s).ilu = s.ilu := by unfold setEntry; split <;> cases r <;> rfl
@[simp] theorem setEntry_odu (r : Resource) (n : Nat) (e : Option Holding) (s : State) :
    (setEntry r n e s).odu = s.odu := by unfold setEntry; split <;> cases r <;> rfl
@[simp] theorem setEntry_lnu (r : Resource) (n : Nat) (e : Option Holding) (s : State) :
    (setEntry r n e s).lnu = s.lnu := by unfold setEntry; split <;> cases r <;> rfl
@[simp] theorem setEntry_ptb (r : Resource) (n : Nat) (e : Option Holding) (s : State) :
    (setEntry r n e s).ptb = s.ptb := by unfold setEntry; split <;> cases r <;> rfl
@[simp] theorem setEntry_flc (r : Resource) (n : Nat) (e : Option Holding) (s : State) :
    (setEntry r n e s).flc = s.flc := by unfold setEntry; split <;> cases r <;> rfl
@[simp] theorem setEntry_ogu (r : Resource) (n : Nat) (e : Option Holding) (s : State) :
    (setEntry r n e s).ogu = s.ogu := by unfold setEntry; split <;> cases r <;> rfl
@[simp] theorem setEntry_frc (r : Resource) (n : Nat) (e : Option Holding) (s : State) :
    (setEntry r n e s).frc = s.frc := by unfold setEntry; split <;> cases r <;> rfl
@[simp] theorem setEntry_stu (r : Resource) (n : Nat) (e : Option Holding) (s : State) :
    (setEntry r n e s).stu = s.stu := by unfold setEntry; split <;> cases r <;> rfl
@[simp] theorem setEntry_rpu (r : Resource) (n : Nat) (e : Option Holding) (s : State) :
    (setEntry r n e s).rpu = s.rpu := by unfold setEntry; split <;> cases r <;> rfl
@[simp] theorem setEntry_ftu (r : Resource) (n : Nat) (e : Option Holding) (s : State) :
    (setEntry r n e s).ftu = s.ftu := by unfold setEntry; split <;> cases r <;> rfl

/-! ### setIncompleteTimer -/

@[simp] theorem setIncompleteTimer_pending (r : Resource) (x : Option Nat) (s : State) :
    (setIncompleteTimer r x s).pending = s.pending := by cases r <;> rfl
@[simp] theorem setIncompleteTimer_pins (r : Resource) (x : Option Nat) (s : State) :
    (setIncompleteTimer r x s).pins = s.pins := by cases r <;> rfl
@[simp] theorem setIncompleteTimer_resetLow (r : Resource) (x : Option Nat) (s : State) :
    (setIncompleteTimer r x s).resetLow = s.resetLow := by cases r <;> rfl
@[simp] theorem setIncompleteTimer_bodiesFilled (r : Resource) (x : Option Nat) (s : State) :
    (setIncompleteTimer r x s).bodiesFilled = s.bodiesFilled := by cases r <;> rfl
@[simp] theorem setIncompleteTimer_handOns (r : Resource) (x : Option Nat) (s : State) :
    (setIncompleteTimer r x s).handOns = s.handOns := by cases r <;> rfl
@[simp] theorem setIncompleteTimer_sld (r : Resource) (x : Option Nat) (s : State) :
    (setIncompleteTimer r x s).sld = s.sld := by cases r <;> rfl
@[simp] theorem setIncompleteTimer_msu (r : Resource) (x : Option Nat) (s : State) :
    (setIncompleteTimer r x s).msu = s.msu := by cases r <;> rfl
@[simp] theorem setIncompleteTimer_ilu (r : Resource) (x : Option Nat) (s : State) :
    (setIncompleteTimer r x s).ilu = s.ilu := by cases r <;> rfl
@[simp] theorem setIncompleteTimer_odu (r : Resource) (x : Option Nat) (s : State) :
    (setIncompleteTimer r x s).odu = s.odu := by cases r <;> rfl
@[simp] theorem setIncompleteTimer_lnu (r : Resource) (x : Option Nat) (s : State) :
    (setIncompleteTimer r x s).lnu = s.lnu := by cases r <;> rfl
@[simp] theorem setIncompleteTimer_ptb (r : Resource) (x : Option Nat) (s : State) :
    (setIncompleteTimer r x s).ptb = s.ptb := by cases r <;> rfl
@[simp] theorem setIncompleteTimer_flc (r : Resource) (x : Option Nat) (s : State) :
    (setIncompleteTimer r x s).flc = s.flc := by cases r <;> rfl
@[simp] theorem setIncompleteTimer_ogu (r : Resource) (x : Option Nat) (s : State) :
    (setIncompleteTimer r x s).ogu = s.ogu := by cases r <;> rfl
@[simp] theorem setIncompleteTimer_frc (r : Resource) (x : Option Nat) (s : State) :
    (setIncompleteTimer r x s).frc = s.frc := by cases r <;> rfl
@[simp] theorem setIncompleteTimer_stu (r : Resource) (x : Option Nat) (s : State) :
    (setIncompleteTimer r x s).stu = s.stu := by cases r <;> rfl
@[simp] theorem setIncompleteTimer_rpu (r : Resource) (x : Option Nat) (s : State) :
    (setIncompleteTimer r x s).rpu = s.rpu := by cases r <;> rfl
@[simp] theorem setIncompleteTimer_ftu (r : Resource) (x : Option Nat) (s : State) :
    (setIncompleteTimer r x s).ftu = s.ftu := by cases r <;> rfl

/-! ### setPin -/

@[simp] theorem setPin_pending (i : ContactInput) (b : Bool) (s : State) : (setPin i b s).pending = s.pending := rfl
@[simp] theorem setPin_pins (i : ContactInput) (b : Bool) (s : State) :
    (setPin i b s).pins = put s.pins (inputIndex i) b := rfl
@[simp] theorem setPin_resetLow (i : ContactInput) (b : Bool) (s : State) :
    (setPin i b s).resetLow = s.resetLow := rfl
@[simp] theorem setPin_bodiesFilled (i : ContactInput) (b : Bool) (s : State) :
    (setPin i b s).bodiesFilled = s.bodiesFilled := rfl
@[simp] theorem setPin_handOns (i : ContactInput) (b : Bool) (s : State) : (setPin i b s).handOns = s.handOns := rfl
@[simp] theorem setPin_sld (i : ContactInput) (b : Bool) (s : State) : (setPin i b s).sld = s.sld := rfl
@[simp] theorem setPin_msu (i : ContactInput) (b : Bool) (s : State) : (setPin i b s).msu = s.msu := rfl
@[simp] theorem setPin_ilu (i : ContactInput) (b : Bool) (s : State) : (setPin i b s).ilu = s.ilu := rfl
@[simp] theorem setPin_odu (i : ContactInput) (b : Bool) (s : State) : (setPin i b s).odu = s.odu := rfl
@[simp] theorem setPin_lnu (i : ContactInput) (b : Bool) (s : State) : (setPin i b s).lnu = s.lnu := rfl
@[simp] theorem setPin_ptb (i : ContactInput) (b : Bool) (s : State) : (setPin i b s).ptb = s.ptb := rfl
@[simp] theorem setPin_clu (i : ContactInput) (b : Bool) (s : State) : (setPin i b s).clu = s.clu := rfl
@[simp] theorem setPin_flc (i : ContactInput) (b : Bool) (s : State) : (setPin i b s).flc = s.flc := rfl
@[simp] theorem setPin_ogu (i : ContactInput) (b : Bool) (s : State) : (setPin i b s).ogu = s.ogu := rfl
@[simp] theorem setPin_frc (i : ContactInput) (b : Bool) (s : State) : (setPin i b s).frc = s.frc := rfl
@[simp] theorem setPin_stu (i : ContactInput) (b : Bool) (s : State) : (setPin i b s).stu = s.stu := rfl
@[simp] theorem setPin_rpu (i : ContactInput) (b : Bool) (s : State) : (setPin i b s).rpu = s.rpu := rfl
@[simp] theorem setPin_ftu (i : ContactInput) (b : Bool) (s : State) : (setPin i b s).ftu = s.ftu := rfl

/-! ### setRaw -/

@[simp] theorem setRaw_pending (i : ContactInput) (b : Bool) (x : Option Nat) (s : State) :
    (setRaw i b x s).pending = s.pending := rfl
@[simp] theorem setRaw_pins (i : ContactInput) (b : Bool) (x : Option Nat) (s : State) :
    (setRaw i b x s).pins = s.pins := rfl
@[simp] theorem setRaw_resetLow (i : ContactInput) (b : Bool) (x : Option Nat) (s : State) :
    (setRaw i b x s).resetLow = s.resetLow := rfl
@[simp] theorem setRaw_bodiesFilled (i : ContactInput) (b : Bool) (x : Option Nat) (s : State) :
    (setRaw i b x s).bodiesFilled = s.bodiesFilled := rfl
@[simp] theorem setRaw_handOns (i : ContactInput) (b : Bool) (x : Option Nat) (s : State) :
    (setRaw i b x s).handOns = s.handOns := rfl
@[simp] theorem setRaw_sld (i : ContactInput) (b : Bool) (x : Option Nat) (s : State) :
    (setRaw i b x s).sld = s.sld := rfl
@[simp] theorem setRaw_msu (i : ContactInput) (b : Bool) (x : Option Nat) (s : State) :
    (setRaw i b x s).msu = s.msu := rfl
@[simp] theorem setRaw_ilu (i : ContactInput) (b : Bool) (x : Option Nat) (s : State) :
    (setRaw i b x s).ilu = { s.ilu with raw := put s.ilu.raw (inputIndex i) b, timer := put s.ilu.timer (inputIndex i) x } := rfl
@[simp] theorem setRaw_odu (i : ContactInput) (b : Bool) (x : Option Nat) (s : State) :
    (setRaw i b x s).odu = s.odu := rfl
@[simp] theorem setRaw_lnu (i : ContactInput) (b : Bool) (x : Option Nat) (s : State) :
    (setRaw i b x s).lnu = s.lnu := rfl
@[simp] theorem setRaw_ptb (i : ContactInput) (b : Bool) (x : Option Nat) (s : State) :
    (setRaw i b x s).ptb = s.ptb := rfl
@[simp] theorem setRaw_clu (i : ContactInput) (b : Bool) (x : Option Nat) (s : State) :
    (setRaw i b x s).clu = s.clu := rfl
@[simp] theorem setRaw_flc (i : ContactInput) (b : Bool) (x : Option Nat) (s : State) :
    (setRaw i b x s).flc = s.flc := rfl
@[simp] theorem setRaw_ogu (i : ContactInput) (b : Bool) (x : Option Nat) (s : State) :
    (setRaw i b x s).ogu = s.ogu := rfl
@[simp] theorem setRaw_frc (i : ContactInput) (b : Bool) (x : Option Nat) (s : State) :
    (setRaw i b x s).frc = s.frc := rfl
@[simp] theorem setRaw_stu (i : ContactInput) (b : Bool) (x : Option Nat) (s : State) :
    (setRaw i b x s).stu = s.stu := rfl
@[simp] theorem setRaw_rpu (i : ContactInput) (b : Bool) (x : Option Nat) (s : State) :
    (setRaw i b x s).rpu = s.rpu := rfl
@[simp] theorem setRaw_ftu (i : ContactInput) (b : Bool) (x : Option Nat) (s : State) :
    (setRaw i b x s).ftu = s.ftu := rfl

/-! ### settleInput -/

@[simp] theorem settleInput_pending (i : ContactInput) (s : State) : (settleInput i s).pending = s.pending := rfl
@[simp] theorem settleInput_pins (i : ContactInput) (s : State) : (settleInput i s).pins = s.pins := rfl
@[simp] theorem settleInput_resetLow (i : ContactInput) (s : State) : (settleInput i s).resetLow = s.resetLow := rfl
@[simp] theorem settleInput_bodiesFilled (i : ContactInput) (s : State) :
    (settleInput i s).bodiesFilled = s.bodiesFilled := rfl
@[simp] theorem settleInput_handOns (i : ContactInput) (s : State) : (settleInput i s).handOns = s.handOns := rfl
@[simp] theorem settleInput_sld (i : ContactInput) (s : State) : (settleInput i s).sld = s.sld := rfl
@[simp] theorem settleInput_msu (i : ContactInput) (s : State) : (settleInput i s).msu = s.msu := rfl
@[simp] theorem settleInput_ilu (i : ContactInput) (s : State) :
    (settleInput i s).ilu = { s.ilu with debounced := put s.ilu.debounced (inputIndex i) (rawInput i s), timer := put s.ilu.timer (inputIndex i) none } := rfl
@[simp] theorem settleInput_odu (i : ContactInput) (s : State) : (settleInput i s).odu = s.odu := rfl
@[simp] theorem settleInput_lnu (i : ContactInput) (s : State) : (settleInput i s).lnu = s.lnu := rfl
@[simp] theorem settleInput_ptb (i : ContactInput) (s : State) : (settleInput i s).ptb = s.ptb := rfl
@[simp] theorem settleInput_clu (i : ContactInput) (s : State) : (settleInput i s).clu = s.clu := rfl
@[simp] theorem settleInput_flc (i : ContactInput) (s : State) : (settleInput i s).flc = s.flc := rfl
@[simp] theorem settleInput_ogu (i : ContactInput) (s : State) : (settleInput i s).ogu = s.ogu := rfl
@[simp] theorem settleInput_frc (i : ContactInput) (s : State) : (settleInput i s).frc = s.frc := rfl
@[simp] theorem settleInput_stu (i : ContactInput) (s : State) : (settleInput i s).stu = s.stu := rfl
@[simp] theorem settleInput_rpu (i : ContactInput) (s : State) : (settleInput i s).rpu = s.rpu := rfl
@[simp] theorem settleInput_ftu (i : ContactInput) (s : State) : (settleInput i s).ftu = s.ftu := rfl

/-! ### noteOccurrence -/

@[simp] theorem noteOccurrence_pending (s : State) : (noteOccurrence s).pending = s.pending := rfl
@[simp] theorem noteOccurrence_pins (s : State) : (noteOccurrence s).pins = s.pins := rfl
@[simp] theorem noteOccurrence_resetLow (s : State) : (noteOccurrence s).resetLow = s.resetLow := rfl
@[simp] theorem noteOccurrence_bodiesFilled (s : State) : (noteOccurrence s).bodiesFilled = s.bodiesFilled := rfl
@[simp] theorem noteOccurrence_handOns (s : State) : (noteOccurrence s).handOns = s.handOns := rfl
@[simp] theorem noteOccurrence_sld (s : State) : (noteOccurrence s).sld = s.sld := rfl
@[simp] theorem noteOccurrence_msu (s : State) : (noteOccurrence s).msu = s.msu := rfl
@[simp] theorem noteOccurrence_ilu (s : State) : (noteOccurrence s).ilu = s.ilu := rfl
@[simp] theorem noteOccurrence_odu (s : State) : (noteOccurrence s).odu = s.odu := rfl
@[simp] theorem noteOccurrence_lnu (s : State) : (noteOccurrence s).lnu = s.lnu := rfl
@[simp] theorem noteOccurrence_ptb (s : State) : (noteOccurrence s).ptb = s.ptb := rfl
@[simp] theorem noteOccurrence_clu (s : State) : (noteOccurrence s).clu = s.clu := rfl
@[simp] theorem noteOccurrence_flc (s : State) : (noteOccurrence s).flc = s.flc := rfl
@[simp] theorem noteOccurrence_ogu (s : State) : (noteOccurrence s).ogu = s.ogu := rfl
@[simp] theorem noteOccurrence_frc (s : State) : (noteOccurrence s).frc = s.frc := rfl
@[simp] theorem noteOccurrence_stu (s : State) : (noteOccurrence s).stu = s.stu := rfl
@[simp] theorem noteOccurrence_rpu (s : State) : (noteOccurrence s).rpu = s.rpu := rfl
@[simp] theorem noteOccurrence_ftu (s : State) :
    (noteOccurrence s).ftu = { s.ftu with notes := satSucc 255 s.ftu.notes } := rfl

/-! ### lineError -/

@[simp] theorem lineError_pending (s : State) : (lineError s).pending = s.pending := rfl
@[simp] theorem lineError_pins (s : State) : (lineError s).pins = s.pins := rfl
@[simp] theorem lineError_resetLow (s : State) : (lineError s).resetLow = s.resetLow := rfl
@[simp] theorem lineError_bodiesFilled (s : State) : (lineError s).bodiesFilled = s.bodiesFilled := rfl
@[simp] theorem lineError_handOns (s : State) : (lineError s).handOns = s.handOns := rfl
@[simp] theorem lineError_sld (s : State) : (lineError s).sld = s.sld := rfl
@[simp] theorem lineError_msu (s : State) : (lineError s).msu = s.msu := rfl
@[simp] theorem lineError_ilu (s : State) : (lineError s).ilu = s.ilu := rfl
@[simp] theorem lineError_odu (s : State) : (lineError s).odu = s.odu := rfl
@[simp] theorem lineError_lnu (s : State) :
    (lineError s).lnu = { s.lnu with errors := satSucc 255 s.lnu.errors } := rfl
@[simp] theorem lineError_ptb (s : State) : (lineError s).ptb = s.ptb := rfl
@[simp] theorem lineError_clu (s : State) : (lineError s).clu = s.clu := rfl
@[simp] theorem lineError_flc (s : State) : (lineError s).flc = s.flc := rfl
@[simp] theorem lineError_ogu (s : State) : (lineError s).ogu = s.ogu := rfl
@[simp] theorem lineError_frc (s : State) : (lineError s).frc = s.frc := rfl
@[simp] theorem lineError_stu (s : State) : (lineError s).stu = s.stu := rfl
@[simp] theorem lineError_rpu (s : State) : (lineError s).rpu = s.rpu := rfl
@[simp] theorem lineError_ftu (s : State) : (lineError s).ftu = s.ftu := rfl

/-! ### countSkipped -/

@[simp] theorem countSkipped_pending (s : State) : (countSkipped s).pending = s.pending := rfl
@[simp] theorem countSkipped_pins (s : State) : (countSkipped s).pins = s.pins := rfl
@[simp] theorem countSkipped_resetLow (s : State) : (countSkipped s).resetLow = s.resetLow := rfl
@[simp] theorem countSkipped_bodiesFilled (s : State) : (countSkipped s).bodiesFilled = s.bodiesFilled := rfl
@[simp] theorem countSkipped_handOns (s : State) : (countSkipped s).handOns = s.handOns := rfl
@[simp] theorem countSkipped_sld (s : State) : (countSkipped s).sld = s.sld := rfl
@[simp] theorem countSkipped_msu (s : State) : (countSkipped s).msu = s.msu := rfl
@[simp] theorem countSkipped_ilu (s : State) : (countSkipped s).ilu = s.ilu := rfl
@[simp] theorem countSkipped_odu (s : State) : (countSkipped s).odu = s.odu := rfl
@[simp] theorem countSkipped_lnu (s : State) : (countSkipped s).lnu = s.lnu := rfl
@[simp] theorem countSkipped_ptb (s : State) : (countSkipped s).ptb = s.ptb := rfl
@[simp] theorem countSkipped_clu (s : State) : (countSkipped s).clu = s.clu := rfl
@[simp] theorem countSkipped_flc (s : State) : (countSkipped s).flc = s.flc := rfl
@[simp] theorem countSkipped_ogu (s : State) : (countSkipped s).ogu = s.ogu := rfl
@[simp] theorem countSkipped_frc (s : State) : (countSkipped s).frc = s.frc := rfl
@[simp] theorem countSkipped_stu (s : State) : (countSkipped s).stu = s.stu := rfl
@[simp] theorem countSkipped_rpu (s : State) :
    (countSkipped s).rpu = { s.rpu with skipped := s.rpu.skipped + 1, skippedField := satSucc 255 s.rpu.skippedField } := rfl
@[simp] theorem countSkipped_ftu (s : State) : (countSkipped s).ftu = s.ftu := rfl

/-! ### changeSeen -/

@[simp] theorem changeSeen_pending (s : State) : (changeSeen s).pending = s.pending := rfl
@[simp] theorem changeSeen_pins (s : State) : (changeSeen s).pins = s.pins := rfl
@[simp] theorem changeSeen_resetLow (s : State) : (changeSeen s).resetLow = s.resetLow := rfl
@[simp] theorem changeSeen_bodiesFilled (s : State) : (changeSeen s).bodiesFilled = s.bodiesFilled := rfl
@[simp] theorem changeSeen_handOns (s : State) : (changeSeen s).handOns = s.handOns := rfl
@[simp] theorem changeSeen_sld (s : State) : (changeSeen s).sld = s.sld := rfl
@[simp] theorem changeSeen_msu (s : State) : (changeSeen s).msu = s.msu := rfl
@[simp] theorem changeSeen_ilu (s : State) : (changeSeen s).ilu = s.ilu := rfl
@[simp] theorem changeSeen_odu (s : State) : (changeSeen s).odu = s.odu := rfl
@[simp] theorem changeSeen_lnu (s : State) : (changeSeen s).lnu = s.lnu := rfl
@[simp] theorem changeSeen_ptb (s : State) : (changeSeen s).ptb = s.ptb := rfl
@[simp] theorem changeSeen_clu (s : State) : (changeSeen s).clu = s.clu := rfl
@[simp] theorem changeSeen_flc (s : State) : (changeSeen s).flc = s.flc := rfl
@[simp] theorem changeSeen_ogu (s : State) : (changeSeen s).ogu = s.ogu := rfl
@[simp] theorem changeSeen_frc (s : State) : (changeSeen s).frc = s.frc := rfl
@[simp] theorem changeSeen_stu (s : State) : (changeSeen s).stu = s.stu := rfl
@[simp] theorem changeSeen_rpu (s : State) : (changeSeen s).rpu = { s.rpu with changeSeen := true } := rfl
@[simp] theorem changeSeen_ftu (s : State) : (changeSeen s).ftu = s.ftu := rfl

/-! ### enqueue -/

@[simp] theorem enqueue_pending (x : Outgoing) (u : Nat) (s : State) : (enqueue x u s).pending = s.pending := rfl
@[simp] theorem enqueue_pins (x : Outgoing) (u : Nat) (s : State) : (enqueue x u s).pins = s.pins := rfl
@[simp] theorem enqueue_resetLow (x : Outgoing) (u : Nat) (s : State) : (enqueue x u s).resetLow = s.resetLow := rfl
@[simp] theorem enqueue_bodiesFilled (x : Outgoing) (u : Nat) (s : State) :
    (enqueue x u s).bodiesFilled = s.bodiesFilled := rfl
@[simp] theorem enqueue_handOns (x : Outgoing) (u : Nat) (s : State) : (enqueue x u s).handOns = s.handOns := rfl
@[simp] theorem enqueue_sld (x : Outgoing) (u : Nat) (s : State) : (enqueue x u s).sld = s.sld := rfl
@[simp] theorem enqueue_msu (x : Outgoing) (u : Nat) (s : State) : (enqueue x u s).msu = s.msu := rfl
@[simp] theorem enqueue_ilu (x : Outgoing) (u : Nat) (s : State) : (enqueue x u s).ilu = s.ilu := rfl
@[simp] theorem enqueue_odu (x : Outgoing) (u : Nat) (s : State) : (enqueue x u s).odu = s.odu := rfl
@[simp] theorem enqueue_lnu (x : Outgoing) (u : Nat) (s : State) :
    (enqueue x u s).lnu = { s.lnu with queue := s.lnu.queue ++ [newEntry x u s.lnu.nextAge], nextAge := s.lnu.nextAge + 1 } := rfl
@[simp] theorem enqueue_ptb (x : Outgoing) (u : Nat) (s : State) : (enqueue x u s).ptb = s.ptb := rfl
@[simp] theorem enqueue_clu (x : Outgoing) (u : Nat) (s : State) : (enqueue x u s).clu = s.clu := rfl
@[simp] theorem enqueue_flc (x : Outgoing) (u : Nat) (s : State) : (enqueue x u s).flc = s.flc := rfl
@[simp] theorem enqueue_ogu (x : Outgoing) (u : Nat) (s : State) : (enqueue x u s).ogu = s.ogu := rfl
@[simp] theorem enqueue_frc (x : Outgoing) (u : Nat) (s : State) : (enqueue x u s).frc = s.frc := rfl
@[simp] theorem enqueue_stu (x : Outgoing) (u : Nat) (s : State) : (enqueue x u s).stu = s.stu := rfl
@[simp] theorem enqueue_rpu (x : Outgoing) (u : Nat) (s : State) : (enqueue x u s).rpu = s.rpu := rfl
@[simp] theorem enqueue_ftu (x : Outgoing) (u : Nat) (s : State) : (enqueue x u s).ftu = s.ftu := rfl

/-! ### follow -/

@[simp] theorem follow_pending (s : State) : (follow s).pending = s.pending := rfl
@[simp] theorem follow_pins (s : State) : (follow s).pins = s.pins := rfl
@[simp] theorem follow_resetLow (s : State) : (follow s).resetLow = s.resetLow := rfl
@[simp] theorem follow_bodiesFilled (s : State) : (follow s).bodiesFilled = s.bodiesFilled := rfl
@[simp] theorem follow_handOns (s : State) : (follow s).handOns = s.handOns := rfl
@[simp] theorem follow_sld (s : State) : (follow s).sld = s.sld := rfl
@[simp] theorem follow_msu (s : State) : (follow s).msu = s.msu := rfl
@[simp] theorem follow_ilu (s : State) : (follow s).ilu = s.ilu := rfl
@[simp] theorem follow_odu (s : State) :
    (follow s).odu = { s.odu with inletOpen := inletWanted s, alarm := alarmWanted s } := rfl
@[simp] theorem follow_lnu (s : State) : (follow s).lnu = s.lnu := rfl
@[simp] theorem follow_ptb (s : State) : (follow s).ptb = s.ptb := rfl
@[simp] theorem follow_clu (s : State) : (follow s).clu = s.clu := rfl
@[simp] theorem follow_flc (s : State) : (follow s).flc = { s.flc with unproductive := unproductiveNow s } := rfl
@[simp] theorem follow_ogu (s : State) : (follow s).ogu = s.ogu := rfl
@[simp] theorem follow_frc (s : State) : (follow s).frc = s.frc := rfl
@[simp] theorem follow_stu (s : State) : (follow s).stu = s.stu := rfl
@[simp] theorem follow_rpu (s : State) : (follow s).rpu = s.rpu := rfl
@[simp] theorem follow_ftu (s : State) : (follow s).ftu = s.ftu := rfl

/-! ### beginEvent -/

@[simp] theorem beginEvent_pending (s : State) : (beginEvent s).pending = s.pending := rfl
@[simp] theorem beginEvent_pins (s : State) : (beginEvent s).pins = s.pins := rfl
@[simp] theorem beginEvent_resetLow (s : State) : (beginEvent s).resetLow = s.resetLow := rfl
@[simp] theorem beginEvent_bodiesFilled (s : State) : (beginEvent s).bodiesFilled = s.bodiesFilled := rfl
@[simp] theorem beginEvent_handOns (s : State) : (beginEvent s).handOns = s.handOns := rfl
@[simp] theorem beginEvent_sld (s : State) : (beginEvent s).sld = s.sld := rfl
@[simp] theorem beginEvent_msu (s : State) : (beginEvent s).msu = s.msu := rfl
@[simp] theorem beginEvent_ilu (s : State) : (beginEvent s).ilu = s.ilu := rfl
@[simp] theorem beginEvent_odu (s : State) : (beginEvent s).odu = s.odu := rfl
@[simp] theorem beginEvent_lnu (s : State) : (beginEvent s).lnu = s.lnu := rfl
@[simp] theorem beginEvent_ptb (s : State) : (beginEvent s).ptb = s.ptb := rfl
@[simp] theorem beginEvent_clu (s : State) : (beginEvent s).clu = s.clu := rfl
@[simp] theorem beginEvent_flc (s : State) : (beginEvent s).flc = s.flc := rfl
@[simp] theorem beginEvent_ogu (s : State) : (beginEvent s).ogu = s.ogu := rfl
@[simp] theorem beginEvent_frc (s : State) : (beginEvent s).frc = s.frc := rfl
@[simp] theorem beginEvent_stu (s : State) : (beginEvent s).stu = { s.stu with changeCount := 0 } := rfl
@[simp] theorem beginEvent_rpu (s : State) : (beginEvent s).rpu = s.rpu := rfl
@[simp] theorem beginEvent_ftu (s : State) : (beginEvent s).ftu = s.ftu := rfl

/-! ### abandonSending -/

@[simp] theorem abandonSending_pending (s : State) : (abandonSending s).pending = s.pending := rfl
@[simp] theorem abandonSending_pins (s : State) : (abandonSending s).pins = s.pins := rfl
@[simp] theorem abandonSending_resetLow (s : State) : (abandonSending s).resetLow = s.resetLow := rfl
@[simp] theorem abandonSending_bodiesFilled (s : State) : (abandonSending s).bodiesFilled = s.bodiesFilled := rfl
@[simp] theorem abandonSending_handOns (s : State) : (abandonSending s).handOns = s.handOns := rfl
@[simp] theorem abandonSending_sld (s : State) : (abandonSending s).sld = s.sld := rfl
@[simp] theorem abandonSending_msu (s : State) : (abandonSending s).msu = s.msu := rfl
@[simp] theorem abandonSending_ilu (s : State) : (abandonSending s).ilu = s.ilu := rfl
@[simp] theorem abandonSending_odu (s : State) : (abandonSending s).odu = s.odu := rfl
@[simp] theorem abandonSending_lnu (s : State) :
    (abandonSending s).lnu = { s.lnu with queue := s.lnu.queue.map backToWaiting, onLine := none } := rfl
@[simp] theorem abandonSending_ptb (s : State) : (abandonSending s).ptb = s.ptb := rfl
@[simp] theorem abandonSending_clu (s : State) : (abandonSending s).clu = s.clu := rfl
@[simp] theorem abandonSending_flc (s : State) : (abandonSending s).flc = s.flc := rfl
@[simp] theorem abandonSending_ogu (s : State) : (abandonSending s).ogu = s.ogu := rfl
@[simp] theorem abandonSending_frc (s : State) : (abandonSending s).frc = s.frc := rfl
@[simp] theorem abandonSending_stu (s : State) : (abandonSending s).stu = s.stu := rfl
@[simp] theorem abandonSending_rpu (s : State) : (abandonSending s).rpu = s.rpu := rfl
@[simp] theorem abandonSending_ftu (s : State) : (abandonSending s).ftu = s.ftu := rfl

/-! ### enterSkip -/

@[simp] theorem enterSkip_pending (s : State) : (enterSkip s).pending = s.pending := rfl
@[simp] theorem enterSkip_pins (s : State) : (enterSkip s).pins = s.pins := rfl
@[simp] theorem enterSkip_resetLow (s : State) : (enterSkip s).resetLow = s.resetLow := rfl
@[simp] theorem enterSkip_bodiesFilled (s : State) : (enterSkip s).bodiesFilled = s.bodiesFilled := rfl
@[simp] theorem enterSkip_handOns (s : State) : (enterSkip s).handOns = s.handOns := rfl
@[simp] theorem enterSkip_sld (s : State) : (enterSkip s).sld = s.sld := rfl
@[simp] theorem enterSkip_msu (s : State) : (enterSkip s).msu = s.msu := rfl
@[simp] theorem enterSkip_ilu (s : State) : (enterSkip s).ilu = s.ilu := rfl
@[simp] theorem enterSkip_odu (s : State) : (enterSkip s).odu = s.odu := rfl
@[simp] theorem enterSkip_lnu (s : State) :
    (enterSkip s).lnu = { s.lnu with state := .skip, recessive := 0, parser := .atReset } := rfl
@[simp] theorem enterSkip_ptb (s : State) : (enterSkip s).ptb = s.ptb := rfl
@[simp] theorem enterSkip_clu (s : State) : (enterSkip s).clu = s.clu := rfl
@[simp] theorem enterSkip_flc (s : State) : (enterSkip s).flc = s.flc := rfl
@[simp] theorem enterSkip_ogu (s : State) : (enterSkip s).ogu = s.ogu := rfl
@[simp] theorem enterSkip_frc (s : State) : (enterSkip s).frc = s.frc := rfl
@[simp] theorem enterSkip_stu (s : State) : (enterSkip s).stu = s.stu := rfl
@[simp] theorem enterSkip_rpu (s : State) : (enterSkip s).rpu = s.rpu := rfl
@[simp] theorem enterSkip_ftu (s : State) : (enterSkip s).ftu = s.ftu := rfl

/-! ### lineAfterHeard -/

@[simp] theorem lineAfterHeard_pending (s : State) : (lineAfterHeard s).pending = s.pending := rfl
@[simp] theorem lineAfterHeard_pins (s : State) : (lineAfterHeard s).pins = s.pins := rfl
@[simp] theorem lineAfterHeard_resetLow (s : State) : (lineAfterHeard s).resetLow = s.resetLow := rfl
@[simp] theorem lineAfterHeard_bodiesFilled (s : State) : (lineAfterHeard s).bodiesFilled = s.bodiesFilled := rfl
@[simp] theorem lineAfterHeard_handOns (s : State) : (lineAfterHeard s).handOns = s.handOns := rfl
@[simp] theorem lineAfterHeard_sld (s : State) : (lineAfterHeard s).sld = s.sld := rfl
@[simp] theorem lineAfterHeard_msu (s : State) : (lineAfterHeard s).msu = s.msu := rfl
@[simp] theorem lineAfterHeard_ilu (s : State) : (lineAfterHeard s).ilu = s.ilu := rfl
@[simp] theorem lineAfterHeard_odu (s : State) : (lineAfterHeard s).odu = s.odu := rfl
@[simp] theorem lineAfterHeard_lnu (s : State) :
    (lineAfterHeard s).lnu = { s.lnu with state := .gap, recessive := 0, parser := .atReset } := rfl
@[simp] theorem lineAfterHeard_ptb (s : State) : (lineAfterHeard s).ptb = s.ptb := rfl
@[simp] theorem lineAfterHeard_clu (s : State) : (lineAfterHeard s).clu = s.clu := rfl
@[simp] theorem lineAfterHeard_flc (s : State) : (lineAfterHeard s).flc = s.flc := rfl
@[simp] theorem lineAfterHeard_ogu (s : State) : (lineAfterHeard s).ogu = s.ogu := rfl
@[simp] theorem lineAfterHeard_frc (s : State) : (lineAfterHeard s).frc = s.frc := rfl
@[simp] theorem lineAfterHeard_stu (s : State) : (lineAfterHeard s).stu = s.stu := rfl
@[simp] theorem lineAfterHeard_rpu (s : State) : (lineAfterHeard s).rpu = s.rpu := rfl
@[simp] theorem lineAfterHeard_ftu (s : State) : (lineAfterHeard s).ftu = s.ftu := rfl

/-! ### countSecond -/

@[simp] theorem countSecond_pending (s : State) : (countSecond s).pending = s.pending := rfl
@[simp] theorem countSecond_pins (s : State) : (countSecond s).pins = s.pins := rfl
@[simp] theorem countSecond_resetLow (s : State) : (countSecond s).resetLow = s.resetLow := rfl
@[simp] theorem countSecond_bodiesFilled (s : State) : (countSecond s).bodiesFilled = s.bodiesFilled := rfl
@[simp] theorem countSecond_handOns (s : State) : (countSecond s).handOns = s.handOns := rfl
@[simp] theorem countSecond_sld (s : State) : (countSecond s).sld = s.sld := rfl
@[simp] theorem countSecond_ilu (s : State) : (countSecond s).ilu = s.ilu := rfl
@[simp] theorem countSecond_odu (s : State) : (countSecond s).odu = s.odu := rfl
@[simp] theorem countSecond_lnu (s : State) : (countSecond s).lnu = s.lnu := rfl
@[simp] theorem countSecond_ptb (s : State) : (countSecond s).ptb = s.ptb := rfl
@[simp] theorem countSecond_clu (s : State) : (countSecond s).clu = s.clu := rfl
@[simp] theorem countSecond_flc (s : State) : (countSecond s).flc = s.flc := rfl
@[simp] theorem countSecond_ogu (s : State) : (countSecond s).ogu = s.ogu := rfl
@[simp] theorem countSecond_frc (s : State) : (countSecond s).frc = s.frc := rfl
@[simp] theorem countSecond_stu (s : State) : (countSecond s).stu = s.stu := rfl
@[simp] theorem countSecond_rpu (s : State) : (countSecond s).rpu = s.rpu := rfl
@[simp] theorem countSecond_ftu (s : State) : (countSecond s).ftu = s.ftu := rfl

/-! ### setFailed -/

@[simp] theorem setFailed_pending (v : Vector Bool 4) (s : State) : (setFailed v s).pending = s.pending := rfl
@[simp] theorem setFailed_pins (v : Vector Bool 4) (s : State) : (setFailed v s).pins = s.pins := rfl
@[simp] theorem setFailed_resetLow (v : Vector Bool 4) (s : State) : (setFailed v s).resetLow = s.resetLow := rfl
@[simp] theorem setFailed_bodiesFilled (v : Vector Bool 4) (s : State) :
    (setFailed v s).bodiesFilled = s.bodiesFilled := rfl
@[simp] theorem setFailed_handOns (v : Vector Bool 4) (s : State) : (setFailed v s).handOns = s.handOns := rfl
@[simp] theorem setFailed_sld (v : Vector Bool 4) (s : State) : (setFailed v s).sld = s.sld := rfl
@[simp] theorem setFailed_msu (v : Vector Bool 4) (s : State) : (setFailed v s).msu = s.msu := rfl
@[simp] theorem setFailed_ilu (v : Vector Bool 4) (s : State) : (setFailed v s).ilu = s.ilu := rfl
@[simp] theorem setFailed_odu (v : Vector Bool 4) (s : State) : (setFailed v s).odu = s.odu := rfl
@[simp] theorem setFailed_lnu (v : Vector Bool 4) (s : State) : (setFailed v s).lnu = s.lnu := rfl
@[simp] theorem setFailed_ptb (v : Vector Bool 4) (s : State) : (setFailed v s).ptb = s.ptb := rfl
@[simp] theorem setFailed_clu (v : Vector Bool 4) (s : State) : (setFailed v s).clu = s.clu := rfl
@[simp] theorem setFailed_flc (v : Vector Bool 4) (s : State) : (setFailed v s).flc = s.flc := rfl
@[simp] theorem setFailed_ogu (v : Vector Bool 4) (s : State) : (setFailed v s).ogu = s.ogu := rfl
@[simp] theorem setFailed_frc (v : Vector Bool 4) (s : State) :
    (setFailed v s).frc = { s.frc with failed := v } := rfl
@[simp] theorem setFailed_stu (v : Vector Bool 4) (s : State) : (setFailed v s).stu = s.stu := rfl
@[simp] theorem setFailed_rpu (v : Vector Bool 4) (s : State) : (setFailed v s).rpu = s.rpu := rfl
@[simp] theorem setFailed_ftu (v : Vector Bool 4) (s : State) :
    (setFailed v s).ftu = { s.ftu with stageMask := v } := rfl

/-! ### Reading back -/

@[simp] theorem getElem_put_same {α : Type} {n : Nat} (v : Vector α n) (i : Fin n) (x : α) : (put v i x)[i] = x := by simp [put]

theorem getElem_put_ne {α : Type} {n : Nat} (v : Vector α n) {i j : Fin n} (h : i ≠ j) (x : α) : (put v i x)[j] = v[j] := by
  have : i.val ≠ j.val := fun e => h (Fin.ext e)
  simp [put, this]

@[simp] theorem own_setOwn_same (r : Resource) (c : OwnClaim) (s : State) : own r (setOwn r c s) = c := by cases r <;> rfl

theorem own_setOwn_ne {r r' : Resource} (h : r ≠ r') (c : OwnClaim) (s : State) : own r' (setOwn r c s) = own r' s := by
  cases r <;> cases r' <;> first | exact absurd rfl h | rfl

@[simp] theorem claimTable_setTable_same (r : Resource) (x : Vector (Option Holding) 24) (s : State) :
    claimTable r (setTable r x s) = x := by cases r <;> rfl

@[simp] theorem own_setEntry (r r' : Resource) (n : Nat) (e : Option Holding) (s : State) :
    own r' (setEntry r n e s) = own r' s := by
  unfold setEntry; split <;> cases r <;> cases r' <;> rfl

@[simp] theorem entryAt_setOwn (r r' : Resource) (n : Nat) (c : OwnClaim) (s : State) :
    entryAt r' n (setOwn r c s) = entryAt r' n s := by
  cases r <;> cases r' <;> rfl

theorem entryAt_setEntry_same {n : Nat} (h : 1 ≤ n ∧ n ≤ 24) (r : Resource) (e : Option Holding) (s : State) :
    entryAt r n (setEntry r n e s) = e := by
  unfold entryAt setEntry; rw [dif_pos h, dif_pos h]; simp

theorem peerAt_setPeer_same {n : Nat} (h : 1 ≤ n ∧ n ≤ 24) (p : Peer) (s : State) : peerAt n (setPeer n p s) = p := by
  unfold peerAt setPeer; rw [dif_pos h, dif_pos h]; simp

theorem peerAt_setPeer_ne {n m : Nat} (h : n ≠ m) (p : Peer) (s : State) : peerAt m (setPeer n p s) = peerAt m s := by
  unfold peerAt setPeer
  split
  · split
    · rename_i a b
      have : n - 1 ≠ m - 1 := by omega
      simp [this]
    · rfl
  · rfl

@[simp] theorem stageAt_setStage_same (k : Fin 4) (x : Stage) (s : State) : stageAt k (setStage k x s) = x :=
  getElem_put_same s.odu.stages k x

theorem stageAt_setStage_ne {k j : Fin 4} (h : k ≠ j) (x : Stage) (s : State) : stageAt j (setStage k x s) = stageAt j s :=
  getElem_put_ne s.odu.stages h x

end Sys2Proof.Machine
end

