-- ==== Sys2Proof/WellFormed.lean ====
section
/-! DEFINITION. Which command terms name something the outside can bring. -/

namespace Sys2Proof

/-- A station number on the line, 1..24 (section 4.4 of 00). -/
def isStation (n : Nat) : Bool := 1 ≤ n && n ≤ 24

/-- A notice holds 3 header characters, a body of 0..30 as its third character says, and 2 check characters (R40). -/
def isNotice (chars : List Byte) : Bool :=
  match chars with
  | _ :: _ :: len :: rest => decide (len.toNat ≤ 30) && rest.length == len.toNat + 2
  | _ => false

/-- A bit of a notice on the line: at most 35 characters of ten bit times (R39, R40). -/
def isNoticeBit (n : Nat) : Bool := n < 350

/-- The slots that the formula of R46 and late heads (R47) can use begin with slot 1. -/
def isSlot (n : Nat) : Bool := 1 ≤ n

/-- The command is one the outside can bring. -/
def wellFormed : Instr → Bool
  | .powerOnReset => true
  | .externalReset => true
  | .loadAttemptDone block => block.length == 1024
  | .retryWaitExpiry => true
  | .secondEvent _ _ _ _ => true
  | .minuteMark => true
  | .rawInputChange _ _ => true
  | .inputSettled _ => true
  | .proofTimerExpiry _ => true
  | .quietReached => true
  | .winTime slot => isSlot slot
  | .echoConflict bit => isNoticeBit bit
  | .driverFailure bit => isNoticeBit bit
  | .noticeSent => true
  | .noticeHeard chars => isNotice chars
  | .noticeDiscarded _ => true
  | .dupTimerExpiry => true
  | .lineFaultEntry => true
  | .lineFaultExit => true
  | .answerWaitEnd => true
  | .windowEnd _ => true
  | .peerLost station => isStation station
  | .tariffNightTimeout => true
  | .peerSettleExpiry station _ => isStation station
  | .entryAgedOut station _ => isStation station
  | .ownSettleExpiry _ => true
  | .refreshLead _ => true
  | .refreshTime _ => true
  | .incompleteTimerExpiry _ => true
  | .listeningTimerExpiry => true
  | .answerTimerExpiry => true
  | .openTimerExpiry => true
  | .clearingTimerExpiry => true
  | .strokeTimerExpiry => true
  | .confirmTimerExpiry => true
  | .stagnationPeriodEnd => true
  | .reportTimerDue => true
  | .startBitFromAnotherStation => true
  | .resetPinReturnsHigh => true

end Sys2Proof
end

