-- ==== Sys2Proof/Tests/Slice0.lean ====
section
/-! SUPPORT. Tests: the checks of well-formedness, single steps of the manual's worked cases and sequences, and a state that meets
the hypotheses of each statement. -/

namespace Sys2Proof.Tests

-- The kernel checks the evaluations below one after another: many at once would hold too many threads.
set_option Elab.async false

open Sys2Proof.Machine

/-! ### Terms the checks refuse -/

theorem test_block_length_refused : wellFormed (.loadAttemptDone [1, 2, 3]) = false := by decide
theorem test_slot_zero_refused : wellFormed (.winTime 0) = false := by decide
theorem test_echo_bit_refused : wellFormed (.echoConflict 350) = false := by decide
theorem test_driver_bit_refused : wellFormed (.driverFailure 350) = false := by decide
theorem test_short_notice_refused : wellFormed (.noticeHeard [1, 2, 3, 4]) = false := by decide
theorem test_notice_length_character_refused : wellFormed (.noticeHeard [3, 5, 2, 0, 0, 0]) = false := by decide
theorem test_station_zero_refused : wellFormed (.peerLost 0) = false := by decide
theorem test_settle_station_refused : wellFormed (.peerSettleExpiry 25 .load) = false := by decide
theorem test_aged_station_refused : wellFormed (.entryAgedOut 25 .supply) = false := by decide
theorem test_last_bit_accepted : wellFormed (.echoConflict 349) = true := by decide

/-! ### The tower of the worked cases (sections 1.11, 6.11, 7.8, 5.6) -/

def worked : Calibration := { c0 := 0, c1 := 1000, t0 := 0, t1 := 1000 }

def tower : Settings :=
  { blankSettings with
    station := 5
    debounce := Vector.replicate 17 4
    z := 819, f := 4095, hFs := 40000, dOff := 25000, lMax := 12000
    strapCount := 5, strap := [(0, 0), (2000, 150000), (6000, 750000), (10000, 1450000), (12000, 1700000)]
    calW := worked, calR := worked, calA := worked
    hHi := 11000, hHys := 300, hOvf := 11600, strokeTime := 60, leakThreshold := 20, confirmTime := 60
    floatHeight := 11200, floatTolerance := 100, floatAllowance := 1
    targets := #v[1400000, 1400000, 1500000, 0]
    draw := 500, qNom := 3000, qMin := 1000, qMax := 6000, tDefer := 120
    reliefMargin := 500, turnoverAmount := 300, window := 420, peerTimeout := 180
    budget := 40, tSettle := 3, tRefresh := 60, allowance := 1
    ratings := #v[8, 8, 12, 12], theta := #v[30, 10, -20, -90], hysteresis := 10
    tAirOn := 20, tCrit := -80, tTurn := 40, stagThreshold := 100, stagHours := 6, proofTime := 2
    intervals := #v[60, 5, 15, 1]
    defaults := { target := 0, heatCap := 4, turnover := 1, relief := 1, interval := 1, alarm := 0 } }

/-- The tower, JOINED, between events. -/
def joined : State :=
  { State.reset with
    sld := { Loader.atReset with mode := .joined, load := .done, settings := tower }
    msu := { Measure.atReset with running := true }
    flc := { Fill.atReset with qEst := some 3000 } }

/-- The same tower with a level read and its record primed (section 1.11). -/
def measured : State :=
  { joined with msu := { joined.msu with
      ring := Vector.replicate 8 5000, lf := 5000, level := .fresh, volume := 600000
      lm := 5000, vm := 600000, stale := false, primed := true } }

/-- A property of the next state. -/
def then_ (o : Host.Outcome State Fault Refusal) (p : State → Bool) : Bool :=
  match o with
  | .next t => p t
  | _ => false

/-- A running debounce timer and the raw value of an input. -/
def moving (i : ContactInput) (now : Bool) (s : State) : State := setRaw i now (some 4) s

def withLine (f : Line → Line) (s : State) : State := { s with lnu := f s.lnu }

def listening (s : State) : State := withLine (fun l => { l with state := .receiving }) s

/-- A whole notice with its check. -/
def notice (kind u role station : Nat) (body : List Byte) : List Byte :=
  let c := [char (kind + 16 * u), char (station + 32 * role), char body.length] ++ body
  c ++ bytesOf 2 (crcOf c)

/-- The notice comes in whole and reads as said, as a test. -/
def hears (chars : List Byte) (h : Heard) (s : State) : Bool :=
  receives chars s &&
    match readNotice chars with
    | .ok x => decide (x = h)
    | .error _ => false

theorem heardAs_iff (chars : List Byte) (h : Heard) (s : State) : HeardAs chars h s ↔ hears chars h s = true := by
  unfold HeardAs hears
  cases readNotice chars <;> simp

/-- The notice fails a test of R42, as a test. -/
def fails (chars : List Byte) (d : DiscardCause) : Bool :=
  match readNotice chars with
  | .ok _ => false
  | .error x => decide (x = d)

theorem error_iff (chars : List Byte) (d : DiscardCause) : readNotice chars = .error d ↔ fails chars d = true := by
  unfold fails
  cases readNotice chars <;> simp

def waitingEntry (item : Outgoing) (u age : Nat) : QueueEntry := newEntry item u age

/-! ### Measurement: sections 1.11 and 6.11 -/

theorem test_levels_of_codes :
    [3275, 3276, 3277, 3278, 3279].map (fun p => (headOf tower p).map (levelOf tower)) =
      [some 4987, some 5000, some 5012, some 5024, some 5036] := by decide

theorem test_loop_open_code : headOf tower 618 = none ∧ headOf tower 619 = some 0 := by decide

theorem test_volumes : strapVolume tower.strap 5000 = 600000 ∧ strapVolume tower.strap 5010 = 601500 ∧
    strapVolume tower.strap 10700 = 1537500 := by decide

theorem test_first_valid_sample :
    then_ (exec (.secondEvent 3276 20 20 20) joined)
      (fun t => t.msu.lf == 5000 && t.msu.level == .fresh && t.msu.volume == 600000 && t.msu.ring == Vector.replicate 8 5000) =
      true := by decide +kernel

/-- The eighth sample of the minute: the sum is 40,084 (section 1.11). -/
theorem test_ring_mean_floors :
    then_ (exec (.secondEvent 3276 20 20 20)
        { measured with msu := { measured.msu with ring := #v[5000, 5012, 5000, 5024, 5000, 5012, 5036, 12000], oldest := 7 } })
      (fun t => t.msu.lf == 5010 && t.msu.volume == 601500) = true := by decide +kernel

/-- Section 6.11: the mark at elapsed 41. -/
def filling : State :=
  { measured with
    msu := { measured.msu with lf := 5010, volume := 601500, minuteDue := true }
    odu := { measured.odu with position := .opened, inletOpen := true }
    flc := { measured.flc with
      night := true, elapsed := 40, state := .fill .tariff, learning := true, openRequest := true
      causes := { guard := false, maint := false, level := false, safeHold := false, inlet := false, notJoined := false }
      plan := { measured.flc.plan with vTgt := 1400000, need := true, slack := 60, urgency := 3 } } }

theorem test_learned_minute :
    then_ (exec .minuteMark filling)
      (fun t => t.msu.rate == 10 && t.msu.dv == 1500 && t.flc.qEst == some 2750 && t.flc.plan.n == 798500 &&
        t.flc.plan.tReq == some 355 && t.flc.plan.slack == 24 && t.flc.plan.urgency == 3 && t.flc.elapsed == 41) =
      true := by decide +kernel

theorem test_learning_rounds_down : learnedInflow 3000 1497 tower = 2749 := by decide

/-! ### Inputs and latches: sections 2.4 and 2.11 -/

theorem test_frost_onset :
    then_ (exec (.inputSettled (.fst 0)) (moving (.fst 0) true joined))
      (fun t => latchSet .frostgrp t && !t.ilu.frostQuiet &&
        t.lnu.queue.any (fun e => e.item == .alarm (.latch .frostgrp) && e.urgency == 6)) = true := by decide +kernel

/-- FST2 arrives while FST1 is ACTIVE and the latch has been acknowledged: not an onset. -/
theorem test_frost_arrival_lost :
    then_ (exec (.inputSettled (.fst 1))
        (moving (.fst 1) true { joined with ilu := { joined.ilu with
          raw := put joined.ilu.raw 4 true, debounced := put joined.ilu.debounced 4 true, frostQuiet := false } }))
      (fun t => !latchSet .frostgrp t && t.lnu.queue.isEmpty) = true := by decide +kernel

theorem test_debounce_starts :
    then_ (exec (.rawInputChange .door true) joined)
      (fun t => rawInput .door t && !debounced .door t && debounceTimer .door t == some 4) = true := by decide +kernel

theorem test_proof_fails :
    then_ (exec (.proofTimerExpiry 1)
        (setStage 1 { command := true, state := .proving, timer := some 2 } joined))
      (fun t => failureSignal 1 t && !heatRelay 1 t && latchSet .tripgrp t && inFaultSet .stageFail t &&
        t.lnu.queue.any (fun e => e.item == .alarm (.latch .tripgrp) && e.urgency == 5)) = true := by decide +kernel

/-! ### The line: sections 3.8 and 3.9, and the check -/

/-- The queue of section 3.8 after its first event. -/
def full : State :=
  withLine (fun l => { l with
    nextAge := 9
    queue := [waitingEntry (.alarm (.latch .ovf)) 7 5, waitingEntry .stop 7 6, waitingEntry (.alarm .spill) 7 7,
      waitingEntry .tariff 5 3, waitingEntry (.alarm (.latch .hifl)) 5 4, waitingEntry (.claim .load true) 3 2,
      waitingEntry .report 1 1, waitingEntry (.alarm (.latch .door)) 4 8] })
    { joined with rpu := { joined.rpu with queued := true, due := 1 } }

theorem test_report_dropped_for_alarm :
    let t := queueNotice (.alarm (.latch .frostgrp)) 6 full
    (entryUnder .report t.lnu.queue).isNone && t.lnu.queue.length == 8 && t.rpu.skipped == 1 && !t.rpu.queued &&
      t.ftu.notes == 1 && (entryUnder (.alarm (.latch .frostgrp)) t.lnu.queue).map QueueEntry.age == some 9 = true := by
  decide +kernel

theorem test_replacement_keeps_age :
    (entryUnder (.side .load) (queueNotice (.claim .load true) 6 full).lnu.queue).map
      (fun e => (e.urgency, e.age, e.item == .claim .load true)) = some (6, 2, true) := by decide +kernel

theorem test_head_and_slot :
    (queueHead full.lnu.queue).map (fun e => (e.item == .alarm (.latch .ovf), slotOf e full)) = some (true, 5) := by
  decide +kernel

/-- The widely published check value of this polynomial and start value over the characters 1 to 9, each character given here
with its bits in reverse since R40 takes the least significant bit first. -/
theorem test_check_value : crcOf [0x8C, 0x4C, 0xCC, 0x2C, 0xAC, 0x6C, 0xEC, 0x1C, 0x9C] = 0x29B1 := by decide +kernel

/-- Section 3.9: positions 2, 8, 14, 26, 32 dominant. -/
def garbled : WindowSamples := BitVec.ofNat 48 (2 ^ 2 + 2 ^ 8 + 2 ^ 14 + 2 ^ 26 + 2 ^ 32)

/-- Section 3.9: positions 2, 6, 26, 30 dominant. -/
def clean : WindowSamples := BitVec.ofNat 48 (2 ^ 2 + 2 ^ 6 + 2 ^ 26 + 2 ^ 30)

def window (q : Question) (s : State) : State :=
  withLine (fun l => { l with
    state := .window, rollCall := some { question := q, mine := false, answer := false, samples := 0 } }) s

theorem test_garbled_window :
    then_ (exec (.windowEnd garbled) (window (.hold .supply) joined))
      (fun t => incomplete .supply t == some 63 && t.ftu.notes == 1 && t.lnu.state == .gap) = true := by decide +kernel

theorem test_clean_window_keeps_answering_holder :
    then_ (exec (.windowEnd clean)
        (setEntry .load 8 (some { share := .held 12, urgency := 3, age := 0 })
          (setEntry .load 3 (some { share := .held 20, urgency := 3, age := 0 }) (window (.hold .load) joined))))
      (fun t => (entryAt .load 3 t).isSome && (entryAt .load 8 t).isNone && incomplete .load t == some 63) = true := by
  decide +kernel

theorem test_line_fault_exit_quiet :
    then_ (exec .lineFaultExit (withLine (fun l => { l with state := .lineFault }) joined))
      (fun t => t.lnu.state == .quiet && t.lnu.slot == 0 && incomplete .load t == some 63) = true := by decide +kernel

/-! ### Peers and the tariff: sections 4.8 and 4.10 -/

/-- SUPPLY from 1: slots 2, pumps 1, list empty. -/
theorem test_supply_heard :
    then_ (exec (.noticeHeard (notice 9 3 1 1 [2, 1])) (listening joined))
      (fun t => t.ptb.capacity == 2 && !t.ptb.supplyAbsent && !t.ptb.alone && !t.ptb.anySpill) = true := by decide +kernel

/-- ALARM(SPILL, set) from 7. -/
theorem test_spill_heard :
    then_ (exec (.noticeHeard (notice 4 7 0 7 [6, 1])) (listening joined))
      (fun t => t.ptb.anySpill && (peerAt 7 t).spill && (peerAt 7 t).alarm && (peerAt 7 t).role == some .tower) = true := by
  decide +kernel

/-- Minute mark: elapsed 420, silence 220; then the night ends. -/
theorem test_silent_source :
    then_ (exec .minuteMark { joined with
        msu := { joined.msu with minuteDue := true }
        flc := { joined.flc with night := true, elapsed := 419, silence := 219 } })
      (fun t => t.flc.nightTimeoutDue && t.flc.elapsed == 420 &&
        then_ (exec .tariffNightTimeout t) (fun u => !u.flc.night && u.flc.elapsed == 0 && u.flc.silence == 220)) = true := by
  decide +kernel

/-! ### Claims: section 5.6 -/

/-- Tower 5 with its LOAD claim of 10 settling and tower 3 holding 20. -/
def contest : State :=
  listening (setEntry .load 5 (some { share := .settling 10 none 2 false, urgency := 3, age := 0 })
    (setEntry .load 3 (some { share := .held 20, urgency := 3, age := 0 })
      (setOwn .load { OwnClaim.atReset with
        state := .settling, amount := 10, urgency := 3, settle := some 2, refresh := some 59 } joined)))

theorem test_refresh_that_does_not_fit :
    then_ (exec (.noticeHeard (notice 2 3 0 8 [1, 12, 1])) contest)
      (fun t => (own .load t).state == .waiting && (own .load t).amount == 10 && (entryAt .load 5 t).isNone &&
        (entryAt .load 8 t).isSome && t.lnu.queue.any (fun e => e.item == .release .load && e.urgency == 5)) = true := by
  decide +kernel

/-- Tower 8 yields to tower 5's CLAIM of 10 at urgency 6; tower 3 does not. -/
theorem test_yielders :
    let s := setEntry .load 5 (some { share := .settling 10 none 3 false, urgency := 6, age := 0 })
      (setEntry .load 8 (some { share := .held 12, urgency := 3, age := 0 })
        (setEntry .load 3 (some { share := .held 20, urgency := 3, age := 0 }) joined))
    preemptYielders .load 5 s = [8] := by decide +kernel

/-! ### Guard: section 7.8 -/

/-- The sample on which L_f first reaches 11000 mm while the inlet is OPEN. -/
theorem test_top_reached :
    then_ (exec (.secondEvent 3768 20 20 20) { filling with
        msu := { filling.msu with ring := Vector.replicate 8 11000, lf := 10999, minuteDue := false }, lnu := joined.lnu })
      (fun t => t.msu.lf == 11000 && t.ogu.state == .cut && t.ogu.stroke == some 60 && t.flc.state == .blocked &&
        !t.odu.inletOpen) = true := by decide +kernel

/-- The guard in CUT with its stroke timer run out. -/
def jammed : State :=
  { measured with
    odu := { measured.odu with position := .opened }
    ogu := { measured.ogu with state := .cut, stroke := some 0 } }

theorem test_stuck :
    then_ (exec .strokeTimerExpiry jammed)
      (fun t => t.ogu.state == .stuck && t.ogu.hold == .stuck && t.ogu.confirm == .pending &&
        t.ogu.stop == some { cause := .stuck, urgency := 6, escalated := false } && inFaultSet .inletStuck t && t.odu.alarm) =
      true := by decide +kernel

/-- The demand unconfirmed, INLET_STUCK standing. -/
def unconfirmed : State :=
  { measured with
    odu := { measured.odu with position := .opened, alarm := true }
    ogu := { measured.ogu with
      state := .stuck, hold := .stuck, stop := some { cause := .stuck, urgency := 6, escalated := false }
      confirm := .waiting, confirmTimer := some 0 }
    ftu := { measured.ftu with inSet := put measured.ftu.inSet 10 true, condition := put measured.ftu.condition 10 true
                               total := 1 } }

theorem test_safe_hold :
    then_ (exec .confirmTimerExpiry unconfirmed)
      (fun t => t.ogu.confirm == .unconfirmed && t.ftu.safeHold && t.ftu.snapshot.isSome &&
        t.ogu.stop == some { cause := .safe, urgency := 7, escalated := true } &&
        (entryUnder .trip t.lnu.queue).isSome && (entryUnder .stop t.lnu.queue).map QueueEntry.urgency == some 7) =
      true := by decide +kernel

/-! ### Situation table: section 9.6 -/

def entryOf (value mask : Nat) (target interval link : Nat) (turnover heatCap : Nat) : TableEntry :=
  { invalidEntry with
    valid := true, value := BitVec.ofNat 46 value, mask := BitVec.ofNat 46 mask
    target := target, interval := interval, link := link, turnover := turnover, heatCap := heatCap }

/-- Entries 1, 2, 16, 17, 18 of the section, in that order. -/
def winter : Settings :=
  { tower with
    entries := [
      entryOf (1 + 2 ^ 23) (31 + 2 ^ 23) 2 4 1 2 5, entryOf 1 31 4 4 2 2 5,
      entryOf (2 + 2 ^ 44) (31 + 2 ^ 44) 4 4 0 2 2, entryOf 2 31 4 4 0 0 5,
      entryOf (4 + 2 ^ 41) (31 + 2 ^ 41) 4 3 0 2 5] }

theorem test_maintenance_interval :
    (ordersFor winter (BitVec.ofNat 46 (2 ^ 41))).interval = 3 ∧ (ordersFor winter 0).interval = 1 := by decide +kernel

theorem test_deep_cold :
    let calm := ordersFor winter (BitVec.ofNat 46 (2 ^ 23))
    let starved := ordersFor winter (BitVec.ofNat 46 (2 ^ 23 + 2 ^ 44))
    calm.target = 2 ∧ calm.turnover = false ∧ calm.heatCap = 4 ∧ starved.heatCap = 2 ∧ starved.turnover = true := by
  decide +kernel

/-! ### Reports: section 10.2 -/

theorem test_due_while_queued :
    then_ (exec .reportTimerDue { joined with rpu := { joined.rpu with
        due := 43, sent := 40, skipped := 2, skippedField := 1, queued := true, timerDue := true } })
      (fun t => t.rpu.due == 44 && t.rpu.sent == 40 && t.rpu.skipped == 3 && t.rpu.skippedField == 2 && t.rpu.queued) =
      true := by decide +kernel

/-! ### A state for every clause: steps, resets, loading -/

def heldLow : State := { State.reset with resetLow := true }

def secondRead (load : LoadState) (attempt : Nat) : State :=
  { State.reset with sld := { Loader.atReset with load := load, attempt := attempt } }

/-- 1022 bytes that begin with some and go on with zeros, and their check. -/
def block (first : List Byte) : List Byte :=
  let bytes := first ++ List.replicate (1022 - first.length) 0
  bytes ++ bytesOf 2 (crcOf bytes)

/-- Station 5, two strap points at 0 and 1. -/
def trustedBlock : List Byte := block ([5] ++ List.replicate 33 0 ++ [2, 0, 0, 0, 0, 0, 0, 1])

theorem test_first_read_unanswered :
    then_ (exec (.loadAttemptDone (List.replicate 1024 255)) State.reset)
      (fun t => t.sld.load == .retryWait && t.sld.mode == .loading) = true := by decide +kernel

set_option maxRecDepth 100000 in
theorem test_trusted_read_joins :
    then_ (exec (.loadAttemptDone trustedBlock) State.reset)
      (fun t => t.sld.mode == .joining && t.sld.settings.station == 5 && t.clu.listening == some 21 &&
        t.flc.qEst == some 100 && t.rpu.due == 1) = true := by decide +kernel

set_option maxRecDepth 100000 in
theorem witness_ReadsBeginAndFail :
    ((Rested heldLow ∧ heldLow.sld.mode = .loading ∧ heldLow.resetLow = true) ∧
      (Rested (secondRead .retryWait 1) ∧ (secondRead .retryWait 1).sld.mode = .loading ∧
        (secondRead .retryWait 1).resetLow = false ∧ (secondRead .retryWait 1).sld.load = .retryWait)) ∧
      ([1, 2, 3] : List Byte).length ≠ 1024 ∧ isReading State.reset = true ∧ Rested State.reset ∧
      ((List.replicate 1024 (255 : Byte)).length = 1024 ∧ notAnswered (List.replicate 1024 255) = true ∧
        State.reset.sld.attempt = 1) ∧
      (isReading (secondRead .reading 2) = true ∧ Rested (secondRead .reading 2) ∧ (secondRead .reading 2).sld.attempt ≠ 1) ∧
      (notAnswered (1 :: List.replicate 1023 0) = false ∧ checkMatches (1 :: List.replicate 1023 0) = false) ∧
      (notAnswered (block [25]) = false ∧ checkMatches (block [25]) = true ∧
        structureHolds (readSettings (block [25])) = false) ∧
      (notAnswered (block [24]) = false ∧ checkMatches (block [24]) = true ∧
        structureHolds (readSettings (block [24])) = false ∧ (readSettings (block [24])).station = 24) := by
  unfold Rested Settled OutputsFollow; decide +kernel

set_option maxRecDepth 100000 in
/-- Station 24 with levels that do not rise: the image holds the clamped strap count (R192). -/
theorem test_failed_structure_leaves_tested_image :
    then_ (exec (.loadAttemptDone (block [24])) State.reset)
      (fun t => t.sld.mode == .unconfigured && t.sld.settings.strapCount == 2 && t.msu.volume == 0 && t.odu.alarm) = true := by
  decide +kernel

set_option maxRecDepth 100000 in
theorem witness_TrustedReadConfigures :
    isReading State.reset = true ∧ trustedBlock.length = 1024 ∧ notAnswered trustedBlock = false ∧
      checkMatches trustedBlock = true ∧ structureHolds (readSettings trustedBlock) = true ∧
      State.reset.clu = Claims.atReset := by decide +kernel

/-! ### Measurement -/

theorem witness_HeadOfPressureCode :
    tower.z + 101 ≤ tower.f ∧ 0 ≤ tower.hFs ∧ (618 : Int) < tower.z - 200 ∧ tower.z - 200 ≤ (619 : Int) ∧
      (818 : Int) < tower.z ∧ tower.z ≤ (819 : Int) ∧ (4095 : Int) ≤ tower.f ∧ tower.f < (4096 : Int) ∧
      (4195 : Int) ≤ tower.f + 100 ∧ tower.f + 100 < (4196 : Int) := by decide

theorem witness_StrapVolumeInterpolates :
    ([(2000, 150000), (6000, 750000)] : List (Int × Int)) ≠ [] ∧
      ([(0, 0), (2000, 150000), (6000, 750000)] : List (Int × Int)).Pairwise (fun p q => p.1 < q.1 ∧ p.2 ≤ q.2) ∧
      strapVolume [(0, 0), (2000, 150000), (6000, 750000)] (-1) = 0 ∧
      strapVolume [(0, 0), (2000, 150000), (6000, 750000)] 1999 = 149925 ∧
      strapVolume [(0, 0), (2000, 150000), (6000, 750000)] 6000 = 750000 := by decide

theorem witness_SecondEventMeasures :
    active joined = true ∧ joined.msu.running = true ∧ joined.msu.level ≠ .fresh ∧ active measured = true ∧
      measured.msu.running = true ∧ measured.msu.level = .fresh ∧ headOf (setting joined) 619 = some 0 ∧
      headOf (setting joined) 618 = none := by decide +kernel

theorem witness_SecondEventCounts : active measured = true ∧ measured.msu.running = true := by decide +kernel

def unread (s : State) : State := { s with msu := { s.msu with level := .unread } }

theorem witness_MinuteMarkRecord :
    loaded filling = true ∧ filling.msu.minuteDue = true ∧ filling.msu.level = .fresh ∧ loaded (unread filling) = true ∧
      (unread filling).msu.minuteDue = true ∧ (unread filling).msu.level ≠ .fresh := by decide +kernel

theorem witness_MinuteMarkLearnsInflow :
    (active filling = true ∧ filling.msu.minuteDue = true ∧ filling.flc.learning = true ∧
      filling.flc.state = .fill .tariff ∧ filling.odu.position = .opened ∧ filling.msu.level = .fresh ∧
      filling.flc.qEst = some 3000) ∧
      (active (unread filling) = true ∧ (unread filling).msu.minuteDue = true ∧ (unread filling).msu.level ≠ .fresh) := by
  decide +kernel

/-! ### Contact inputs -/

def rising : State := { joined with ilu := { joined.ilu with raw := put joined.ilu.raw 3 true } }

def undelayed : State :=
  { joined with sld := { joined.sld with settings := { tower with debounce := Vector.replicate 17 0 } } }

theorem witness_RawInputDebounce :
    (Rested State.reset ∧ active State.reset = false) ∧
      (Rested joined ∧ active joined = true ∧
        rawInput .door joined = (false != (setting joined).normallyClosed[inputIndex .door])) ∧
      (Rested rising ∧ active rising = true ∧
        rawInput .door rising ≠ (false != (setting rising).normallyClosed[inputIndex .door]) ∧
        debounced .door rising = (false != (setting rising).normallyClosed[inputIndex .door])) ∧
      (rawInput .door joined ≠ (true != (setting joined).normallyClosed[inputIndex .door]) ∧
        debounced .door joined ≠ (true != (setting joined).normallyClosed[inputIndex .door]) ∧
        debounceCount .door joined ≠ 0) ∧
      (Rested undelayed ∧ active undelayed = true ∧
        rawInput .door undelayed ≠ (true != (setting undelayed).normallyClosed[inputIndex .door]) ∧
        debounced .door undelayed ≠ (true != (setting undelayed).normallyClosed[inputIndex .door]) ∧
        debounceCount .door undelayed = 0) := by
  unfold Rested Settled OutputsFollow; decide +kernel

/-- The inputs of the latches and of R23 with a settle to come, to ACTIVE and to INACTIVE. -/
theorem witness_settles :
    ∀ i ∈ allInputs, ∀ now : Bool,
      active (moving i now joined) = true ∧ (debounceTimer i (moving i now joined)).isSome = true ∧
        rawInput i (moving i now joined) = now ∧ latchSet .ovf (moving i now joined) = false := by decide +kernel

theorem witness_SingleLatchFollowsInput :
    (ContactInput.door, Latch.door) ∈ [(ContactInput.ovf, Latch.ovf), (.hifl, .hifl), (.lofl, .lofl), (.door, .door)] ∧
      active (moving .door true joined) = true ∧ (debounceTimer .door (moving .door true joined)).isSome = true := by
  decide +kernel

theorem witness_FrostGroupOnset :
    active (moving (.fst 3) true joined) = true ∧ (debounceTimer (.fst 3) (moving (.fst 3) true joined)).isSome = true := by
  decide +kernel

theorem witness_PositionFromContacts :
    active (moving .inOpenFb true joined) = true ∧
      (debounceTimer .inOpenFb (moving .inOpenFb true joined)).isSome = true := by decide +kernel

/-- Stage 1 and stage 2 have failed; the feedback of stage 2 stays ACTIVE (R157). -/
def twoFailed (s : State) : State :=
  { setStage 0 { command := false, state := .failed, timer := none }
      (setStage 1 { command := false, state := .failed, timer := none } s) with
    frc := { s.frc with failed := #v[true, true, false, false] }
    ilu := { s.ilu with
      raw := put s.ilu.raw 14 true, debounced := put s.ilu.debounced 14 true, latch := put s.ilu.latch 5 true
      tripQuiet := false }
    ftu := { s.ftu with
      stageMask := #v[true, true, false, false], condition := put s.ftu.condition 7 true, inSet := put s.ftu.inSet 7 true } }

theorem test_ack_restores_stages :
    then_ (exec (.inputSettled .ackin) (moving .ackin true (twoFailed joined)))
      (fun t => t.frc.failed == #v[false, true, false, false] && latchSet .tripgrp t && inFaultSet .stageFail t &&
        t.ftu.total == 1 && (stageAt 0 t).state == .off) = true := by decide +kernel

theorem witness_AckPressReachesAll :
    (active (moving .ackin true joined) = true ∧ (debounceTimer .ackin (moving .ackin true joined)).isSome = true ∧
      rawInput .ackin (moving .ackin true joined) = true ∧ StagesAgree (moving .ackin true joined)) ∧
      (active (moving .ackin true (twoFailed joined)) = true ∧
        (debounceTimer .ackin (moving .ackin true (twoFailed joined))).isSome = true ∧
        rawInput .ackin (moving .ackin true (twoFailed joined)) = true ∧
        StagesAgree (moving .ackin true (twoFailed joined))) := by
  unfold StagesAgree; decide +kernel

theorem witness_MaintAndAckRelease :
    (active (moving .maint true joined) = true ∧ (debounceTimer .maint (moving .maint true joined)).isSome = true ∧
      rawInput .maint (moving .maint true joined) = true) ∧
      (active (moving .ackin false joined) = true ∧ Rested (moving .ackin false joined) ∧
        (debounceTimer .ackin (moving .ackin false joined)).isSome = true ∧
        rawInput .ackin (moving .ackin false joined) = false) := by
  unfold Rested Settled OutputsFollow; decide +kernel

def source (s : State) : State := { s with sld := { s.sld with settings := { tower with tariffSource := true } } }

def timedOut : State := { joined with flc := { joined.flc with night := true, nightTimeoutDue := true } }

/-- TARIFF(NIGHT, 10) from station 3. -/
def tariffNotice : List Byte := notice 6 5 0 3 [1, 0, 10]

/-- A TARIFF has been heard since the mark: silence 0, and the night goes on (R74). -/
theorem test_renewed_night_goes_on :
    then_ (exec .tariffNightTimeout { timedOut with flc := { timedOut.flc with elapsed := 420, silence := 0 } })
      (fun t => t.flc.night && t.flc.elapsed == 420 && !t.flc.nightTimeoutDue) = true := by decide +kernel

theorem witness_TariffPeriodChanges :
    (active (moving .tariff true (source joined)) = true ∧
      (debounceTimer .tariff (moving .tariff true (source joined))).isSome = true ∧
      (setting (moving .tariff true (source joined))).tariffSource = true) ∧
      (active timedOut = true ∧ timedOut.flc.nightTimeoutDue = true ∧ timedOut.flc.night = true ∧
        ¬ (setting timedOut).window ≤ timedOut.flc.elapsed) ∧
      (let s := { timedOut with flc := { timedOut.flc with elapsed := 420, silence := 15 } }
       active s = true ∧ s.flc.nightTimeoutDue = true ∧ s.flc.night = true ∧ (setting s).window ≤ s.flc.elapsed ∧
        15 ≤ s.flc.silence) ∧
      (active (listening joined) = true ∧
        HeardAs tariffNotice { urgency := 5, station := 3, role := .tower, content := .tariff true 10 } (listening joined) ∧
        3 ≠ (setting (listening joined)).station ∧ (setting (listening joined)).tariffSource = false) ∧
      (active (listening (source joined)) = true ∧
        HeardAs tariffNotice { urgency := 5, station := 3, role := .tower, content := .tariff true 10 }
          (listening (source joined)) ∧
        3 ≠ (setting (listening (source joined))).station) := by
  simp only [heardAs_iff]; decide +kernel

def stage (x : StageState) (s : State) : State := setStage 1 { command := true, state := x, timer := some 2 } s

theorem witness_StageFailureReports :
    (active (stage .proving joined) = true ∧ (stageAt 1 (stage .proving joined)).timer.isSome = true ∧
      (stageAt 1 (stage .proving joined)).state = .proving ∧ feedback 1 (stage .proving joined) = false) ∧
      (active (moving (.hfb 1) true joined) = true ∧ (debounceTimer (.hfb 1) (moving (.hfb 1) true joined)).isSome = true ∧
        stagePresent 1 (moving (.hfb 1) true joined) = true ∧ (stageAt 1 (moving (.hfb 1) true joined)).state = .off ∧
        rawInput (.hfb 1) (moving (.hfb 1) true joined) = true) ∧
      (active (moving (.hfb 1) true (stage .proving joined)) = true ∧
        (debounceTimer (.hfb 1) (moving (.hfb 1) true (stage .proving joined))).isSome = true ∧
        (stageAt 1 (moving (.hfb 1) true (stage .proving joined))).state = .proving) := by decide +kernel

/-! ### The line -/

def inState (x : LineState) (s : State) : State := withLine (fun l => { l with state := x }) s

theorem witness_LineStateMoves :
    ∀ x ∈ [LineState.gap, .skip, .quiet, .answerWait],
      Rested (inState x joined) ∧ loaded (inState x joined) = true ∧ active (inState x joined) = true ∧
        (inState x joined).lnu.state = x := by
  unfold Rested Settled OutputsFollow; decide +kernel

/-- A HELD LOAD claim's refresh is the least urgent of eight: a newcomer drops it, the claim is LOST at once, and the RELEASE that
this leads to finds the queue full again and itself drops the DOOR alarm. -/
def crowded : State :=
  withLine (fun l => { l with queue := full.lnu.queue.map (fun e => if e.item = .report then { e with urgency := 4 } else e) })
    (setEntry .load 5 (some { share := .held 10, urgency := 3, age := 0 })
      (setOwn .load { OwnClaim.atReset with state := .held, amount := 10, held := 10, urgency := 3 } full))

theorem test_dropped_refresh_loses_claim_at_once :
    let t := queueNotice (.alarm (.latch .frostgrp)) 6 crowded
    (own .load t).state = .waiting ∧ entryAt .load 5 t = none ∧ t.ftu.notes = 2 ∧
      (entryUnder (.side .load) t.lnu.queue).map QueueEntry.item = some (.release .load) ∧
      entryUnder (.alarm (.latch .door)) t.lnu.queue = none := by decide +kernel

theorem witness_QueueHeadAndDrops :
    (active full = true ∧ full.sld.mode = .joined ∧ full.lnu.queue.length = 8 ∧
      (full.lnu.queue.map (fun e => keyOf e.item)).Nodup ∧
      ∀ e ∈ full.lnu.queue, keyOf e.item ≠ keyOf (.alarm (.latch .frostgrp))) ∧
      (∃ e ∈ full.lnu.queue, e.sending = false ∧ e.urgency < 6 ∧ e.item = .report) ∧
      (∀ e ∈ full.lnu.queue, e.sending = false → 1 ≤ e.urgency) ∧
      (active crowded = true ∧ crowded.lnu.queue.length = 8 ∧ (crowded.lnu.queue.map (fun e => keyOf e.item)).Nodup ∧
        (own .load crowded).state = .held ∧
        ∃ e ∈ crowded.lnu.queue, e.item = .claim .load true ∧ e.sending = false ∧ e.urgency < 6) ∧
      (queueHead full.lnu.queue).isSome = true ∧ queueHead [] = none := by decide +kernel

/-- Quiet, a REPORT waiting: its slot is (7 - 1) x 25 + 5 = 155. -/
def ready (item : Outgoing) (u : Nat) : State :=
  withLine (fun l => { l with state := .quiet, queue := [waitingEntry item u 0], nextAge := 1 }) joined

def atSlot (n : Nat) (s : State) : State := withLine (fun l => { l with slot := n }) s

theorem test_report_wins :
    then_ (exec (.winTime 155) (ready .report 1)) (fun t => t.lnu.state == .sending && t.bodiesFilled == 1) = true ∧
      then_ (exec (.winTime 154) (ready .report 1)) (fun t => t.lnu.state == .quiet) = true ∧
      then_ (exec (.winTime 156) (ready .report 1)) (fun t => t.lnu.state == .quiet) = true := by decide +kernel

/-- Its slot gone by, the head starts at the next (R47). -/
theorem test_late_head_takes_next_slot :
    then_ (exec (.winTime 161) (atSlot 160 (ready .report 1))) (fun t => t.lnu.state == .sending) = true ∧
      then_ (exec (.winTime 162) (atSlot 160 (ready .report 1))) (fun t => t.lnu.state == .quiet) = true := by decide +kernel

theorem witness_WinTimeSendsHead :
    (Rested (ready .report 1) ∧ active (ready .report 1) = true ∧ (ready .report 1).lnu.state = .quiet ∧
      queueHead (ready .report 1).lnu.queue = some (waitingEntry .report 1 0) ∧
      cancelled .report 1 (ready .report 1) = false) ∧
      (Rested (ready (.claim .supply true) 3) ∧ active (ready (.claim .supply true) 3) = true ∧
        (ready (.claim .supply true) 3).lnu.state = .quiet ∧
        queueHead (ready (.claim .supply true) 3).lnu.queue = some (waitingEntry (.claim .supply true) 3 0) ∧
        (own .supply (ready (.claim .supply true) 3)).state ≠ .held ∧
        queueHead ((ready (.claim .supply true) 3).lnu.queue.filter
          (fun x => keyOf x.item != keyOf (.claim .supply true))) = none) ∧
      (let s := setEntry .load 3 (some { share := .held 31, urgency := 3, age := 0 })
        (setOwn .load { OwnClaim.atReset with state := .announcing, amount := 10, urgency := 3 } (ready (.claim .load false) 3))
       Rested s ∧ active s = true ∧ s.lnu.state = .quiet ∧
        queueHead s.lnu.queue = some (waitingEntry (.claim .load false) 3 0) ∧ (own .load s).state = .announcing ∧
        (own .load s).urgency < 6 ∧ capacityOf .load s < (own .load s).amount + othersSum .load s ∧
        queueHead (s.lnu.queue.filter (fun x => keyOf x.item != keyOf (.claim .load false))) = none) := by
  unfold Rested Settled OutputsFollow; decide +kernel

theorem witness_StepTakesFrontCommand :
    { joined with pending := [.minuteMark, .quietReached] }.pending = .minuteMark :: [.quietReached] ∧
      (State.reset.pending = [] ∧ State.reset.lnu.state ≠ .quiet) ∧
      ((ready .report 1).pending = [] ∧ (ready .report 1).lnu.state = .quiet ∧
        ∀ e, queueHead (ready .report 1).lnu.queue = some e →
          (ready .report 1).lnu.slot + 1 < slotOfStart e (ready .report 1)) ∧
      ∃ e, queueHead (atSlot 154 (ready .report 1)).lnu.queue = some e ∧
        slotOfStart e (atSlot 154 (ready .report 1)) ≤ (atSlot 154 (ready .report 1)).lnu.slot + 1 := by
  refine ⟨by decide, by decide, ⟨rfl, rfl, ?_⟩, waitingEntry .report 1 0, by decide +kernel, by decide +kernel⟩
  intro e h
  cases h
  decide +kernel

/-- A notice of this station on the line. -/
def onLine (item : Outgoing) (u : Nat) (body : List Byte) (s : State) : State :=
  withLine (fun l => { l with
    state := .sending, queue := [{ waitingEntry item u 0 with sending := true }], nextAge := 1
    onLine := some { item := item, urgency := u, body := body } }) s

/-- Bit 9 of RELEASE(LOAD) is a stop bit: nothing of the next character has been read; at bit 12 of it the bits of that character
are the start bit, 1 and the dominant one just read, which a winner has to match (R49). -/
theorem test_echo_keeps_bits :
    then_ (exec (.echoConflict 19) (onLine (.release .load) 5 [1] joined))
      (fun t => t.lnu.parser.chars == [0x53] && t.lnu.parser.bits.length == 10 &&
        receives (notice 3 5 0 5 [1]) t == false) = true ∧
      then_ (exec (.echoConflict 11) (onLine (.release .load) 5 [1] joined))
        (fun t => t.lnu.parser.bits == [true, true] && receives (notice 3 5 0 4 [1]) t &&
          receives (notice 3 5 0 3 [1]) t == false) = true := by decide +kernel

theorem witness_UnsentNotices :
    (Rested (onLine (.release .load) 5 [1] joined) ∧ active (onLine (.release .load) 5 [1] joined) = true ∧
      drives false 9 (onLine (.release .load) 5 [1] joined) = true ∧
      drives false 59 (onLine (.release .load) 5 [1] joined) = true ∧
      drives true 0 (onLine (.release .load) 5 [1] joined) = true ∧ loaded (onLine (.release .load) 5 [1] joined) = true ∧
      (onLine (.release .load) 5 [1] joined).lnu.state = .sending) ∧
      (Rested (listening joined) ∧ loaded (listening joined) = true ∧ (listening joined).lnu.state = .receiving) := by
  unfold Rested Settled OutputsFollow; decide +kernel

theorem witness_ReportAndRollCallSent :
    (let s := onLine .report 1 (List.replicate 28 0) joined
     Rested s ∧ active s = true ∧ s.lnu.state = .sending ∧
      s.lnu.onLine = some { item := .report, urgency := 1, body := List.replicate 28 0 }) ∧
    (let s := onLine (.rollcall .stopping) 4 [3, 0] joined
     Rested s ∧ active s = true ∧ s.lnu.state = .sending ∧
      s.lnu.onLine = some { item := .rollcall .stopping, urgency := 4, body := [3, 0] }) := by
  unfold Rested Settled OutputsFollow; decide +kernel

def asking (x : OwnState) (s : State) : State :=
  setOwn .load { OwnClaim.atReset with state := x, amount := 10, urgency := 3 } s

theorem test_claim_sent_settles :
    then_ (exec .noticeSent (onLine (.claim .load false) 3 [1, 10, 0] (asking .announcing joined)))
      (fun t => (own .load t).state == .settling && (own .load t).settle == some 3 && (own .load t).refresh == some 60 &&
        t.lnu.queue.isEmpty) = true := by decide +kernel

theorem witness_InitialClaimSentSettles :
    let s := onLine (.claim .load false) 3 [1, 10, 0] (asking .announcing joined)
    let t := setEntry .load 3 (some { share := .held 31, urgency := 3, age := 0 }) s
    (Settled s ∧ active s = true ∧ s.lnu.state = .sending ∧
      s.lnu.onLine = some { item := .claim .load false, urgency := 3, body := [1, 10, 0] } ∧
      (own .load s).state = .announcing ∧ 1 ≤ (setting s).station ∧ (setting s).station ≤ 24 ∧
      byteAt [1, 10, 0] 1 +
        (((entriesOf .load s).filter (fun e => e.1 != (setting s).station)).map (fun e => largerPart e.2.share)).sum ≤
        capacityOf .load s) ∧
      (Settled t ∧ active t = true ∧ t.lnu.state = .sending ∧ (own .load t).state = .announcing ∧ (own .load t).urgency < 6 ∧
        capacityOf .load t < byteAt [1, 10, 0] 1 +
          (((entriesOf .load t).filter (fun e => e.1 != (setting t).station)).map (fun e => largerPart e.2.share)).sum) := by
  unfold Settled; decide +kernel

def demanding (c : ConfirmState) (s : State) : State :=
  { s with ogu := { s.ogu with
    state := .stuck, hold := .stuck, stopOwed := true, confirm := c
    stop := some { cause := .stuck, urgency := 6, escalated := false } } }

/-- A supply station that honours tower 5 with its pumps stopped. -/
def honouring (s : State) : State :=
  setPeer 1 { Peer.atReset with state := .heard, role := some .supply, supply := some ⟨0, 0, [5]⟩ } s

theorem witness_StopConfirmation :
    (∀ x ∈ [joined, honouring joined],
      let s := onLine .stop 6 [1, 0] (demanding .pending x)
      active s = true ∧ s.lnu.state = .sending ∧ s.lnu.onLine = some { item := .stop, urgency := 6, body := [1, 0] } ∧
        (byteAt [1, 0] 0).testBit 0 = true ∧
        s.ogu.stop = some { cause := .stuck, urgency := 6, escalated := false } ∧ s.ogu.confirm = .pending) ∧
      demandConfirmed (honouring joined) = true ∧ demandConfirmed joined = false ∧
      (active unconfirmed = true ∧ unconfirmed.ogu.confirmTimer = some 0 ∧ unconfirmed.ogu.confirm = .waiting ∧
        unconfirmed.ogu.stop = some { cause := .stuck, urgency := 6, escalated := false }) := by
  decide +kernel

theorem witness_LineFaultBeginsAndEnds :
    (active joined = true ∧ joined.lnu.state ≠ .window ∧ joined.lnu.state ≠ .lineFault) ∧
      (active (inState .lineFault joined) = true ∧ (inState .lineFault joined).lnu.state = .lineFault) := by decide +kernel

/-- The two windows of section 3.9. -/
theorem witness_windows :
    garbled.extractLsb' 0 24 ≠ garbled.extractLsb' 24 24 ∧ clean.extractLsb' 0 24 = clean.extractLsb' 24 24 ∧
      ∀ q ∈ [Question.hold .supply, .hold .load, .alarm 0, .alarm 7, .stopping],
        active (window q joined) = true ∧ (window q joined).lnu.state = .window ∧
          (window q joined).lnu.rollCall = some { question := q, mine := false, answer := false, samples := 0 } := by
  decide +kernel

/-- This station answers yes: its own two positions read dominant whatever the others drive (R57). -/
theorem test_window_reads_own_answer :
    then_ (exec (.windowEnd 0) (withLine (fun l => { l with rollCall := some {
        question := .hold .load, mine := true, answer := true, samples := 0 } }) (window (.hold .load) joined)))
      (fun t => t.lnu.rollCall.map RollCall.samples == some (BitVec.ofNat 48 (2 ^ 4 + 2 ^ 28)) && incomplete .load t == none) =
      true := by decide +kernel

theorem witness_HoldWindowJudged :
    (active (window (.hold .load) joined) = true ∧ (window (.hold .load) joined).lnu.state = .window ∧
      (window (.hold .load) joined).lnu.rollCall =
        some { question := .hold .load, mine := false, answer := false, samples := 0 }) ∧
      (let read := windowRead garbled { question := .hold .load, mine := false, answer := false, samples := 0 }
        (window (.hold .load) joined)
       read.extractLsb' 0 24 ≠ read.extractLsb' 24 24) ∧
      (let read := windowRead clean { question := .hold .load, mine := false, answer := false, samples := 0 }
        (window (.hold .load) joined)
       read.extractLsb' 0 24 = read.extractLsb' 24 24 ∧ read.toNat.testBit (3 - 1) = true ∧
        3 ≠ (setting (window (.hold .load) joined)).station ∧ othersOf (window (.hold .load) joined) .load 3 = none) := by
  decide +kernel

theorem witness_RollCallWritesTowers :
    ∀ q ∈ [Question.stopping, .alarm 4, .alarm 5],
      active (window q joined) = true ∧ (window q joined).lnu.state = .window ∧
        (window q joined).lnu.rollCall = some { question := q, mine := false, answer := false, samples := 0 } ∧
        (windowRead clean { question := q, mine := false, answer := false, samples := 0 } (window q joined)).extractLsb' 0 24 =
          (windowRead clean { question := q, mine := false, answer := false, samples := 0 } (window q joined)).extractLsb' 24 24 := by
  decide +kernel

/-! ### Notices heard -/

/-- A RELEASE(LOAD) that carries this station's own number, and the same from station 3. -/
theorem witness_DuplicateStation :
    (active (listening joined) = true ∧
      HeardAs (notice 3 5 0 5 [1]) { urgency := 5, station := 5, role := .tower, content := .release .load }
        (listening joined) ∧ 5 = (setting (listening joined)).station) ∧
      (active (withLine (fun l => { l with dupTimer := some 600 }) joined) = true ∧
        600 ≤ (withLine (fun l => { l with dupTimer := some 600 }) joined).lnu.dupTimer.getD 0) := by
  simp only [heardAs_iff]; decide +kernel

def heardFrom (role : Role) (content : Content) (u : Nat) : Heard :=
  { urgency := u, station := 3, role := role, content := content }

/-- One notice of each kind from station 3. -/
theorem witness_PeerNoticeWritesRecord :
    active (listening joined) = true ∧ 3 ≠ (setting (listening joined)).station ∧
      HeardAs (notice 1 1 0 3 ([19, 136, 160] ++ List.replicate 25 0)) (heardFrom .tower (.report 5000 5 false) 1)
        (listening joined) ∧
      HeardAs (notice 4 7 0 3 [6, 1]) (heardFrom .tower (.alarm 6 true) 7) (listening joined) ∧
      HeardAs (notice 5 6 0 3 [1, 2]) (heardFrom .tower (.stop true .spill) 6) (listening joined) ∧
      HeardAs (notice 8 7 0 3 (List.replicate 14 0)) (heardFrom .tower .trip 7) (listening joined) ∧
      HeardAs (notice 9 3 1 3 [8, 15, 5]) (heardFrom .supply (.supply 8 15 [5]) 3) (listening joined) ∧
      HeardAs (notice 7 4 2 3 [2, 9]) (heardFrom .gateway (.rollcall (.alarm 7)) 4) (listening joined) := by
  simp only [heardAs_iff]; decide +kernel

theorem witness_ClaimNoticeWritesEntry :
    active (listening joined) = true ∧ 3 ≠ (setting (listening joined)).station ∧
      ownSettling .load (listening joined) = false ∧
      HeardAs (notice 2 3 0 3 [1, 0, 0]) (heardFrom .tower (.claim .load 0 false) 3) (listening joined) ∧
      HeardAs (notice 2 3 0 3 [1, 255, 7]) (heardFrom .tower (.claim .load 255 true) 3) (listening joined) ∧
      HeardAs (notice 2 6 0 3 [0, 1, 0]) (heardFrom .tower (.claim .supply 1 false) 6) (listening joined) ∧
      HeardAs (notice 3 5 0 3 [0]) (heardFrom .tower (.release .supply) 5) (listening joined) := by
  simp only [heardAs_iff]; decide +kernel

/-- An excess of 6 is covered only with the own amount, one of 5 without it: 7 goes before 5 at one urgency, 2 by its lower one. -/
theorem witness_ClaimNoticeWritesEntry_yields :
    MustYield [(5, 3, 8), (7, 3, 4), (2, 2, 1)] 5 6 ∧ ¬ MustYield [(5, 3, 8), (7, 3, 4), (2, 2, 1)] 5 5 := by
  refine ⟨⟨3, 8, by decide, by decide⟩, ?_⟩
  rintro ⟨u, a, h, lt⟩
  simp only [List.mem_cons, Prod.mk.injEq, List.not_mem_nil] at h
  obtain ⟨-, rfl, rfl⟩ | ⟨h, -⟩ | ⟨h, -⟩ | h := h
  · revert lt; decide
  · omega
  · omega
  · exact h.elim

/-- 16 units of LOAD held at urgency 3. -/
def holder : State :=
  setEntry .load 5 (some { share := .held 16, urgency := 3, age := 0 })
    (setOwn .load { OwnClaim.atReset with state := .held, amount := 16, held := 16, urgency := 3 } joined)

/-- It objects to a newcomer of 30 of the 40 units, and yields to 30 at urgency 6; 24 leave it alone. -/
theorem test_holder_objects_or_yields :
    (entryUnder (.side .load) (claimHeard .load false 3 30 4 holder).lnu.queue).map QueueEntry.item = some (.claim .load true) ∧
      (claimHeard .load false 3 24 4 holder).lnu.queue = [] ∧
      (own .load (claimHeard .load false 3 30 6 holder)).state = .waiting ∧
      (own .load (claimHeard .load false 3 24 6 holder)).state = .held := by decide +kernel

def underMaintenance (s : State) : State := { s with ilu := { s.ilu with debounced := put s.ilu.debounced 8 true } }

theorem witness_AckNoticeActs :
    (active (listening joined) = true ∧ 3 ≠ (setting (listening joined)).station ∧
      HeardAs (notice 10 3 2 3 [5, 63, 1]) (heardFrom .gateway (.ack 5 63 true) 3) (listening joined) ∧
      5 = (setting (listening joined)).station ∧ debounced .maint (listening joined) = false ∧
      StagesAgree (listening joined)) ∧
      (HeardAs (notice 10 3 2 3 [5, 63, 0]) (heardFrom .gateway (.ack 5 63 false) 3) (listening joined) ∧
        faultAcked .inletStuck (listening joined) = false) ∧
      HeardAs (notice 10 3 2 3 [6, 63, 1]) (heardFrom .gateway (.ack 6 63 true) 3) (listening joined) ∧
      HeardAs (notice 10 3 2 3 [5, 31, 1]) (heardFrom .gateway (.ack 5 31 true) 3) (listening joined) ∧
      HeardAs (notice 10 3 0 3 [5, 63, 1]) (heardFrom .tower (.ack 5 63 true) 3) (listening joined) ∧
      (active (listening (underMaintenance joined)) = true ∧
        HeardAs (notice 10 3 2 3 [5, 63, 1]) (heardFrom .gateway (.ack 5 63 true) 3) (listening (underMaintenance joined)) ∧
        debounced .maint (listening (underMaintenance joined)) = true ∧
        (setting (listening (underMaintenance joined))).remoteAck = false) := by
  unfold StagesAgree; simp only [heardAs_iff]; decide +kernel

def lone : State :=
  { State.reset with
    sld := { Loader.atReset with mode := .unconfigured, load := .failed }
    msu := { Measure.atReset with running := true }
    odu := { Outputs.atReset with alarm := true } }

theorem witness_UnconfiguredOnlyListens :
    (Rested lone ∧ lone.resetLow = false ∧ lone.sld.mode = .unconfigured ∧ lone.msu.running = true) ∧
      (Rested (listening lone) ∧ (listening lone).resetLow = false ∧ (listening lone).sld.mode = .unconfigured ∧
        HeardAs (notice 7 4 2 3 [3, 0]) (heardFrom .gateway (.rollcall .stopping) 4) (listening lone) ∧
        receives [3, 5, 1, 1, 0, 0] (listening lone) = true ∧ readNotice [3, 5, 1, 1, 0, 0] = .error .check ∧
        (listening lone).lnu.onLine = none ∧ ∀ e ∈ (listening lone).lnu.queue, e.sending = false) := by
  unfold Rested Settled OutputsFollow; simp only [heardAs_iff, error_iff]; decide +kernel

/-! ### Peers and claims over time -/

def silentPeer : State := setPeer 3 { Peer.atReset with state := .heard, role := some .tower, silence := 180 } joined

theorem witness_PeerLostIsForgotten :
    active silentPeer = true ∧ (peerAt 3 silentPeer).state = .heard ∧
      (setting silentPeer).peerTimeout ≤ (peerAt 3 silentPeer).silence := by decide +kernel

def entry (share : Share) (age : Nat) : Holding := { share := share, urgency := 3, age := age }

/-- The age limit of tower 5 is 2 x 60 + 3 = 123 s. -/
theorem witness_PeerEntrySettlesAndAges :
    let s := setEntry .load 3 (some (entry (.settling 10 none 0 false) 5)) joined
    let t := setEntry .supply 24 (some (entry (.held 1) 123)) joined
    (active s = true ∧ 3 ≠ (setting s).station ∧ entryAt .load 3 s = some (entry (.settling 10 none 0 false) 5)) ∧
      (active t = true ∧ 24 ≠ (setting t).station ∧ entryAt .supply 24 t = some (entry (.held 1) 123) ∧
        ((setting t).allowance + 1) * (setting t).tRefresh + (setting t).tSettle ≤ 123) := by decide +kernel

/-- Tower 5's LOAD claim of 10 settling beside a HELD amount of station 3. -/
def settledBeside (other : Nat) : State :=
  setEntry .load 5 (some (entry (.settling 10 none 0 false) 0))
    (setEntry .load 3 (some (entry (.held other) 0))
      (setOwn .load { OwnClaim.atReset with
        state := .settling, amount := 10, urgency := 3, settle := some 0, refresh := some 57 } joined))

def supplySettled : State :=
  setEntry .supply 5 (some (entry (.settling 1 none 0 false) 0))
    (setOwn .supply { OwnClaim.atReset with
      state := .settling, amount := 1, urgency := 6, settle := some 0, refresh := some 57 } joined)

def raiseSettled (other : Nat) : State :=
  setEntry .load 5 (some (entry (.settling 20 (some 10) 0 false) 0))
    (setEntry .load 3 (some (entry (.held other) 0))
      (setOwn .load { OwnClaim.atReset with
        state := .held, amount := 20, held := 10, urgency := 3, settle := some 0, refresh := some 57
        raise := some { pending := 20, phase := .settling } } joined))

/-- Settling at urgency 6 beside 31 units held, lowered to 3: the table has changed and the claim no longer fits (R77, R88). -/
theorem test_lowered_urgency_withdraws :
    let s := setEntry .load 5 (some { share := .settling 10 none 2 false, urgency := 6, age := 0 })
      (setOwn .load { own .load (settledBeside 31) with urgency := 6, settle := some 2 } (settledBeside 31))
    (own .load (event (changeUrgency .load 3) s)).state = .waiting ∧
      entryAt .load 5 (event (changeUrgency .load 3) s) = none := by decide +kernel

theorem witness_OwnSettleVerdict :
    let good := fun (r : Resource) (s : State) =>
      active s = true ∧ ownSettling r s = true ∧ (own r s).settle = some 0 ∧ 1 ≤ (setting s).station ∧
        (setting s).station ≤ 24
    (good .load (settledBeside 30) ∧ (own .load (settledBeside 30)).state = .settling ∧
      (own .load (settledBeside 30)).refreshOwed = false ∧
      settlingAmount .load (settledBeside 30) + othersSum .load (settledBeside 30) ≤ capacityOf .load (settledBeside 30)) ∧
      (good .supply supplySettled ∧ 6 ≤ (own .supply supplySettled).urgency ∧
        (own .supply supplySettled).refreshOwed = false ∧ supplySettled.handOns = []) ∧
      (good .load (settledBeside 31) ∧ (own .load (settledBeside 31)).urgency < 6 ∧
        (own .load (settledBeside 31)).state = .settling ∧
        capacityOf .load (settledBeside 31) <
          settlingAmount .load (settledBeside 31) + othersSum .load (settledBeside 31)) ∧
      (good .load (raiseSettled 21) ∧ (own .load (raiseSettled 21)).state = .held ∧
        (own .load (raiseSettled 21)).raise.map Raise.phase = some .settling ∧
        (own .load (raiseSettled 21)).urgency < 6 ∧ (raiseSettled 21).lnu.queue.length < 8 ∧
        capacityOf .load (raiseSettled 21) <
          settlingAmount .load (raiseSettled 21) + othersSum .load (raiseSettled 21)) := by decide +kernel

def holding (refresh missed : Nat) (raise : Option Raise) : State :=
  setOwn .load { OwnClaim.atReset with
    state := .held, amount := 10, held := 10, urgency := 3, refresh := some refresh, missed := missed, raise := raise } joined

def requeued : State :=
  withLine (fun l => { l with queue := [waitingEntry (.claim .load true) 3 0], nextAge := 1 }) (holding 3 0 none)

def stale : State :=
  withLine (fun l => { l with queue := [waitingEntry (.claim .load false) 6 0], nextAge := 1 }) (holding 3 0 none)

theorem witness_RefreshLeadAndTime :
    (∀ x ∈ [some (Raise.mk 20 .settling), none],
      Rested (holding 3 0 x) ∧ active (holding 3 0 x) = true ∧ (own .load (holding 3 0 x)).state = .held ∧
        (own .load (holding 3 0 x)).leadDone = false ∧ (own .load (holding 3 0 x)).refresh = some 3 ∧
        3 ≤ (setting (holding 3 0 x)).tSettle ∧ (holding 3 0 x).lnu.queue = [] ∧ (holding 3 0 x).sld.mode = .joined) ∧
      (Rested requeued ∧ active requeued = true ∧ (own .load requeued).state = .held ∧
        (own .load requeued).leadDone = false ∧ (own .load requeued).raise = none ∧
        requeued.lnu.queue = [waitingEntry (.claim .load true) 3 0]) ∧
      (Rested stale ∧ active stale = true ∧ (own .load stale).state = .held ∧ (own .load stale).leadDone = false ∧
        (own .load stale).raise = none ∧ stale.sld.mode = .joined ∧
        stale.lnu.queue = [waitingEntry (.claim .load false) 6 0] ∧ keyOf (.claim .load false) = .side .load) ∧
      (Rested (holding 0 0 none) ∧ (own .load (holding 0 0 none)).refresh = some 0 ∧
        (own .load (holding 0 0 none)).missed + 1 ≤ (setting (holding 0 0 none)).allowance) ∧
      (Rested (holding 0 1 none) ∧ (own .load (holding 0 1 none)).refresh = some 0 ∧
        (setting (holding 0 1 none)).allowance < (own .load (holding 0 1 none)).missed + 1) := by
  unfold Rested Settled OutputsFollow; decide +kernel

def incompleteLoad (x : OwnState) : State := setIncompleteTimer .load (some 0) (asking x joined)

theorem witness_IncompleteFlagClears :
    (Rested (incompleteLoad .none) ∧ active (incompleteLoad .none) = true ∧
      incomplete .load (incompleteLoad .none) = some 0 ∧ (own .load (incompleteLoad .none)).state = .none) ∧
      (Rested (incompleteLoad .waiting) ∧ active (incompleteLoad .waiting) = true ∧
        incomplete .load (incompleteLoad .waiting) = some 0 ∧ (own .load (incompleteLoad .waiting)).state = .waiting ∧
        (incompleteLoad .waiting).sld.mode = .joined ∧ dupPresent (incompleteLoad .waiting) = false ∧
        (own .load (incompleteLoad .waiting)).amount + othersSum .load (incompleteLoad .waiting) ≤
          capacityOf .load (incompleteLoad .waiting) ∧
        (incompleteLoad .waiting).lnu.queue = []) := by
  unfold Rested Settled OutputsFollow; decide +kernel

def joining (f : Claims → Claims) : State :=
  { joined with sld := { joined.sld with mode := .joining }, clu := f joined.clu }

theorem witness_JoiningTimers :
    (let s := joining (fun c => { c with listening := some 0 })
     Rested s ∧ active s = true ∧ s.clu.listening = some 0 ∧ s.clu.inFlight = none ∧ s.lnu.queue = []) ∧
    ∀ b : Bool,
      let s := joining (fun c => { c with answer := some 0, answeredSupply := b, answeredLoad := !b })
      active s = true ∧ s.clu.answer = some 0 ∧ s.sld.mode = .joining ∧ s.clu.answeredSupply = b ∧
        s.clu.answeredLoad = !b := by
  unfold Rested Settled OutputsFollow; decide +kernel

/-! ### The jobs -/

/-- Volumes at the target, just below it, and an inflow that the draw takes whole. -/
theorem witness_PlanSlackAndUrgency :
    (computePlan { filling with msu := { filling.msu with vm := 1400000 } }).n = 0 ∧
      (computePlan { filling with msu := { filling.msu with vm := 1399999 } }).n = 1 ∧
      (computePlan { filling with flc := { filling.flc with qEst := some 500 } }).qNet = 0 ∧
      (computePlan filling).n = 800000 ∧ (computePlan filling).qNet = 2500 ∧ (computePlan filling).slack = 60 := by
  decide +kernel

def unopened : State :=
  { joined with flc := { joined.flc with state := .fill .tariff, openRequest := true, openTimer := some 0 } }

theorem witness_InletOpenFailure :
    (active unopened = true ∧ unopened.flc.openTimer = some 0 ∧ isFill unopened.flc.state = true ∧
      unopened.odu.position ≠ .opened) ∧
      (active { joined with flc := { joined.flc with clearing := some 900 } } = true ∧
        900 ≤ { joined with flc := { joined.flc with clearing := some 900 } }.flc.clearing.getD 0) := by decide +kernel

/-- The fill states of R108 and R117: a need with slack 60, a turnover with room, a block cause come and gone. -/
theorem witness_FillStateMoves :
    let idle := fun (x : FillState) (s : State) => { s with flc := { s.flc with state := x } }
    let asked := { filling with frc := { filling.frc with turnoverRequest := true } }
    (planStep (idle .rest filling)).flc.state = .claim .tariff ∧
      ((planStep (idle .wait { asked with flc := { asked.flc with night := false } })).flc.state = .claim .turnover ∧
        (setting asked).turnoverAmount = 300) ∧
      (planStep (idle .rest { filling with
        ogu := { filling.ogu with state := .watch }, ptb := { filling.ptb with anySpill := true } })).flc.state =
          .fill .relief ∧
      (planStep { filling with msu := { filling.msu with volume := 1400000 } }).flc.state = .rest ∧
      (filling.flc.state ≠ .rest ∧ (setFill .rest filling).flc.openRequest = false) ∧
      (takeCauses filling).flc.state = .fill .tariff ∧
      (takeCauses (underMaintenance filling)).flc.state = .blocked ∧
      (takeCauses (idle .blocked filling)).flc.state = .claim .tariff := by decide +kernel

/-- The guard in SHUT over a baseline, at a fresh mark 20 mm above it, below H_ovf and at it. -/
def leaking (lf : Int) : State :=
  { measured with
    msu := { measured.msu with lf := lf, minuteDue := true }
    odu := { measured.odu with position := .closed }
    ogu := { measured.ogu with state := .shut, baseline := some (lf - 20) } }

/-- STOP is queued before the ALARM of the fault, and wins first (section 7.8). -/
theorem test_stop_before_fault_alarm :
    then_ (exec .strokeTimerExpiry jammed)
      (fun t => (queueHead t.lnu.queue).map QueueEntry.item == some .stop &&
        (entryUnder (.alarm .inletStuck) t.lnu.queue).map QueueEntry.urgency == some 6) = true := by decide +kernel

/-- A level at H_ovf in CUT: each state passed through is handed to the key with its own value (R127, R164). -/
theorem test_states_passed_through_reach_key :
    (enterSpill (enterCut measured)).handOns = [.situation .guard 1, .situation .guard 5] := by decide +kernel

theorem witness_GuardStateMoves :
    (guardMove true measured).map (fun t => t.ogu.state) = some .spill ∧
      (guardMove false { measured with msu := { measured.msu with lf := 11000 } }).map (fun t => t.ogu.state) = some .cut ∧
      (guardMove false { jammed with odu := { jammed.odu with position := .closed } }).map (fun t => t.ogu.state) = some .shut ∧
      (guardMove false { measured with ogu := { measured.ogu with state := .shut } }).map (fun t => t.ogu.state) = some .watch ∧
      (guardMove false { unconfirmed with
        odu := { unconfirmed.odu with position := .closed }
        ftu := { unconfirmed.ftu with acked := put unconfirmed.ftu.acked 10 true } }).map (fun t => t.ogu.state) = some .watch ∧
      (∀ x ∈ [HoldRecord.none, .stuck, .leak], (guardMove false { measured with
        ogu := { measured.ogu with state := .spill, hold := x } }).isSome = true) ∧
      (active measured = true ∧ measured.msu.running = true ∧ measured.ogu.state = .watch ∧
        measured.odu.position ≠ .closed) ∧
      (∀ lf ∈ [(11599 : Int), 11600], active (leaking lf) = true ∧ (leaking lf).msu.minuteDue = true ∧
        (leaking lf).msu.level = .fresh ∧ (leaking lf).ogu.state = .shut ∧ (leaking lf).ogu.baseline = some (lf - 20) ∧
        (setting (leaking lf)).leakThreshold ≤ (leaking lf).msu.lf - (lf - 20) ∧
        inFaultSet .inletLeak (leaking lf) = false ∧
        max 0 ((setting (leaking lf)).hHi - (setting (leaking lf)).hHys) < (setting (leaking lf)).hOvf) := by
  decide +kernel

theorem witness_StrokeTimerFindsStuck :
    active jammed = true ∧ jammed.ogu.stroke = some 0 ∧ jammed.ogu.state = .cut ∧ jammed.odu.position ≠ .closed ∧
      refillLevel jammed < (setting jammed).hOvf ∧ ¬ (setting jammed).hOvf ≤ jammed.msu.lf ∧
      jammed.ftu.safeHold = false ∧
      (setting jammed).hOvf ≤ { jammed with msu := { jammed.msu with lf := 11600 } }.msu.lf := by decide +kernel

/-- The valve found stuck while STOP_UNCONFIRMED stands: the second HOLD fault. -/
def jammedTwice : State :=
  { jammed with ftu := { jammed.ftu with inSet := put jammed.ftu.inSet (faultIndex .stopUnconfirmed) true, total := 65534 } }

theorem witness_StrokeTimerFindsStuck_second :
    conditionPresent .inletStuck jammedTwice = false ∧ inFaultSet .inletStuck jammedTwice = false ∧
      jammedTwice.ftu.safeHold = false ∧ inFaultSet .stopUnconfirmed jammedTwice = true ∧ jammedTwice.lnu.queue.length ≤ 5 ∧
      then_ (exec .strokeTimerExpiry jammedTwice)
        (fun t => t.ftu.safeHold && t.ftu.total == 65535 && (entryUnder .trip t.lnu.queue).isSome &&
          t.ftu.snapshot.map Snapshot.guard == some .stuck) = true := by decide +kernel

/-- A cold night: stages 1 and 2 wanted, 20 units held, stage 1 on and stage 2 to come. -/
def heating : State :=
  setStage 0 { command := true, state := .on, timer := none }
    { setOwn .load { OwnClaim.atReset with state := .held, amount := 16, held := 16, urgency := 3 } measured with
      frc := { measured.frc with
        airWatch := true, state := .heat, wishes := #v[true, true, false, false], target := 2
        selected := #v[true, true, false, false], required := 16, asked := some (16, 3) } }

theorem witness_FrostEvaluationDecides :
    active heating = true ∧ heating.msu.running = true ∧ (stageAt 1 (frostEvaluate heating)).state = .proving ∧
      (frostEvaluate heating).frc.required = 16 ∧ (frostEvaluate heating).frc.starved = false ∧
      (frostEvaluate { heating with frc := { heating.frc with airWatch := false } }).frc.asked = none := by decide +kernel

/-- Section 8.10: a movement of 60 mm with TW at 36. -/
def stagnating : State :=
  { joined with
    msu := { joined.msu with tw := { value := 36, state := .good } }
    frc := { joined.frc with stagLow := some 8140, stagHigh := some 8200, stagMinutes := 360 } }

theorem test_stagnant_period_raises_request :
    then_ (exec .stagnationPeriodEnd stagnating)
      (fun t => t.frc.turnoverRequest && t.frc.stagMinutes == 0 && t.frc.stagLow == none) = true := by decide +kernel

theorem witness_StagnationAndReportTimers_period :
    Rested stagnating ∧ active stagnating = true ∧ 60 * (setting stagnating).stagHours ≤ stagnating.frc.stagMinutes := by
  unfold Rested Settled OutputsFollow; decide +kernel

def reportDue (q : Bool) : State := { joined with rpu := { joined.rpu with queued := q, timerDue := true } }

theorem witness_StagnationAndReportTimers_report :
    ∀ q : Bool, Rested (reportDue q) ∧ active (reportDue q) = true ∧ (reportDue q).rpu.timerDue = true ∧
      (reportDue q).rpu.queued = q ∧ (reportDue q).lnu.queue = [] := by
  unfold Rested Settled OutputsFollow; decide +kernel

/-- Entries 2 and 16 of the table, a key that matches the first of two, and the last position. -/
theorem witness_SituationLookup :
    (15 : Nat) < 16 ∧ (45 : Nat) < 46 ∧ (lookup (firstKey 0) winter.entries).map TableEntry.link = some 2 ∧
      lookup (secondKey 2 0) winter.entries = none ∧
      (lookup (secondKey 2 (BitVec.ofNat 46 (2 ^ 41))) winter.entries).map TableEntry.interval = some 3 := by decide +kernel

/-! ### Frames and laws -/

/-- The key with the guard field at STUCK, and the same value handed again. -/
theorem test_field_as_handed :
    (takeHandOn (.situation .guard 4) joined).stu.key = BitVec.ofNat 46 (4 * 2 ^ 30) ∧
      takeHandOn (.situation .guard 0) joined = joined := by decide +kernel

theorem witness_CommandsKeepOtherBlocks : exec .clearingTimerExpiry joined = .next joined := rfl

/-- A state in safe hold with a command in front. -/
def inSafeHold : State :=
  { unconfirmed with
    pending := [.quietReached]
    ogu := { unconfirmed.ogu with stop := some { cause := .safe, urgency := 7, escalated := true }, confirm := .unconfirmed }
    ftu := { unconfirmed.ftu with safeHold := true } }

theorem witness_SafeHoldLawKept :
    (∃ d, inSafeHold.ogu.stop = some d ∧ d.cause = .safe) ∧ OutputsFollow inSafeHold ∧ inSafeHold.ftu.safeHold = true ∧
      then_ (step inSafeHold) (fun t => t.ftu.safeHold && t.lnu.state == .quiet) = true := by
  refine ⟨⟨{ cause := .safe, urgency := 7, escalated := true }, by decide +kernel⟩, ?_⟩
  unfold OutputsFollow; decide +kernel

/-- The REPORT of the full queue on the line. -/
def reporting : State :=
  { onLine .report 1 (List.replicate 28 0) joined with
    pending := [.noticeSent], rpu := { joined.rpu with due := 1, queued := true } }

theorem witness_ReportLawKept : ReportsKept reporting ∧ then_ (step reporting) (fun t => t.rpu.sent == 1) = true := by
  refine ⟨⟨by unfold QueueKept; decide +kernel, ?_, ?_, ?_, ?_⟩, by decide +kernel⟩
  · intro o h
    refine ⟨{ waitingEntry .report 1 0 with sending := true }, by decide, rfl, ?_⟩
    cases h
    rfl
  · intro _; rfl
  · unfold ReportNotRenewed; decide +kernel
  · unfold ReportsAccounted; decide +kernel

def sampling : State := { measured with pending := [.secondEvent 3276 20 20 20] }

theorem witness_LevelLawKept :
    LevelKept sampling ∧ then_ (step sampling) (fun t => t.msu.lf == 5000 && t.msu.secondCount == 1) = true := by
  unfold LevelKept LoadedModes; decide +kernel

theorem witness_InflowLawKept :
    InflowKept { filling with pending := [.minuteMark] } ∧
      then_ (step { filling with pending := [.minuteMark] }) (fun t => t.flc.qEst == some 2750) = true := by
  exact ⟨fun _ => ⟨by decide, 3000, by decide, by decide, by decide⟩, by decide +kernel⟩

theorem witness_HeatingLawKept :
    HeatingKept { heating with pending := [.secondEvent 3276 20 15 0] } ∧ Settled heating ∧
      ¬ (heating.frc.state = .critical ∧ heating.lnu.state = .lineFault) ∧
      then_ (step { heating with pending := [.secondEvent 3276 20 15 0] })
        (fun t => heatRelay 0 t && heatRelay 1 t && ratingSum (fun k => heatRelay k t) t == 16) = true := by
  refine ⟨⟨by unfold StagesAgree; decide +kernel, ⟨by decide, by decide, ?_, ?_⟩, by decide +kernel, by decide +kernel⟩,
    by unfold Settled; decide, by decide +kernel, by decide +kernel⟩
  · intro x h
    cases h
  · intro n h e
    unfold entryAt at e
    split at e
    · simp [claimTable, heating, setStage, setOwn, measured, joined, State.reset, Claims.atReset] at e
    · cases e

theorem witness_EventsComeToRest :
    ComesToRest { heating with pending := [.secondEvent 3276 20 15 0] } ∧
      then_ (step { heating with pending := [.secondEvent 3276 20 15 0] }) (fun t => t.handOns.isEmpty) = true :=
  ⟨by unfold ComesToRest Settled; decide +kernel, by decide +kernel⟩

theorem witness_SupplyClaimLawKept :
    let s := { setEntry .supply 5 (some { share := .held 1, urgency := 3, age := 0 })
      (setOwn .supply { OwnClaim.atReset with state := .held, amount := 1, held := 1, urgency := 3 } filling) with
      pending := [.minuteMark] }
    SupplyClaimKept s ∧ then_ (step s) (fun t => t.flc.state == .fill .tariff && (own .supply t).held == 1) = true := by
  refine ⟨⟨fun h => absurd h (by decide +kernel), by decide +kernel, by decide +kernel, by decide +kernel, by decide +kernel,
    by decide +kernel, ?_, ?_⟩, by decide +kernel⟩
  · intro h e
    cases e
    decide +kernel
  · intro o refresh h
    cases h

theorem witness_OrdersLawKept :
    OrdersBounded { sampling with stu := { sampling.stu with changeCount := 2 } } ∧
      then_ (step sampling) (fun t => t.stu.changeCount ≤ 2) = true := by
  unfold OrdersBounded; decide +kernel

theorem witness_NoticeReadsAsSent :
    (7 : Nat) < 8 ∧ 1 ≤ (24 : Nat) ∧ (24 : Nat) ≤ 24 ∧ measured.msu.lf < 32768 ∧ 0 ≤ measured.msu.volume ∧
      measured.msu.volume < 20971520 := by decide

end Sys2Proof.Tests
end

section
/-! PROOFS. The head of a pressure code (R3) and the strap volume (R8). -/

namespace Sys2Proof.Machine

/-! ### Interpolation -/

/-- A part of a whole of b, in the measure c: it stays within 0..c. -/
theorem floorDiv_share_mem {a b c : Int} (hb : 0 < b) (hc : 0 ≤ c) (ha : 0 ≤ a) (hab : a ≤ b) :
    0 ≤ floorDiv (a * c) b ∧ floorDiv (a * c) b ≤ c := by
  unfold floorDiv
  constructor
  · exact Int.ediv_nonneg (Int.mul_nonneg ha hc) hb.le
  · apply Int.ediv_le_of_le_mul hb
    rw [Int.mul_comm c b]
    exact Int.mul_le_mul_of_nonneg_right hab hc

/-- A larger part gives no less. -/
theorem floorDiv_share_mono {a a' b c : Int} (hb : 0 < b) (hc : 0 ≤ c) (h : a ≤ a') :
    floorDiv (a * c) b ≤ floorDiv (a' * c) b :=
  Int.ediv_le_ediv hb (Int.mul_le_mul_of_nonneg_right h hc)

/-! ### The head of a pressure code (R3) -/

theorem headOf_below {x : Settings} {p : Int} (h : p < x.z - 200) : headOf x p = none := by
  simp [headOf, h]

theorem headOf_under_zero {x : Settings} {p : Int} (h : x.z - 200 ≤ p) (k : p < x.z) : headOf x p = some 0 := by
  simp [headOf, Int.not_lt.mpr h, k]

theorem headOf_in_span {x : Settings} {p : Int} (h : x.z ≤ p) (k : p ≤ x.f) :
    headOf x p = some (floorDiv ((p - x.z) * x.hFs) (x.f - x.z)) := by
  have above : ¬ p < x.z - 200 := by omega
  simp [headOf, above, Int.not_lt.mpr h, k]

theorem headOf_over_full {x : Settings} {p : Int} (hz : x.z ≤ x.f) (h : x.f < p) (k : p ≤ x.f + 100) :
    headOf x p = some x.hFs := by
  have above : ¬ p < x.z - 200 := by omega
  have past : ¬ p < x.z := by omega
  simp [headOf, above, past, Int.not_le.mpr h, k]

theorem headOf_beyond {x : Settings} {p : Int} (hz : x.z ≤ x.f) (h : x.f + 100 < p) : headOf x p = none := by
  have above : ¬ p < x.z - 200 := by omega
  have past : ¬ p < x.z := by omega
  have past_full : ¬ p ≤ x.f := by omega
  simp [headOf, above, past, past_full, Int.not_le.mpr h]

/-- A valid sample gives a head in 0..H_fs. -/
theorem headOf_mem {x : Settings} {p h : Int} (hz : x.z < x.f) (hfs : 0 ≤ x.hFs) (e : headOf x p = some h) :
    0 ≤ h ∧ h ≤ x.hFs := by
  unfold headOf at e
  split at e
  next => cases e
  next =>
    split at e
    next => cases e; exact ⟨le_rfl, hfs⟩
    next =>
      split at e
      next => cases e; exact floorDiv_share_mem (by omega) hfs (by omega) (by omega)
      next =>
        split at e
        next => cases e; exact ⟨hfs, le_rfl⟩
        next => cases e

/-! ### The strap volume (R8) -/

/-- A strap table whose levels strictly rise and whose volumes do not decrease. -/
def StrapRising (points : List (Int × Int)) : Prop := points.Pairwise (fun p q => p.1 < q.1 ∧ p.2 ≤ q.2)

theorem StrapRising.tail {p : Int × Int} {rest : List (Int × Int)} (h : StrapRising (p :: rest)) : StrapRising rest :=
  (List.pairwise_cons.mp h).2

theorem StrapRising.next {p q : Int × Int} {rest : List (Int × Int)} (h : StrapRising (p :: q :: rest)) :
    p.1 < q.1 ∧ p.2 ≤ q.2 := List.rel_of_pairwise_cons h List.mem_cons_self

theorem strapFrom_before {x : Int} {q : Int × Int} (l1 v1 : Int) (rest : List (Int × Int)) (h : x < q.1) :
    strapFrom x l1 v1 (q :: rest) = v1 + floorDiv ((x - l1) * (q.2 - v1)) (q.1 - l1) := by simp [strapFrom, h]

theorem strapFrom_past {x : Int} {q : Int × Int} (l1 v1 : Int) (rest : List (Int × Int)) (h : q.1 ≤ x) :
    strapFrom x l1 v1 (q :: rest) = strapFrom x q.1 q.2 rest := by simp [strapFrom, Int.not_lt.mpr h]

theorem strapVolume_before {x : Int} {p : Int × Int} (rest : List (Int × Int)) (h : x < p.1) :
    strapVolume (p :: rest) x = p.2 := by simp [strapVolume, h]

theorem strapVolume_past {x : Int} {p : Int × Int} (rest : List (Int × Int)) (h : p.1 ≤ x) :
    strapVolume (p :: rest) x = strapFrom x p.1 p.2 rest := by simp [strapVolume, Int.not_lt.mpr h]

/-- From the second point on, the first no longer counts. -/
theorem strapVolume_cons_past {x : Int} {p q : Int × Int} {rest : List (Int × Int)} (r : StrapRising (p :: q :: rest))
    (h : q.1 ≤ x) : strapVolume (p :: q :: rest) x = strapVolume (q :: rest) x := by
  rw [strapVolume_past _ (r.next.1.le.trans h), strapFrom_past _ _ _ h, strapVolume_past _ h]

/-- Between the first two points the volume is their interpolation. -/
theorem strapVolume_first_segment {x : Int} {p q : Int × Int} (rest : List (Int × Int)) (h : p.1 ≤ x) (k : x < q.1) :
    strapVolume (p :: q :: rest) x = p.2 + floorDiv ((x - p.1) * (q.2 - p.2)) (q.1 - p.1) := by
  rw [strapVolume_past _ h, strapFrom_before _ _ _ k]

/-- From a point on, the points before it do not count. -/
theorem strapVolume_append {before after : List (Int × Int)} {p : Int × Int} {x : Int}
    (r : StrapRising (before ++ p :: after)) (h : p.1 ≤ x) :
    strapVolume (before ++ p :: after) x = strapVolume (p :: after) x := by
  induction before with
  | nil => rfl
  | cons b before ih =>
    rw [← ih r.tail]
    cases before with
    | nil => exact strapVolume_cons_past r h
    | cons c before =>
      have c_below : c.1 < p.1 := (List.rel_of_pairwise_cons r.tail (by simp)).1
      exact strapVolume_cons_past r (c_below.le.trans h)

theorem strapVolume_segment {before after : List (Int × Int)} {p q : Int × Int} {x : Int}
    (r : StrapRising (before ++ p :: q :: after)) (h : p.1 ≤ x) (k : x < q.1) :
    strapVolume (before ++ p :: q :: after) x = p.2 + floorDiv ((x - p.1) * (q.2 - p.2)) (q.1 - p.1) := by
  rw [strapVolume_append r h, strapVolume_first_segment after h k]

theorem strapVolume_last {p : Int × Int} {rest : List (Int × Int)} {x : Int} (r : StrapRising (p :: rest))
    (h : ((p :: rest).getLast (by simp)).1 ≤ x) : strapVolume (p :: rest) x = ((p :: rest).getLast (by simp)).2 := by
  induction rest generalizing p with
  | nil => rw [List.getLast_singleton] at h ⊢; rw [strapVolume_past _ h]; rfl
  | cons q rest ih =>
    rw [List.getLast_cons_cons] at h ⊢
    have q_reached : q.1 ≤ x := by
      rcases List.eq_or_mem_of_mem_cons (List.getLast_mem (l := q :: rest) (by simp)) with e | m
      · exact e ▸ h
      · exact (List.rel_of_pairwise_cons r.tail m).1.le.trans h
    rw [strapVolume_cons_past r q_reached, ih r.tail h]

theorem strapVolume_mem {p : Int × Int} {rest : List (Int × Int)} (r : StrapRising (p :: rest)) (x : Int) :
    p.2 ≤ strapVolume (p :: rest) x ∧ strapVolume (p :: rest) x ≤ ((p :: rest).getLast (by simp)).2 := by
  induction rest generalizing p with
  | nil => rw [List.getLast_singleton]; simp [strapVolume, strapFrom]
  | cons q rest ih =>
    rw [List.getLast_cons_cons]
    obtain ⟨levels, volumes⟩ := r.next
    obtain ⟨lower, upper⟩ := ih r.tail
    have q_last := lower.trans upper
    by_cases h : q.1 ≤ x
    · rw [strapVolume_cons_past r h]
      exact ⟨volumes.trans lower, upper⟩
    · by_cases k : x < p.1
      · rw [strapVolume_before _ k]
        omega
      · rw [strapVolume_first_segment _ (by omega) (by omega)]
        have share := floorDiv_share_mem (a := x - p.1) (b := q.1 - p.1) (c := q.2 - p.2)
          (by omega) (by omega) (by omega) (by omega)
        omega

theorem strapVolume_mono {points : List (Int × Int)} (r : StrapRising points) {x y : Int} (h : x ≤ y) :
    strapVolume points x ≤ strapVolume points y := by
  induction points with
  | nil => exact le_rfl
  | cons p rest ih =>
    by_cases below : x < p.1
    · rw [strapVolume_before _ below]
      exact (strapVolume_mem r y).1
    · cases rest with
      | nil => simp [strapVolume, strapFrom]
      | cons q rest =>
        obtain ⟨levels, volumes⟩ := r.next
        by_cases x_past : q.1 ≤ x
        · rw [strapVolume_cons_past r x_past, strapVolume_cons_past r (x_past.trans h)]
          exact ih r.tail
        · rw [strapVolume_first_segment _ (by omega) (by omega)]
          by_cases y_past : q.1 ≤ y
          · have share := floorDiv_share_mem (a := x - p.1) (b := q.1 - p.1) (c := q.2 - p.2)
              (by omega) (by omega) (by omega) (by omega)
            have reached := (strapVolume_mem r.tail y).1
            rw [strapVolume_cons_past r y_past]
            omega
          · rw [strapVolume_first_segment _ (by omega) (by omega)]
            have share := floorDiv_share_mono (a := x - p.1) (a' := y - p.1) (b := q.1 - p.1) (c := q.2 - p.2)
              (by omega) (by omega) (by omega)
            omega

/-- At the level of a point the volume is the point's. -/
theorem strapVolume_point {p : Int × Int} {points : List (Int × Int)} (r : StrapRising points) (m : p ∈ points) :
    strapVolume points p.1 = p.2 := by
  obtain ⟨before, after, rfl⟩ := List.append_of_mem m
  rw [strapVolume_append r le_rfl]
  cases after with
  | nil => simp [strapVolume, strapFrom]
  | cons q after =>
    have rising : StrapRising (p :: q :: after) := r.sublist (List.sublist_append_right _ _)
    simp [strapVolume_first_segment after le_rfl rising.next.1, floorDiv]

/-- The target stays within the volume at the float's height while FLOAT_DISAGREE stands (R104). -/
theorem planTarget_le_float {s : State} (h : inFaultSet .floatDisagree s = true) :
    planTarget s ≤ volumeAt ((setting s).floatHeight - (setting s).floatTolerance) s := by
  unfold planTarget
  rw [if_pos h]
  exact min_le_right _ _

end Sys2Proof.Machine

namespace Sys2Proof.Proofs
open Sys2Proof Sys2Proof.Machine

/-- Settles O7, band by band. -/
theorem headOfPressureCode : Obligations.HeadOfPressureCode := by
  intro x p hspan hfs
  have hz : x.z < x.f := by omega
  exact ⟨headOf_below, headOf_under_zero, headOf_in_span, headOf_over_full hz.le, headOf_beyond hz.le,
    fun _ => headOf_mem hz hfs⟩

/-- Settles O8, by induction on the strap list: from the second point on the first no longer counts. -/
theorem strapVolumeInterpolates : Obligations.StrapVolumeInterpolates := by
  intro first rest _ rising points last
  have r : StrapRising points := rising
  refine ⟨fun _ => strapVolume_before rest, fun _ => strapVolume_last r, ?_, strapVolume_mem r,
    fun _ _ => strapVolume_mono r, fun _ => strapVolume_point r, ?_⟩
  · intro before after p q e x h k
    rw [e] at r ⊢
    exact strapVolume_segment r h k
  · intro s strap
    rw [← strap]
    exact ⟨rfl, planTarget_le_float⟩

end Sys2Proof.Proofs
end

section
/-! PROOFS. The minute mark (R10 to R12): its record, and what its jobs leave as it is. -/

namespace Sys2Proof.Machine

/-! ### Operations that leave the inlet position as it is -/

theorem position_of_quiet {s t : State} (h : quiet t = quiet s) : t.odu.position = s.odu.position :=
  congrArg Quiet.position h

@[simp] theorem position_queueNotice (item : Outgoing) (u : Nat) (s : State) :
    (queueNotice item u s).odu.position = s.odu.position := position_of_quiet (quiet_queueNotice item u s)

@[simp] theorem position_announceStop (s : State) : (announceStop s).odu.position = s.odu.position := by
  simp [announceStop]

@[simp] theorem position_stopOn (cause : StopCause) (s : State) : (stopOn cause s).odu.position = s.odu.position := by
  unfold stopOn; dsimp only; (repeat' split) <;> simp

@[simp] theorem position_stopOff (s : State) : (stopOff s).odu.position = s.odu.position := by
  unfold stopOff; (repeat' split) <;> simp

@[simp] theorem position_stopForSafeHold (s : State) : (stopForSafeHold s).odu.position = s.odu.position := by
  unfold stopForSafeHold; split <;> simp

@[simp] theorem position_announceHold (c : FaultCode) (s : State) : (announceHold c s).odu.position = s.odu.position := by
  unfold announceHold; split <;> simp

@[simp] theorem position_enterSafeHold (s : State) : (enterSafeHold s).odu.position = s.odu.position := by
  simp [enterSafeHold]

@[simp] theorem position_enterFault (c : FaultCode) (s : State) : (enterFault c s).odu.position = s.odu.position := by
  unfold enterFault; dsimp only; split <;> simp

@[simp] theorem position_leaveFault (c : FaultCode) (s : State) : (leaveFault c s).odu.position = s.odu.position := by
  simp [leaveFault]

@[simp] theorem position_raiseCondition (c : FaultCode) (s : State) :
    (raiseCondition c s).odu.position = s.odu.position := by
  unfold raiseCondition; dsimp only; (repeat' split) <;> simp

@[simp] theorem position_clearCondition (c : FaultCode) (s : State) :
    (clearCondition c s).odu.position = s.odu.position := by
  unfold clearCondition; dsimp only; (repeat' split) <;> simp

@[simp] theorem position_setGuard (g : GuardState) (s : State) : (setGuard g s).odu.position = s.odu.position := rfl

@[simp] theorem position_endDemand (s : State) : (endDemand s).odu.position = s.odu.position := by
  unfold endDemand; (repeat' split) <;> simp

@[simp] theorem position_announceSpill (s : State) : (announceSpill s).odu.position = s.odu.position := by
  simp [announceSpill]

@[simp] theorem position_enterSpill (s : State) : (enterSpill s).odu.position = s.odu.position := by simp [enterSpill]

@[simp] theorem position_enterCut (s : State) : (enterCut s).odu.position = s.odu.position := rfl

@[simp] theorem position_enterShut (s : State) : (enterShut s).odu.position = s.odu.position := rfl

@[simp] theorem position_shutToWatch (s : State) : (shutToWatch s).odu.position = s.odu.position := rfl

@[simp] theorem position_holdToWatch (s : State) : (holdToWatch s).odu.position = s.odu.position := by
  unfold holdToWatch; dsimp only; split <;> simp

@[simp] theorem position_calmUrgency (s : State) : (calmUrgency s).odu.position = s.odu.position := by
  unfold calmUrgency; (repeat' split) <;> rfl

@[simp] theorem position_leaveSpill (s : State) : (leaveSpill s).odu.position = s.odu.position := by
  unfold leaveSpill; dsimp only; (repeat' split) <;> simp

theorem position_guardMove {ovfOnset : Bool} {s t : State} (h : guardMove ovfOnset s = some t) :
    t.odu.position = s.odu.position := by
  unfold guardMove at h
  (repeat' split at h) <;> cases h <;> simp

@[simp] theorem position_guardPass (n : Nat) (s : State) : (guardPass n s).odu.position = s.odu.position := by
  induction n generalizing s with
  | zero => rfl
  | succ n ih =>
    unfold guardPass
    split
    next => rfl
    next t move => rw [ih, position_guardMove move]

@[simp] theorem position_leakCheck (s : State) : (leakCheck s).odu.position = s.odu.position := by
  unfold leakCheck; dsimp only; (repeat' split) <;> simp

@[simp] theorem position_floatCheck (s : State) : (floatCheck s).odu.position = s.odu.position := by
  unfold floatCheck; dsimp only; (repeat' split) <;> simp

@[simp] theorem position_reofferOwed (s : State) : (reofferOwed s).odu.position = s.odu.position := by
  unfold reofferOwed; dsimp only; (repeat' split) <;> simp

@[simp] theorem position_guardMinute (s : State) : (guardMinute s).odu.position = s.odu.position := by
  simp [guardMinute]

@[simp] theorem position_changeRule (s : State) : (changeRule s).odu.position = s.odu.position := by
  unfold changeRule
  split
  next => exact position_of_quiet (quiet_dueEvent _)
  next => rfl

@[simp] theorem position_tariffCount (s : State) : (tariffCount s).odu.position = s.odu.position := by
  unfold tariffCount; dsimp only; (repeat' split) <;> simp

@[simp] theorem position_fillMinute (s : State) : (fillMinute s).odu.position = s.odu.position := by
  have learned : (learnStep (tariffCount s)).odu.position = s.odu.position := position_tariffCount s
  unfold fillMinute
  dsimp only
  split
  next => exact learned
  next => rw [position_of_quiet (quiet_planAndStep true _), learned]

@[simp] theorem position_markJobs (s : State) : (markJobs s).odu.position = s.odu.position := by
  unfold markJobs
  calc (stagnationMinute (fillFollows (guardMinute (fillMinute (changeRule s))))).odu.position
      = (fillFollows (guardMinute (fillMinute (changeRule s)))).odu.position := rfl
    _ = (guardMinute (fillMinute (changeRule s))).odu.position := position_of_quiet (quiet_fillFollows _)
    _ = s.odu.position := by simp

/-! ### What the jobs of a minute mark leave as it is -/

/-- What resets, loading and sampling change: the steady part but for the learned inflow. -/
def unlearned (s : State) : Steady := { steady s with qEst := none }

theorem unlearned_of_steady {s t : State} (h : steady t = steady s) : unlearned t = unlearned s :=
  congrArg (fun x : Steady => { x with qEst := none }) h

theorem unlearned_learnStep (s : State) : unlearned (learnStep s) = unlearned s := rfl

theorem unlearned_fillMinute (s : State) : unlearned (fillMinute s) = unlearned s := by
  have learned : unlearned (learnStep (tariffCount s)) = unlearned s :=
    (unlearned_learnStep _).trans (unlearned_of_steady (steady_tariffCount s))
  unfold fillMinute
  dsimp only
  split
  next => exact learned
  next => rw [unlearned_of_steady (steady_planAndStep true _), learned]

/-- Of the steady part the jobs change the learned inflow alone. -/
theorem unlearned_markJobs (s : State) : unlearned (markJobs s) = unlearned s := by
  unfold markJobs
  rw [unlearned_of_steady (steady_stagnationMinute _), unlearned_of_steady (steady_fillFollows _),
    unlearned_of_steady (steady_guardMinute _), unlearned_fillMinute, unlearned_of_steady (steady_changeRule s)]

/-! ### The minute mark -/

/-- What the jobs leave as it is, a mark leaves as its record leaves it, whether the station is active or not. -/
theorem minutePasses_keeps {α : Type} {f : State → α} (jobs : ∀ t, f (markJobs t) = f t) (s : State) :
    f (minutePasses s) = f { s with msu := { markRecord s.msu with minuteDue := false } } := by
  unfold minutePasses
  dsimp only
  split
  next => exact jobs _
  next => rfl

theorem msu_minutePasses (s : State) : (minutePasses s).msu = { markRecord s.msu with minuteDue := false } :=
  minutePasses_keeps (f := State.msu) (fun t => congrArg Steady.msu (unlearned_markJobs t)) s

theorem settings_minutePasses (s : State) : (minutePasses s).sld.settings = s.sld.settings :=
  minutePasses_keeps (f := fun t => t.sld.settings) (fun t => congrArg Steady.settings (unlearned_markJobs t)) s

theorem pins_minutePasses (s : State) : (minutePasses s).pins = s.pins :=
  minutePasses_keeps (f := State.pins) (fun t => congrArg Steady.pins (unlearned_markJobs t)) s

theorem ilu_minutePasses (s : State) : (minutePasses s).ilu = s.ilu := minutePasses_keeps ilu_markJobs s

theorem ptb_minutePasses (s : State) : (minutePasses s).ptb = s.ptb := minutePasses_keeps ptb_markJobs s

theorem position_minutePasses (s : State) : (minutePasses s).odu.position = s.odu.position :=
  minutePasses_keeps (f := fun t => t.odu.position) position_markJobs s

/-- The record after a fresh mark (R11). -/
theorem markRecord_fresh {m : Measure} (h : m.level = .fresh) :
    markRecord m = { m with
      lm := m.lf, vm := m.volume, stale := false, primed := true
      rate := if m.primed then max (-999) (min 999 (m.lf - m.lm)) else 0
      dv := if m.primed then m.volume - m.vm else 0 } := by
  unfold markRecord
  exact if_pos h

/-- The record after any other mark (R12). -/
theorem markRecord_other {m : Measure} (h : m.level ≠ .fresh) :
    markRecord m = { m with rate := 0, dv := 0, stale := true, primed := false } := by
  unfold markRecord
  exact if_neg h

theorem exec_minuteMark {s : State} (h : loaded s = true) (k : s.msu.minuteDue = true) :
    exec .minuteMark s = .next (event minutePasses s) :=
  occurs_true (by rw [h, k]; rfl) minutePasses s

end Sys2Proof.Machine

namespace Sys2Proof.Proofs
open Sys2Proof Sys2Proof.Machine

/-- Settles O11: the mark's own effect gives the record, and its hand-ons change nothing of it. -/
theorem minuteMarkRecord : Obligations.MinuteMarkRecord := by
  intro s hloaded hdue
  refine ⟨event minutePasses s, exec_minuteMark hloaded hdue, ?_⟩
  have view := quiet_event minutePasses s
  have record : (event minutePasses s).msu = { markRecord s.msu with minuteDue := false } :=
    (congrArg Quiet.msu view).trans (msu_minutePasses _)
  refine ⟨fun fresh => ?_, fun other => ?_,
    (congrArg Quiet.ilu view).trans (ilu_minutePasses _),
    (congrArg Quiet.ptb view).trans (ptb_minutePasses _),
    (congrArg Quiet.settings view).trans (settings_minutePasses _),
    (congrArg Quiet.pins view).trans (pins_minutePasses _),
    (congrArg Quiet.position view).trans (position_minutePasses _)⟩
  · rw [record, markRecord_fresh fresh]
  · rw [record, markRecord_other other]

end Sys2Proof.Proofs
end

section
/-! PROOFS. What every command is: an effect taken as an event under a condition, on the state with the contact moved. -/

namespace Sys2Proof.Machine

/-! ### The effect of a command and when its event arises -/

/-- The own effect of a command's event; the two resets are no events. -/
def effect : Instr → State → State
  | .powerOnReset => id
  | .externalReset => id
  | .loadAttemptDone block => judgeRead block
  | .retryWaitExpiry => retryRead
  | .secondEvent p tw tr ta => secondPasses p tw tr ta
  | .minuteMark => minutePasses
  | .rawInputChange i _ => followPin i
  | .inputSettled i => inputSettles i
  | .proofTimerExpiry k => proofExpires k
  | .quietReached => beginQuiet
  | .winTime slot => winTime slot
  | .echoConflict b => loseEcho b
  | .driverFailure _ => failDriver
  | .noticeSent => finishSending
  | .noticeHeard chars => noticeCompleted chars
  | .noticeDiscarded _ => discardNotice
  | .dupTimerExpiry => endDuplicate
  | .lineFaultEntry => enterLineFault
  | .lineFaultExit => leaveLineFault
  | .answerWaitEnd => fun t => { t with lnu := { t.lnu with state := .window } }
  | .windowEnd samples => endWindow samples
  | .peerLost n => losePeer n
  | .tariffNightTimeout => nightTimesOut
  | .peerSettleExpiry n r => settlePeer r n
  | .entryAgedOut n r => removeEntry r n
  | .ownSettleExpiry r => ownSettleDone r
  | .refreshLead r => refreshLeadReached r
  | .refreshTime r => refreshMissed r
  | .incompleteTimerExpiry r => fun t => emit (.reexamine r) (setIncompleteTimer r none t)
  | .listeningTimerExpiry => endListening
  | .answerTimerExpiry => endAnswering
  | .openTimerExpiry => openExpires
  | .clearingTimerExpiry => clearingExpires
  | .strokeTimerExpiry => fun t => fillFollows (strokeExpires t)
  | .confirmTimerExpiry => fun t => fillFollows (confirmExpires t)
  | .stagnationPeriodEnd => stagnationEnds
  | .reportTimerDue => fun t => dueEvent { t with rpu := { t.rpu with timerDue := false } }
  | .startBitFromAnotherStation => beginReceiving
  | .resetPinReturnsHigh => leaveReset

/-- Whether the event of a command arises. -/
def arises (c : Instr) (s : State) : Bool :=
  match c with
  | .powerOnReset => false
  | .externalReset => false
  | .loadAttemptDone block => decide (block.length = 1024) && isReading s
  | .retryWaitExpiry => isRetryWait s
  | .secondEvent _ _ _ _ => loaded s && s.msu.running
  | .minuteMark => loaded s && s.msu.minuteDue
  | .rawInputChange _ _ => active s
  | .inputSettled i => active s && (debounceTimer i s).isSome
  | .proofTimerExpiry k => active s && (stageAt k s).timer.isSome
  | .quietReached => loaded s && (s.lnu.state == .gap || s.lnu.state == .skip)
  | .winTime slot => active s && headStarts slot s
  | .echoConflict b => active s && drives false b s
  | .driverFailure b => active s && drives true b s
  | .noticeSent => active s && s.lnu.state == .sending
  | .noticeHeard chars => loaded s && receives chars s
  | .noticeDiscarded _ => loaded s && (s.lnu.state == .receiving || s.lnu.state == .sending)
  | .dupTimerExpiry => active s && decide (600 ≤ s.lnu.dupTimer.getD 0)
  | .lineFaultEntry => active s && s.lnu.state != .window && s.lnu.state != .lineFault
  | .lineFaultExit => active s && s.lnu.state == .lineFault
  | .answerWaitEnd => active s && s.lnu.state == .answerWait
  | .windowEnd _ => active s && s.lnu.state == .window
  | .peerLost n => active s && silent n s
  | .tariffNightTimeout => active s && s.flc.nightTimeoutDue
  | .peerSettleExpiry n r => active s && peerEntryIs settled r n s
  | .entryAgedOut n r => active s && peerEntryIs (fun h => decide (ageLimit s ≤ h.age)) r n s
  | .ownSettleExpiry r => active s && settleDue r s
  | .refreshLead r => active s && leadDue r s
  | .refreshTime r => active s && refreshDue r s
  | .incompleteTimerExpiry r => active s && runOut (incomplete r s)
  | .listeningTimerExpiry => active s && runOut s.clu.listening
  | .answerTimerExpiry => active s && runOut s.clu.answer && s.sld.mode == .joining
  | .openTimerExpiry => active s && runOut s.flc.openTimer && isFill s.flc.state && s.odu.position != .opened
  | .clearingTimerExpiry => active s && decide (900 ≤ s.flc.clearing.getD 0)
  | .strokeTimerExpiry => active s && runOut s.ogu.stroke && s.ogu.state == .cut && s.odu.position != .closed
  | .confirmTimerExpiry => active s && runOut s.ogu.confirmTimer && s.ogu.confirm == .waiting
  | .stagnationPeriodEnd => active s && decide (60 * (setting s).stagHours ≤ s.frc.stagMinutes)
  | .reportTimerDue => active s && s.rpu.timerDue
  | .startBitFromAnotherStation => loaded s && (s.lnu.state == .gap || s.lnu.state == .quiet)
  | .resetPinReturnsHigh => s.resetLow

/-- The state in which the event is taken: a contact has moved whether or not the input unit takes it (log 7). -/
def contactMoved (c : Instr) (s : State) : State :=
  match c with
  | .rawInputChange i closed => setPin i closed s
  | _ => s

/-- Every command but a reset that is not refused is its event, where it arises. -/
theorem exec_eq_event {c : Instr} {s t : State} (p : c ≠ .powerOnReset) (x : c ≠ .externalReset) (h : exec c s = .next t) :
    t = if arises c s then event (effect c) (contactMoved c s) else contactMoved c s := by
  cases c with
  | powerOnReset => exact absurd rfl p
  | externalReset => exact absurd rfl x
  | loadAttemptDone block =>
    simp only [exec, execLoadAttemptDone] at h
    split at h
    next whole => simp only [arises, whole, decide_true, Bool.true_and]; exact (Host.Outcome.next.inj h).symm
    next => cases h
  | _ => exact (Host.Outcome.next.inj h).symm

/-- Where its event arises a command answers that event. -/
theorem exec_of_arises {c : Instr} {s : State} (h : arises c s = true) :
    exec c s = .next (event (effect c) (contactMoved c s)) := by
  cases c with
  | powerOnReset | externalReset => cases h
  | loadAttemptDone block =>
    obtain ⟨whole, reading⟩ := Bool.and_eq_true_iff.mp h
    simp only [exec, execLoadAttemptDone, of_decide_eq_true whole, if_true]
    exact occurs_true reading _ _
  | _ => exact occurs_true h _ _

/-- What holds after a command: an induction over events. -/
theorem exec_keeps {P : State → Prop} {c : Instr} {s t : State} (p : c ≠ .powerOnReset) (x : c ≠ .externalReset)
    (stays : P (contactMoved c s)) (occurs : arises c s = true → P (event (effect c) (contactMoved c s)))
    (h : exec c s = .next t) : P t := by
  rw [exec_eq_event p x h]
  split
  next a => exact occurs a
  next => exact stays

/-- What every step keeps: an idle step, the two resets, a contact that moves, and each event that arises. -/
theorem step_keeps {P : State → Prop} (idle : ∀ s, P s → P (passSlot s)) (taken : ∀ s rest, P s → P { s with pending := rest })
    (powerOn : ∀ s, P s → P (resetAll s)) (external : ∀ s, P s → P (resetKeeping s))
    (pin : ∀ i closed s, P s → P (setPin i closed s))
    (occurs : ∀ c s, arises c s = true → P (contactMoved c s) → P (event (effect c) (contactMoved c s)))
    {s t : State} (h : P s) (k : step s = .next t) : P t := by
  unfold step at k
  split at k
  next => cases k; exact idle s h
  next c rest _ =>
    have hs : P { s with pending := rest } := taken s rest h
    by_cases p : c = .powerOnReset
    · subst p; cases k; exact powerOn _ hs
    by_cases x : c = .externalReset
    · subst x; cases k; exact external _ hs
    have moved : P (contactMoved c { s with pending := rest }) := by
      cases c with
      | rawInputChange i closed => exact pin i closed _ hs
      | _ => exact hs
    exact exec_keeps p x moved (fun a => occurs c _ a moved) k

/-- But for the return of RESET, no event arises while the part is held in reset. -/
theorem resetLow_of_arises {c : Instr} {s : State} (h : arises c s = true) (p : c ≠ .resetPinReturnsHigh) : s.resetLow = false := by
  cases c with
  | resetPinReturnsHigh => exact absurd rfl p
  | powerOnReset => cases h
  | externalReset => cases h
  | _ =>
    simp only [arises, active, loaded, isReading, isRetryWait, Bool.and_eq_true, Bool.not_eq_true'] at h
    simp only [h]

@[simp] theorem contactMoved_resetLow (c : Instr) (s : State) : (contactMoved c s).resetLow = s.resetLow := by cases c <;> rfl
@[simp] theorem contactMoved_sld (c : Instr) (s : State) : (contactMoved c s).sld = s.sld := by cases c <;> rfl
@[simp] theorem contactMoved_msu (c : Instr) (s : State) : (contactMoved c s).msu = s.msu := by cases c <;> rfl
@[simp] theorem contactMoved_flc (c : Instr) (s : State) : (contactMoved c s).flc = s.flc := by cases c <;> rfl

/-! ### Modes -/

theorem active_iff {s : State} : active s = true ↔ s.resetLow = false ∧ (s.sld.mode = .joining ∨ s.sld.mode = .joined) := by
  simp [active]

theorem loaded_of_active {s : State} (h : active s = true) : loaded s = true := by
  obtain ⟨high, mode | mode⟩ := active_iff.mp h <;> simp [loaded, high, mode]

theorem isReading_iff {s : State} :
    isReading s = true ↔ s.resetLow = false ∧ s.sld.mode = .loading ∧ s.sld.load = .reading := by
  simp [isReading, and_assoc]

theorem isRetryWait_iff {s : State} :
    isRetryWait s = true ↔ s.resetLow = false ∧ s.sld.mode = .loading ∧ s.sld.load = .retryWait := by
  simp [isRetryWait, and_assoc]

/-! ### The steady part over a command -/

@[simp] theorem steady_event (f : State → State) (s : State) : steady (event f s) = steady (f (beginEvent s)) := by
  unfold event; rw [steady_takeHandOns, steady_follow]

/-- The commands whose effect reaches the steady part. -/
def loadsOrSamples : Instr → Bool
  | .powerOnReset => true
  | .externalReset => true
  | .loadAttemptDone _ => true
  | .retryWaitExpiry => true
  | .secondEvent _ _ _ _ => true
  | .minuteMark => true
  | .answerTimerExpiry => true
  | .resetPinReturnsHigh => true
  | _ => false

/-! ### Cancelling leaves the steady part -/

theorem steady_winSlot (slot n : Nat) (s : State) : steady (winSlot slot n s) = steady s := by
  induction n generalizing s with
  | zero => rfl
  | succ n ih =>
    unfold winSlot
    split
    next => rfl
    next e _ =>
      split
      next =>
        dsimp only
        (repeat' split) <;> simp [ih]
      next => rfl

theorem steady_winTime (slot : Nat) (s : State) : steady (winTime slot s) = steady s := steady_winSlot _ _ _

/-- No other command's effect reaches it. -/
theorem steady_effect {c : Instr} (h : loadsOrSamples c = false) (s : State) : steady (effect c s) = steady s := by
  cases c with
  | powerOnReset | externalReset | loadAttemptDone | retryWaitExpiry | secondEvent | minuteMark | answerTimerExpiry
  | resetPinReturnsHigh => cases h
  | winTime slot => exact steady_winTime slot s
  | reportTimerDue => simp [effect]
  | answerWaitEnd => rfl
  | _ => simp [effect]

/-! ### The joining that ends -/

/-- A joining ends in JOINED; of the steady part it changes nothing where the station is joining. -/
theorem steady_endAnswering {s : State} (h : s.sld.mode = .joining) : steady (endAnswering s) = steady s := by
  unfold endAnswering becomeJoined
  simp only [steady_fillFollows, steady_emit, steady_handField]
  have joining : ∀ t : State, steady t = steady s →
      steady { t with sld := { t.sld with mode := .joined }, clu := { t.clu with answer := none, listening := none } } = steady s := by
    intro t e
    rw [← e]
    have c : configured t = true := by
      rw [show configured t = configured s from congrArg Steady.configured e]; simp [configured, h]
    simp [steady, configured] at c ⊢
    simpa using c
  apply joining
  (repeat' split) <;> simp

end Sys2Proof.Machine
end

section
/-! PROOFS. What the outgoing queue and the own claims leave alone: every other block whole, and the entries of other stations. -/

namespace Sys2Proof.Machine

/-- A state without what the queue and the own claims work on, and the entries of other stations. -/
structure Beside where
  state : State
  others : Resource → Nat → Option Holding

/-- What notices, due events and the own claims leave alone. -/
def beside (s : State) : Beside :=
  { state := { s with
      handOns := [], lnu := { s.lnu with queue := [], nextAge := 0 }, clu := .atReset, rpu := .atReset
      ftu := { s.ftu with notes := 0 } }
    others := othersOf s }

/-! ### Updates of the queue and the own claims -/

@[simp] theorem beside_handOns (s : State) (h : List HandOn) : beside { s with handOns := h } = beside s := rfl
@[simp] theorem beside_rpu (s : State) (x : Reports) : beside { s with rpu := x } = beside s := rfl
@[simp] theorem beside_queue (s : State) (q : List QueueEntry) (n : Nat) :
    beside { s with lnu := { s.lnu with queue := q, nextAge := n } } = beside s := rfl
@[simp] theorem beside_notes (s : State) (n : Nat) : beside { s with ftu := { s.ftu with notes := n } } = beside s := rfl
@[simp] theorem beside_claims (s : State) (a b : OwnClaim) (c d : Option Nat) (q : List Question) (f : Option Question)
    (g h : Bool) (l t : Option Nat) :
    beside { s with clu := { s.clu with
      ownSupply := a, ownLoad := b, incompleteSupply := c, incompleteLoad := d, questions := q, inFlight := f
      answeredSupply := g, answeredLoad := h, listening := l, answer := t } } = beside s := rfl
@[simp] theorem beside_emit (h : HandOn) (s : State) : beside (emit h s) = beside s := rfl
@[simp] theorem beside_setOwn (r : Resource) (c : OwnClaim) (s : State) : beside (setOwn r c s) = beside s := by cases r <;> rfl
@[simp] theorem beside_setIncompleteTimer (r : Resource) (t : Option Nat) (s : State) :
    beside (setIncompleteTimer r t s) = beside s := by cases r <;> rfl

theorem setting_of_beside {s t : State} (h : beside s = beside t) : setting s = setting t :=
  congrArg (fun b : Beside => setting b.state) h

@[simp] theorem beside_setOwnEntry (r : Resource) (e : Option Holding) (s : State) :
    beside (setEntry r (setting s).station e s) = beside s := by
  have entries : othersOf (setEntry r (setting s).station e s) = othersOf s := congrArg Quiet.others (quiet_setOwnEntry r e s)
  have rest : (beside (setEntry r (setting s).station e s)).state = (beside s).state := by
    unfold setEntry; split <;> cases r <;> rfl
  show Beside.mk _ _ = Beside.mk _ _
  rw [entries]
  exact congrArg (fun x => Beside.mk x (othersOf s)) rest

/-- The own entry written at a number read from an earlier state of the same settings. -/
theorem beside_setEntry_own {s t : State} (r : Resource) (e : Option Holding) (h : beside t = beside s) :
    beside (setEntry r (setting s).station e t) = beside s := by
  rw [← setting_of_beside h, beside_setOwnEntry, h]

/-! ### The operations of the queue -/

@[simp] theorem beside_noteOccurrence (s : State) : beside (noteOccurrence s) = beside s := rfl
@[simp] theorem beside_countSkipped (s : State) : beside (countSkipped s) = beside s := rfl
@[simp] theorem beside_reportDropped (s : State) : beside (reportDropped s) = beside s := rfl
@[simp] theorem beside_changeSeen (s : State) : beside (changeSeen s) = beside s := rfl
@[simp] theorem beside_enqueue (item : Outgoing) (u : Nat) (s : State) : beside (enqueue item u s) = beside s := rfl
@[simp] theorem beside_handField (f : KeyField) (s : State) : beside (handField f s) = beside s := rfl

@[simp] theorem beside_claimBackToWaiting (r : Resource) (s : State) : beside (claimBackToWaiting r s) = beside s := by
  unfold claimBackToWaiting; dsimp only; (repeat' split) <;> simp

@[simp] theorem beside_tellLost (r : Resource) (s : State) : beside (tellLost r s) = beside s := by cases r <;> rfl
@[simp] theorem beside_tellGranted (r : Resource) (s : State) : beside (tellGranted r s) = beside s := by cases r <;> rfl
@[simp] theorem beside_tellRaiseWithdrawn (r : Resource) (s : State) : beside (tellRaiseWithdrawn r s) = beside s := by
  cases r <;> rfl

@[simp] theorem beside_dropOwnEntry (r : Resource) (s : State) : beside (dropOwnEntry r s) = beside s := by simp [dropOwnEntry]

theorem beside_giveUp {release : State → State} (h : ∀ t, beside (release t) = beside t) (r : Resource) (s : State) :
    beside (giveUp release r s) = beside s := by simp [giveUp, h]

@[simp] theorem beside_setIncomplete (r : Resource) (s : State) : beside (setIncomplete r s) = beside s := by simp [setIncomplete]

@[simp] theorem beside_markIncompleteFor (q : Question) (s : State) : beside (markIncompleteFor q s) = beside s := by
  unfold markIncompleteFor; split <;> simp

theorem beside_tellDropped {release : Resource → State → State} (h : ∀ r t, beside (release r t) = beside t) (item : Outgoing)
    (s : State) : beside (tellDropped release item s) = beside s := by
  unfold tellDropped; (repeat' split) <;> simp [beside_giveUp (h _)]

theorem beside_dropNotice {release : Resource → State → State} (h : ∀ r t, beside (release r t) = beside t) (item : Outgoing)
    (s : State) : beside (dropNotice release item s) = beside s := by simp [dropNotice, beside_tellDropped h]

@[simp] theorem beside_claimRefused (r : Resource) (refresh : Bool) (s : State) : beside (claimRefused r refresh s) = beside s := by
  unfold claimRefused; (repeat' split) <;> simp

theorem beside_queueNew {release : Resource → State → State} (h : ∀ r t, beside (release r t) = beside t) (item : Outgoing)
    (u : Nat) (s : State) : beside (queueNew release item u s) = beside s := by
  unfold queueNew; (repeat' split) <;> simp [beside_dropNotice h]

@[simp] theorem beside_queueOver (item : Outgoing) (u : Nat) (e : QueueEntry) (s : State) : beside (queueOver item u e s) = beside s := by
  unfold queueOver; (repeat' split) <;> simp

theorem beside_queueWith {release : Resource → State → State} (h : ∀ r t, beside (release r t) = beside t) (item : Outgoing)
    (u : Nat) (s : State) : beside (queueWith release item u s) = beside s := by
  unfold queueWith; (repeat' split) <;> simp [beside_queueNew h]

theorem beside_queueRelease (n : Nat) (r : Resource) (s : State) : beside (queueRelease n r s) = beside s := by
  induction n generalizing r s with
  | zero => rfl
  | succ n ih => exact beside_queueWith ih _ _ _

@[simp] theorem beside_queueNotice (item : Outgoing) (u : Nat) (s : State) : beside (queueNotice item u s) = beside s :=
  beside_queueWith (beside_queueRelease 2) item u s

@[simp] theorem beside_dueEvent (s : State) : beside (dueEvent s) = beside s := by
  unfold dueEvent; dsimp only; split <;> simp

/-! ### The operations of the own claims -/

@[simp] theorem beside_announce (r : Resource) (s : State) : beside (announce r s) = beside s := by
  unfold announce; dsimp only; (repeat' split) <;> simp

@[simp] theorem beside_loseOwn (r : Resource) (releases : Bool) (s : State) : beside (loseOwn r releases s) = beside s :=
  beside_giveUp (fun t => by split <;> simp) r s

@[simp] theorem beside_withdrawRaise (r : Resource) (s : State) : beside (withdrawRaise r s) = beside s := by
  unfold withdrawRaise; dsimp only; split <;> simp [beside_setEntry_own]

@[simp] theorem beside_settleCheck (r : Resource) (s : State) : beside (settleCheck r s) = beside s := by
  unfold settleCheck; dsimp only; (repeat' split) <;> simp

@[simp] theorem beside_reexamineNow (r : Resource) (s : State) : beside (reexamineNow r s) = beside s := by simp [reexamineNow]

@[simp] theorem beside_ownEntryUrgency (r : Resource) (u : Nat) (s : State) : beside (ownEntryUrgency r u s) = beside s := by
  unfold ownEntryUrgency; (repeat' split) <;> simp

@[simp] theorem beside_changeUrgency (r : Resource) (u : Nat) (s : State) : beside (changeUrgency r u s) = beside s := by
  unfold changeUrgency; dsimp only; (repeat' split) <;> simp

@[simp] theorem beside_withdrawOwn (r : Resource) (s : State) : beside (withdrawOwn r s) = beside s := by
  unfold withdrawOwn; split <;> simp

@[simp] theorem beside_askFresh (r : Resource) (a u : Nat) (s : State) : beside (askFresh r a u s) = beside s := by simp [askFresh]

@[simp] theorem beside_lowerOwn (r : Resource) (a : Nat) (s : State) : beside (lowerOwn r a s) = beside s := by
  simp [lowerOwn, beside_setEntry_own]

@[simp] theorem beside_raiseOwn (r : Resource) (a : Nat) (s : State) : beside (raiseOwn r a s) = beside s := by
  unfold raiseOwn; dsimp only; (repeat' split) <;> simp [beside_setEntry_own]

@[simp] theorem beside_askAmount (r : Resource) (a : Nat) (s : State) : beside (askAmount r a s) = beside s := by
  unfold askAmount; dsimp only; (repeat' split) <;> simp

@[simp] theorem beside_askOwn (r : Resource) (a u : Nat) (s : State) : beside (askOwn r a u s) = beside s := by
  unfold askOwn; (repeat' split) <;> simp

@[simp] theorem beside_askNext (s : State) : beside (askNext s) = beside s := by
  unfold askNext; (repeat' split) <;> simp

@[simp] theorem beside_markAnswered (q : Question) (s : State) : beside (markAnswered q s) = beside s := by
  unfold markAnswered; split <;> rfl

@[simp] theorem beside_yieldOwn (r : Resource) (yielders : List Nat) (s : State) : beside (yieldOwn r yielders s) = beside s := by
  unfold yieldOwn; split <;> simp

@[simp] theorem beside_takeCapacity (before : Nat) (s : State) : beside (takeCapacity before s) = beside s := by
  unfold takeCapacity; (repeat' split) <;> simp

@[simp] theorem beside_object (r : Resource) (newcomer : Nat) (s : State) : beside (object r newcomer s) = beside s := by
  unfold object; dsimp only; (repeat' split) <;> simp

@[simp] theorem beside_payOwedRefresh (r : Resource) (s : State) : beside (payOwedRefresh r s) = beside s := by
  unfold payOwedRefresh; dsimp only; split <;> simp

@[simp] theorem beside_grantOwn (r : Resource) (a : Nat) (s : State) : beside (grantOwn r a s) = beside s := by
  simp [grantOwn, beside_setEntry_own]

@[simp] theorem beside_ownSettleDone (r : Resource) (s : State) : beside (ownSettleDone r s) = beside s := by
  unfold ownSettleDone; dsimp only; (repeat' split) <;> simp

@[simp] theorem beside_refreshLeadReached (r : Resource) (s : State) : beside (refreshLeadReached r s) = beside s := by
  unfold refreshLeadReached; dsimp only; (repeat' split) <;> simp

@[simp] theorem beside_refreshMissed (r : Resource) (s : State) : beside (refreshMissed r s) = beside s := by
  unfold refreshMissed; dsimp only; split <;> simp

@[simp] theorem beside_releaseForDuplicate (r : Resource) (s : State) : beside (releaseForDuplicate r s) = beside s := by
  unfold releaseForDuplicate; split <;> simp

/-! ### Fields read back -/

section
variable {s t : State}
theorem sld_of_beside (h : beside t = beside s) : t.sld = s.sld := congrArg (fun b : Beside => b.state.sld) h
theorem msu_of_beside (h : beside t = beside s) : t.msu = s.msu := congrArg (fun b : Beside => b.state.msu) h
theorem odu_of_beside (h : beside t = beside s) : t.odu = s.odu := congrArg (fun b : Beside => b.state.odu) h
theorem flc_of_beside (h : beside t = beside s) : t.flc = s.flc := congrArg (fun b : Beside => b.state.flc) h
theorem ogu_of_beside (h : beside t = beside s) : t.ogu = s.ogu := congrArg (fun b : Beside => b.state.ogu) h
theorem frc_of_beside (h : beside t = beside s) : t.frc = s.frc := congrArg (fun b : Beside => b.state.frc) h
theorem others_of_beside (h : beside t = beside s) : othersOf t = othersOf s := congrArg Beside.others h
end

@[simp] theorem sld_queueNotice (item : Outgoing) (u : Nat) (s : State) : (queueNotice item u s).sld = s.sld :=
  sld_of_beside (beside_queueNotice item u s)
@[simp] theorem msu_queueNotice (item : Outgoing) (u : Nat) (s : State) : (queueNotice item u s).msu = s.msu :=
  msu_of_beside (beside_queueNotice item u s)
@[simp] theorem odu_queueNotice (item : Outgoing) (u : Nat) (s : State) : (queueNotice item u s).odu = s.odu :=
  odu_of_beside (beside_queueNotice item u s)
@[simp] theorem flc_queueNotice (item : Outgoing) (u : Nat) (s : State) : (queueNotice item u s).flc = s.flc :=
  flc_of_beside (beside_queueNotice item u s)
@[simp] theorem ogu_queueNotice (item : Outgoing) (u : Nat) (s : State) : (queueNotice item u s).ogu = s.ogu :=
  ogu_of_beside (beside_queueNotice item u s)
@[simp] theorem frc_queueNotice (item : Outgoing) (u : Nat) (s : State) : (queueNotice item u s).frc = s.frc :=
  frc_of_beside (beside_queueNotice item u s)

end Sys2Proof.Machine
end

section
/-! PROOFS. The measurement and the learned inflow: what a second event, a minute mark and a read make of them, and their laws. -/

namespace Sys2Proof.Machine

/-! ### The steady part read back -/

section
variable {s t : State}
theorem resetLow_of_steady (h : steady t = steady s) : t.resetLow = s.resetLow := congrArg Steady.resetLow h
theorem load_of_steady (h : steady t = steady s) : t.sld.load = s.sld.load := congrArg Steady.load h
theorem setting_of_steady (h : steady t = steady s) : setting t = setting s := congrArg Steady.settings h
theorem msu_of_steady (h : steady t = steady s) : t.msu = s.msu := congrArg Steady.msu h
theorem qEst_of_steady (h : steady t = steady s) : t.flc.qEst = s.flc.qEst := congrArg Steady.qEst h
end

/-! ### The sample of a second (R2 to R9, R13, R14) -/

/-- The measurement after a pressure sample (R3 to R9). -/
def pressed (x : Settings) (p : AnalogCode) (m : Measure) : Measure :=
  volumeFollows x (match headOf x (p.toNat : Int) with
    | some h => enterLevel (levelOf x h) m
    | none => missLevel m)

/-- The measurement after all four samples of a second. -/
def sampled (x : Settings) (p tw tr ta : AnalogCode) (m : Measure) : Measure :=
  { pressed x p m with
    tw := channelAfter (temperatureOf x.calW (tw.toNat : Int)) m.tw
    tr := channelAfter (temperatureOf x.calR (tr.toNat : Int)) m.tr
    ta := channelAfter (temperatureOf x.calA (ta.toNat : Int)) m.ta }

theorem steady_msu (s : State) (m : Measure) : steady { s with msu := m } = { steady s with msu := m } := rfl

theorem steady_samplePressure (p : AnalogCode) (s : State) :
    steady (samplePressure p s) = { steady s with msu := pressed (setting s) p s.msu } := by
  unfold samplePressure pressed
  cases headOf (setting s) (p.toNat : Int) with
  | some h => exact (steady_clearCondition _ _).trans (steady_msu _ _)
  | none => exact (steady_raiseCondition _ _).trans (steady_msu _ _)

/-- The pressure sample leaves the temperature channels. -/
theorem pressed_channels (x : Settings) (p : AnalogCode) (m : Measure) :
    (pressed x p m).tw = m.tw ∧ (pressed x p m).tr = m.tr ∧ (pressed x p m).ta = m.ta := by
  unfold pressed volumeFollows enterLevel missLevel
  dsimp only
  (repeat' split) <;> exact ⟨rfl, rfl, rfl⟩

theorem steady_takeSamples (p tw tr ta : AnalogCode) (s : State) :
    steady (takeSamples p tw tr ta s) = { steady s with msu := sampled (setting s) p tw tr ta s.msu } := by
  have pressure : steady (samplePressure p (takePending s)) = { steady s with msu := pressed (setting s) p s.msu } := by
    rw [steady_samplePressure, steady_takePending, show setting (takePending s) = setting s from
      congrArg Steady.settings (steady_takePending s), show (takePending s).msu = s.msu from
      congrArg Steady.msu (steady_takePending s)]
  have image : setting (samplePressure p (takePending s)) = setting s := congrArg Steady.settings pressure
  have measure : (samplePressure p (takePending s)).msu = pressed (setting s) p s.msu := congrArg Steady.msu pressure
  obtain ⟨w, r, a⟩ := pressed_channels (setting s) p s.msu
  unfold takeSamples sampleTemperatures
  simp only [steady_sampleTaken, steady_setCondition, steady_msu, pressure, image, measure, w, r, a]
  rfl

/-- A second event at an active station: the samples of the second, its count moved. -/
theorem steady_secondPasses {p tw tr ta : AnalogCode} {s : State} (h : active s = true) :
    steady (secondPasses p tw tr ta s) =
      { steady s with msu := sampled (setting s) p tw tr ta (countSecond s).msu } := by
  have counted : steady (countTimers (countSecond s)) = { steady s with msu := (countSecond s).msu } := steady_countTimers _
  unfold secondPasses
  rw [if_pos (show active (countSecond s) = true from h), steady_takeSamples, counted,
    show setting (countTimers (countSecond s)) = setting s from congrArg Steady.settings counted,
    show (countTimers (countSecond s)).msu = (countSecond s).msu from congrArg Steady.msu counted]

/-- Elsewhere it only counts. -/
theorem secondPasses_inactive {p tw tr ta : AnalogCode} {s : State} (h : active s = false) :
    secondPasses p tw tr ta s = countSecond s := by
  unfold secondPasses
  exact if_neg (by rw [show active (countSecond s) = active s from rfl, h]; exact Bool.false_ne_true)

/-! ### The end of a read (R191 to R193) -/

theorem steady_endLoading (raw : Settings) (s : State) :
    steady (endLoading raw s) = steady (startInflow (startMeasure (loadDone raw s))) := by
  unfold endLoading
  simp only [steady_startTrip, steady_dueEvent, steady_frostJudge, steady_fillFollows, steady_startTariff, steady_guardExamine,
    steady_startSituation, steady_startInputs, steady_startListening]

theorem resetLow_judgeRead (block : List Byte) (s : State) : (judgeRead block s).resetLow = s.resetLow := by
  have ends : ∀ raw t, (endLoading raw t).resetLow = t.resetLow := fun raw t => (resetLow_of_steady (steady_endLoading raw t)).trans rfl
  have structure_judged : ∀ raw t, (judgeStructure raw t).resetLow = t.resetLow := by
    intro raw t
    unfold judgeStructure
    split
    next => exact ends raw t
    next => rfl
  unfold judgeRead
  dsimp only
  split
  next => unfold noAnswer; split <;> rfl
  next =>
    split
    next => exact structure_judged _ _
    next => rfl

/-! ### The learned inflow of a minute mark (R122) -/

/-- The tariff count of a mark leaves what learning looks at. -/
theorem tariffCount_learning (s : State) :
    (tariffCount s).flc.learning = s.flc.learning ∧ (tariffCount s).flc.state = s.flc.state ∧
    (tariffCount s).odu = s.odu := by
  unfold tariffCount
  dsimp only
  split
  all_goals (repeat' split) <;> simp

theorem beside_changeRule (s : State) : beside (changeRule s) = beside s := by
  unfold changeRule; split <;> simp

/-- Learning alone reaches the learned inflow at a mark. -/
theorem qEst_markJobs (s : State) :
    (markJobs s).flc.qEst =
      if s.flc.learning && learnable s then s.flc.qEst.map (fun q => learnedInflow q s.msu.dv (setting s)) else s.flc.qEst := by
  have afterLearning : (markJobs s).flc.qEst = (learnStep (tariffCount (changeRule s))).flc.qEst := by
    unfold markJobs
    have q := congrArg Steady.qEst ((steady_stagnationMinute (fillFollows (guardMinute (fillMinute (changeRule s))))).trans
      ((steady_fillFollows _).trans (steady_guardMinute _)))
    refine Eq.trans q ?_
    unfold fillMinute
    dsimp only
    split
    next => rfl
    next => exact congrArg Steady.qEst (steady_planAndStep true _)
  obtain ⟨learning, fill, out⟩ := tariffCount_learning (changeRule s)
  have counted : steady (tariffCount (changeRule s)) = steady s := (steady_tariffCount _).trans (steady_changeRule s)
  have measure : (tariffCount (changeRule s)).msu = s.msu := congrArg Steady.msu counted
  have image : setting (tariffCount (changeRule s)) = setting s := congrArg Steady.settings counted
  have inflow : (tariffCount (changeRule s)).flc.qEst = s.flc.qEst := congrArg Steady.qEst counted
  have controller : (changeRule s).flc = s.flc := flc_of_beside (beside_changeRule s)
  have same : learnable (tariffCount (changeRule s)) = learnable s := by
    unfold learnable; rw [fill, out, measure, controller, odu_of_beside (beside_changeRule s)]
  rw [afterLearning]
  unfold learnStep
  simp only [same, learning, controller, inflow, measure, image]

/-! ### The level stays in its range (R6) -/

/-- The filtered level and every value of the ring lie within 0 and a top. -/
def LevelWithin (top : Int) (m : Measure) : Prop := 0 ≤ m.lf ∧ m.lf ≤ top ∧ ∀ x ∈ m.ring.toList, 0 ≤ x ∧ x ≤ top

theorem ringMean_mem {top : Int} {ring : Vector Int 8} (h : ∀ x ∈ ring.toList, 0 ≤ x ∧ x ≤ top) :
    0 ≤ ringMean ring ∧ ringMean ring ≤ top := by
  have low : 0 ≤ ring.toList.sum := List.sum_nonneg (fun x m => (h x m).1)
  have high : ring.toList.sum ≤ ring.toList.length • top := List.sum_le_card_nsmul _ _ (fun x m => (h x m).2)
  rw [Vector.length_toList] at high
  unfold ringMean floorDiv
  simp only [nsmul_eq_mul] at high
  push_cast at high
  omega

theorem LevelWithin.enterLevel {top l : Int} {m : Measure} (h : LevelWithin top m) (k : 0 ≤ l ∧ l ≤ top) :
    LevelWithin top (enterLevel l m) := by
  obtain ⟨_, _, ring⟩ := h
  unfold Machine.enterLevel
  split
  next =>
    have entered : ∀ x ∈ (put m.ring m.oldest l).toList, 0 ≤ x ∧ x ≤ top := by
      intro x mem
      rw [Vector.mem_toList_iff, put] at mem
      rcases Vector.mem_or_eq_of_mem_set mem with old | new
      · exact ring x (Vector.mem_toList_iff.mpr old)
      · exact new ▸ k
    exact ⟨(ringMean_mem entered).1, (ringMean_mem entered).2, entered⟩
  next =>
    refine ⟨k.1, k.2, fun x mem => ?_⟩
    rw [Vector.mem_toList_iff, Vector.mem_replicate] at mem
    exact mem.2 ▸ k

theorem LevelWithin.of_eq {top : Int} {m n : Measure} (h : LevelWithin top m) (lf : n.lf = m.lf) (ring : n.ring = m.ring) :
    LevelWithin top n := by
  unfold LevelWithin; rw [lf, ring]; exact h

theorem missLevel_keeps (m : Measure) : (missLevel m).lf = m.lf ∧ (missLevel m).ring = m.ring := by
  unfold missLevel; split <;> exact ⟨rfl, rfl⟩

theorem volumeFollows_keeps (x : Settings) (m : Measure) :
    (volumeFollows x m).lf = m.lf ∧ (volumeFollows x m).ring = m.ring := by
  unfold volumeFollows; split <;> exact ⟨rfl, rfl⟩

theorem LevelWithin.sampled {x : Settings} {p tw tr ta : AnalogCode} {m : Measure} (h : LevelWithin x.lMax m) :
    LevelWithin x.lMax (sampled x p tw tr ta m) := by
  have top : 0 ≤ x.lMax := h.1.trans h.2.1
  have pressed : LevelWithin x.lMax (pressed x p m) := by
    unfold Machine.pressed
    refine LevelWithin.of_eq ?_ (volumeFollows_keeps _ _).1 (volumeFollows_keeps _ _).2
    split
    next => exact h.enterLevel (clampTo_mem top _)
    next => exact h.of_eq (missLevel_keeps m).1 (missLevel_keeps m).2
  exact pressed.of_eq rfl rfl

/-! ### RESET over an event -/

/-- After an event that arises the part is not held in reset. -/
theorem resetLow_event {c : Instr} {s : State} (a : arises c s = true) :
    (event (effect c) (contactMoved c s)).resetLow = false := by
  refine (congrArg Steady.resetLow (steady_event _ _)).trans ?_
  by_cases pin : c = .resetPinReturnsHigh
  · subst pin; rfl
  have high : s.resetLow = false := resetLow_of_arises a pin
  by_cases reaches : loadsOrSamples c = true
  case neg =>
    exact (congrArg Steady.resetLow (steady_effect (by simpa using reaches) _)).trans (by simpa [steady] using high)
  cases c with
  | powerOnReset | externalReset => cases a
  | resetPinReturnsHigh => exact absurd rfl pin
  | loadAttemptDone block => exact (resetLow_judgeRead block _).trans high
  | retryWaitExpiry => exact high
  | secondEvent p tw tr ta =>
    by_cases act : active s = true
    · exact (congrArg Steady.resetLow (steady_secondPasses (s := beginEvent s) act)).trans high
    · exact (congrArg State.resetLow (secondPasses_inactive (s := beginEvent s) (Bool.eq_false_iff.mpr act))).trans high
  | minuteMark =>
    exact (minutePasses_keeps (f := State.resetLow) (fun t => congrArg Steady.resetLow (unlearned_markJobs t)) _).trans high
  | answerTimerExpiry =>
    have mode : s.sld.mode = .joining := by simpa [arises] using (Bool.and_eq_true_iff.mp a).2
    exact (congrArg Steady.resetLow (steady_endAnswering (s := beginEvent s) mode)).trans high
  | _ => cases reaches

/-! ### The laws of the level and of the learned inflow -/

/-- What the two laws look at: nothing of a steady step reaches it. -/
theorem LevelKept.of_eq {s t : State} (h : LevelKept s) (reset : t.resetLow = s.resetLow) (load : t.sld.load = s.sld.load)
    (conf : configured t = configured s) (image : setting t = setting s)
    (level : t.msu.lf = s.msu.lf ∧ t.msu.ring = s.msu.ring) (high : s.resetLow = false) : LevelKept t := by
  obtain ⟨⟨modes, _⟩, done, before⟩ := h
  refine ⟨⟨fun m => ?_, fun low => by rw [reset, high] at low; cases low⟩, ?_, ?_⟩
  · rw [load]
    refine modes ?_
    have c : configured s = true := by rw [← conf]; unfold configured; rcases m with m | m <;> simp [m]
    simpa [configured] using c
  · rw [load, level.1, level.2, image]; exact done
  · rw [load, level.1, level.2]; exact before

theorem LevelKept.of_steady {s t : State} (h : LevelKept s) (e : steady t = steady s) (high : t.resetLow = false) :
    LevelKept t :=
  have measure := msu_of_steady e
  h.of_eq (resetLow_of_steady e) (load_of_steady e) (congrArg Steady.configured e) (setting_of_steady e)
    ⟨congrArg Measure.lf measure, congrArg Measure.ring measure⟩ ((resetLow_of_steady e).symm.trans high)

/-- The mark's record leaves the level. -/
theorem markRecord_level (m : Measure) :
    ({ markRecord m with minuteDue := false } : Measure).lf = m.lf ∧
    ({ markRecord m with minuteDue := false } : Measure).ring = m.ring := by
  unfold markRecord; split <;> exact ⟨rfl, rfl⟩

theorem InflowKept.of_steady {s t : State} (h : InflowKept s) (e : steady t = steady s) : InflowKept t := by
  unfold InflowKept
  rw [show t.sld.load = s.sld.load from congrArg Steady.load e, show t.flc.qEst = s.flc.qEst from congrArg Steady.qEst e,
    show setting t = setting s from congrArg Steady.settings e]
  exact h

/-- An active station has loaded. -/
theorem LoadedModes.done {s : State} (h : LoadedModes s) (a : active s = true) : s.sld.load = .done :=
  h.1 (active_iff.mp a).2

theorem levelKept_unloaded {s : State} (mode : ¬ (s.sld.mode = .joining ∨ s.sld.mode = .joined))
    (low : s.resetLow = true → s.sld.mode = .loading) (load : s.sld.load ≠ .done)
    (zero : s.msu.lf = 0 ∧ ∀ x ∈ s.msu.ring.toList, x = 0) : LevelKept s :=
  ⟨⟨fun m => absurd m mode, fun l => ⟨low l, load⟩⟩, fun d => absurd d load, fun _ => zero⟩

theorem levelKept_loaded {s : State} (high : s.resetLow = false) (load : s.sld.load = .done)
    (within : LevelWithin (setting s).lMax s.msu) : LevelKept s :=
  ⟨⟨fun _ => load, fun l => by rw [high] at l; cases l⟩, fun _ => within, fun n => absurd load n⟩

/-- The law of an event is that of its own effect. -/
theorem LevelKept.event {c : Instr} {s : State} (a : arises c s = true)
    (h : LevelKept (effect c (beginEvent (contactMoved c s)))) : LevelKept (event (effect c) (contactMoved c s)) :=
  h.of_steady (steady_event _ _) (resetLow_event a)

theorem InflowKept.event {c : Instr} {s : State} (h : InflowKept (effect c (beginEvent (contactMoved c s)))) :
    InflowKept (event (effect c) (contactMoved c s)) := h.of_steady (steady_event _ _)

theorem resetRing_zero : ∀ x ∈ Measure.atReset.ring.toList, x = 0 := by decide

/-- A part in reset has its level at 0. -/
theorem levelKept_reset {s : State} (load : s.sld = Loader.atReset) (measure : s.msu = Measure.atReset) : LevelKept s :=
  levelKept_unloaded (by rw [load]; rintro (m | m) <;> cases m) (fun _ => by rw [load]; rfl) (by rw [load]; decide)
    (by rw [measure]; exact ⟨rfl, resetRing_zero⟩)

/-- A trusted read leaves the level at 0, which every image allows. -/
theorem levelKept_endLoading (raw : Settings) {s : State} (high : s.resetLow = false)
    (zero : s.msu.lf = 0 ∧ ∀ x ∈ s.msu.ring.toList, x = 0) : LevelKept (endLoading raw s) := by
  refine LevelKept.of_steady (s := startInflow (startMeasure (loadDone raw s))) ?_ (steady_endLoading raw s)
    ((resetLow_of_steady (steady_endLoading raw s)).trans high)
  have top : 0 ≤ (clampSettings raw).lMax := by
    have low : 1000 ≤ (clampSettings raw).lMax := (clampTo_mem (show (1000 : Int) ≤ 30000 by omega) raw.lMax).1
    exact le_trans (by norm_num) low
  refine levelKept_loaded high rfl ⟨zero.1.ge, zero.1 ▸ top, fun x m => ?_⟩
  rw [zero.2 x m]
  exact ⟨le_rfl, top⟩

/-- The law after a read. -/
theorem levelKept_judgeRead (block : List Byte) {s : State} (r : isReading s = true)
    (zero : s.msu.lf = 0 ∧ ∀ x ∈ s.msu.ring.toList, x = 0) : LevelKept (judgeRead block s) := by
  obtain ⟨high, mode, load⟩ := isReading_iff.mp r
  have low : s.resetLow = true → s.sld.mode = .loading := fun _ => mode
  have unjoined : ¬ (s.sld.mode = .joining ∨ s.sld.mode = .joined) := by rw [mode]; rintro (m | m) <;> cases m
  have fails : ∀ image, LevelKept (loadFails { s with sld := { s.sld with settings := image } }) := fun image =>
    levelKept_unloaded (by rintro (m | m) <;> cases m) (fun l => by rw [high] at l; cases l) (by rintro ⟨⟩) zero
  have waits : LevelKept { takeBlock block s with sld := { (takeBlock block s).sld with load := .retryWait } } :=
    levelKept_unloaded unjoined low (by rintro ⟨⟩) zero
  unfold judgeRead
  dsimp only
  split
  next =>
    unfold noAnswer
    split
    next => exact waits
    next => exact fails _
  next =>
    split
    next =>
      unfold judgeStructure
      split
      next => exact levelKept_endLoading _ high zero
      next => exact fails _
    next => exact fails _

end Sys2Proof.Machine

namespace Sys2Proof.Proofs
open Sys2Proof Sys2Proof.Machine

/-- Settles O54. -/
theorem levelLawKept : Obligations.LevelLawKept := by
  intro s t
  refine step_keeps (P := LevelKept) ?_ (fun _ _ h => h) (fun s _ => levelKept_reset rfl rfl)
    (fun s _ => levelKept_reset rfl rfl) (fun _ _ _ h => h) ?_
  · intro s h
    rcases passSlot_cases s with e | ⟨_, e⟩ <;> rw [e] <;> exact h
  · intro c s a h
    by_cases reaches : loadsOrSamples c = true
    case neg => exact h.of_steady ((steady_event _ _).trans (steady_effect (by simpa using reaches) _)) (resetLow_event a)
    refine LevelKept.event a ?_
    cases c with
    | powerOnReset | externalReset => cases a
    | loadAttemptDone block =>
      have reading := (Bool.and_eq_true_iff.mp a).2
      have load := (isReading_iff.mp reading).2.2
      exact levelKept_judgeRead block reading (h.2.2 (by rw [contactMoved_sld, load]; decide))
    | retryWaitExpiry =>
      obtain ⟨high, mode, load⟩ := isRetryWait_iff.mp a
      have unjoined : ¬ (s.sld.mode = .joining ∨ s.sld.mode = .joined) := by rw [mode]; rintro (m | m) <;> cases m
      exact levelKept_unloaded unjoined (fun _ => mode) (by rintro ⟨⟩) (h.2.2 (by rw [contactMoved_sld, load]; decide))
    | secondEvent p tw tr ta =>
      have high := resetLow_of_arises a (by rintro ⟨⟩)
      by_cases act : active s = true
      · have load := LoadedModes.done h.1 act
        have kept := steady_secondPasses (p := p) (tw := tw) (tr := tr) (ta := ta) (s := beginEvent s) act
        refine levelKept_loaded ((congrArg Steady.resetLow kept).trans high) ((congrArg Steady.load kept).trans load) ?_
        have image : setting (secondPasses p tw tr ta (beginEvent s)) = setting s := congrArg Steady.settings kept
        have measure := congrArg Steady.msu kept
        have within : LevelWithin (setting s).lMax (countSecond s).msu := h.2.1 load
        show LevelWithin (setting (secondPasses p tw tr ta (beginEvent s))).lMax (secondPasses p tw tr ta (beginEvent s)).msu
        rw [image, show (secondPasses p tw tr ta (beginEvent s)).msu = _ from measure]
        exact within.sampled
      · show LevelKept (secondPasses p tw tr ta (beginEvent s))
        rw [secondPasses_inactive (s := beginEvent s) (Bool.eq_false_iff.mpr act)]
        exact h
    | minuteMark =>
      have kept : unlearned (minutePasses (beginEvent s)) = { unlearned s with msu := { markRecord s.msu with minuteDue := false } } :=
        minutePasses_keeps (f := unlearned) unlearned_markJobs _
      refine LevelKept.of_eq h (congrArg Steady.resetLow kept) (congrArg Steady.load kept) (congrArg Steady.configured kept)
        (congrArg Steady.settings kept) ?_ (resetLow_of_arises a (by rintro ⟨⟩))
      show (minutePasses (beginEvent s)).msu.lf = s.msu.lf ∧ (minutePasses (beginEvent s)).msu.ring = s.msu.ring
      rw [msu_minutePasses]
      exact markRecord_level _
    | answerTimerExpiry =>
      have mode : s.sld.mode = .joining := by simpa [arises] using (Bool.and_eq_true_iff.mp a).2
      have kept : steady (endAnswering (beginEvent s)) = steady s := steady_endAnswering (s := beginEvent s) mode
      exact h.of_steady kept ((resetLow_of_steady kept).trans (resetLow_of_arises a (by rintro ⟨⟩)))
    | resetPinReturnsHigh =>
      obtain ⟨⟨_, held⟩, _, before⟩ := h
      exact levelKept_unloaded (by rintro (m | m) <;> cases m) (fun _ => rfl) (by rintro ⟨⟩) (before (held a).2)
    | _ => cases reaches

end Sys2Proof.Proofs

namespace Sys2Proof.Machine

/-! ### The learned inflow in its range (R122, R123) -/

/-- The learned inflow is set and lies in its range. -/
def InflowWithin (x : Settings) (q : Option Int) : Prop := x.qMin ≤ x.qMax ∧ ∃ v, q = some v ∧ x.qMin ≤ v ∧ v ≤ x.qMax

theorem InflowWithin.of_clamp {x : Settings} (h : x.qMin ≤ x.qMax) (v : Int) : InflowWithin x (some (clampTo x.qMin x.qMax v)) :=
  ⟨h, _, rfl, clampTo_mem h v⟩

/-- Before loading ends the law asks nothing. -/
theorem inflowKept_unloaded {s : State} (load : s.sld.load ≠ .done) : InflowKept s := fun d => absurd d load

theorem clampSettings_qMin_le_qMax (r : Settings) : (clampSettings r).qMin ≤ (clampSettings r).qMax :=
  le_max_left (clampTo 100 20000 r.qMin) (clampTo 100 20000 r.qMax)

/-- The inflow at the end of loading lies in its range (R123). -/
theorem inflowWithin_startInflow (raw : Settings) (q : Option Int) :
    InflowWithin (clampSettings raw) (some (match q with
      | none => (clampSettings raw).qNom
      | some v => clampTo (clampSettings raw).qMin (clampSettings raw).qMax v)) := by
  have order := clampSettings_qMin_le_qMax raw
  cases q with
  | none => exact InflowWithin.of_clamp order (clampTo 100 20000 raw.qNom)
  | some v => exact InflowWithin.of_clamp order v

theorem inflowKept_judgeRead (block : List Byte) (s : State) : InflowKept (judgeRead block s) := by
  have ends : ∀ raw t, InflowKept (endLoading raw t) := fun raw t =>
    InflowKept.of_steady (s := startInflow (startMeasure (loadDone raw t)))
      (fun _ => inflowWithin_startInflow raw t.flc.qEst) (steady_endLoading raw t)
  have fails : ∀ t, InflowKept (loadFails t) := fun t => inflowKept_unloaded (by rintro ⟨⟩)
  unfold judgeRead
  dsimp only
  split
  next =>
    unfold noAnswer
    split
    next => exact inflowKept_unloaded (by rintro ⟨⟩)
    next => exact fails _
  next =>
    split
    next =>
      unfold judgeStructure
      split
      next => exact ends _ _
      next => exact fails _
    next => exact fails _

/-- A learned minute stays in the range. -/
theorem InflowWithin.learned {x : Settings} {q : Option Int} (h : InflowWithin x q) (dv : Int) :
    InflowWithin x (q.map (fun v => learnedInflow v dv x)) := by
  obtain ⟨order, v, rfl, _⟩ := h
  exact InflowWithin.of_clamp order _

theorem qEst_minutePasses (s : State) :
    (minutePasses s).flc.qEst = s.flc.qEst ∨
    ∃ dv, (minutePasses s).flc.qEst = s.flc.qEst.map (fun v => learnedInflow v dv (setting s)) := by
  unfold minutePasses
  dsimp only
  split
  next =>
    rw [qEst_markJobs]
    split
    next => exact .inr ⟨_, rfl⟩
    next => exact .inl rfl
  next => exact .inl rfl

end Sys2Proof.Machine

namespace Sys2Proof.Proofs
open Sys2Proof Sys2Proof.Machine

/-- Settles O55: only the end of loading and a learned minute write the inflow, and both clamp it. -/
theorem inflowLawKept : Obligations.InflowLawKept := by
  intro s t
  refine step_keeps (P := InflowKept) ?_ (fun _ _ h => h) (fun s _ => inflowKept_unloaded (by rintro ⟨⟩))
    (fun s _ => inflowKept_unloaded (by rintro ⟨⟩)) (fun _ _ _ h => h) ?_
  · intro s h
    rcases passSlot_cases s with e | ⟨_, e⟩ <;> rw [e] <;> exact h
  · intro c s a h
    by_cases reaches : loadsOrSamples c = true
    case neg => exact h.of_steady ((steady_event _ _).trans (steady_effect (by simpa using reaches) _))
    refine InflowKept.event ?_
    cases c with
    | powerOnReset | externalReset => cases a
    | loadAttemptDone block => exact inflowKept_judgeRead block _
    | retryWaitExpiry => exact inflowKept_unloaded (by rintro ⟨⟩)
    | secondEvent p tw tr ta =>
      by_cases act : active s = true
      · have kept := steady_secondPasses (p := p) (tw := tw) (tr := tr) (ta := ta) (s := beginEvent s) act
        intro done
        have within := h ((congrArg Steady.load kept).symm.trans done)
        show InflowWithin (setting (secondPasses p tw tr ta (beginEvent s))) (secondPasses p tw tr ta (beginEvent s)).flc.qEst
        rw [show setting (secondPasses p tw tr ta (beginEvent s)) = setting s from congrArg Steady.settings kept,
          show (secondPasses p tw tr ta (beginEvent s)).flc.qEst = s.flc.qEst from congrArg Steady.qEst kept]
        exact within
      · show InflowKept (secondPasses p tw tr ta (beginEvent s))
        rw [secondPasses_inactive (s := beginEvent s) (Bool.eq_false_iff.mpr act)]
        exact h
    | minuteMark =>
      have kept : unlearned (minutePasses (beginEvent s)) = { unlearned s with msu := { markRecord s.msu with minuteDue := false } } :=
        minutePasses_keeps (f := unlearned) unlearned_markJobs _
      intro done
      have within := h ((congrArg Steady.load kept).symm.trans done)
      show InflowWithin (setting (minutePasses (beginEvent s))) (minutePasses (beginEvent s)).flc.qEst
      rw [show setting (minutePasses (beginEvent s)) = setting s from congrArg Steady.settings kept]
      rcases qEst_minutePasses (beginEvent s) with e | ⟨dv, e⟩ <;> rw [e]
      · exact within
      · exact InflowWithin.learned within dv
    | answerTimerExpiry =>
      have mode : s.sld.mode = .joining := by simpa [arises] using (Bool.and_eq_true_iff.mp a).2
      exact h.of_steady (steady_endAnswering (s := beginEvent s) mode)
    | resetPinReturnsHigh => exact inflowKept_unloaded (by rintro ⟨⟩)
    | _ => cases reaches

/-- Settles O12: the mark's jobs learn from the record just made, and nothing after them reaches the inflow. -/
theorem minuteMarkLearnsInflow : Obligations.MinuteMarkLearnsInflow := by
  intro s act due
  refine ⟨event minutePasses s, exec_minuteMark (loaded_of_active act) due, ?_⟩
  let marked : State := { beginEvent s with msu := { markRecord s.msu with minuteDue := false } }
  have jobs : minutePasses (beginEvent s) = markJobs marked := if_pos act
  have inflow : (event minutePasses s).flc.qEst = (markJobs marked).flc.qEst :=
    (qEst_of_steady (steady_event minutePasses s)).trans (congrArg (fun t : State => t.flc.qEst) jobs)
  have dv : s.msu.level = .fresh → marked.msu.dv = if s.msu.primed then s.msu.volume - s.msu.vm else 0 := fun fresh =>
    congrArg Measure.dv (markRecord_fresh fresh)
  have learns : (marked.flc.learning && learnable marked) = true ↔
      s.flc.learning = true ∧ (s.flc.state = .fill .tariff ∨ s.flc.state = .fill .turnover) ∧
        s.odu.position = .opened ∧ s.msu.level = .fresh := by
    have stale : marked.msu.stale = false ↔ s.msu.level = .fresh := by
      show (markRecord s.msu).stale = false ↔ _
      unfold markRecord
      split
      next h => simp [h]
      next h => simp [h]
    have fill : learnable marked = true ↔ (s.flc.state = .fill .tariff ∨ s.flc.state = .fill .turnover) ∧
        s.odu.position = .opened ∧ marked.msu.stale = false := by simp [learnable, marked, beginEvent, and_assoc]
    rw [Bool.and_eq_true, fill, stale]
    rfl
  rw [qEst_markJobs] at inflow
  refine ⟨fun l q hq => ?_, fun l => ?_⟩
  · rw [inflow, if_pos (learns.mpr l), show marked.flc.qEst = some q from hq, dv l.2.2.2]
    rfl
  · rw [inflow, if_neg (fun h => l (learns.mp h))]
    rfl

end Sys2Proof.Proofs

namespace Sys2Proof.Machine

/-! ### What the samples write -/

/-- The samples leave the mark's record. -/
theorem sampled_record (x : Settings) (p tw tr ta : AnalogCode) (m : Measure) :
    let n := sampled x p tw tr ta m
    n.lm = m.lm ∧ n.vm = m.vm ∧ n.rate = m.rate ∧ n.dv = m.dv ∧ n.stale = m.stale ∧ n.primed = m.primed := by
  unfold sampled pressed volumeFollows enterLevel missLevel
  dsimp only
  (repeat' split) <;> exact ⟨rfl, rfl, rfl, rfl, rfl, rfl⟩

/-- The volume follows the filtered level once a level has been read (R9). -/
theorem pressed_volume (x : Settings) (p : AnalogCode) (m : Measure) :
    (pressed x p m).volume = if (pressed x p m).level = .unread then m.volume else strapVolume x.strap (pressed x p m).lf := by
  have kept : ∀ n : Measure, n.volume = m.volume →
      (volumeFollows x n).volume = if (volumeFollows x n).level = .unread then m.volume else strapVolume x.strap (volumeFollows x n).lf := by
    intro n e
    unfold volumeFollows
    by_cases unread : n.level = .unread <;> simp [unread, e]
  apply kept
  unfold enterLevel missLevel
  (repeat' split) <;> rfl

/-- A valid sample enters the ring, or restarts the filter (R6, R7). -/
theorem pressed_valid {x : Settings} {p : AnalogCode} {h : Int} (m : Measure) (e : headOf x (p.toNat : Int) = some h) :
    let n := pressed x p m
    let l := levelOf x h
    n.level = .fresh ∧
    (m.level = .fresh → n.ring = put m.ring m.oldest l ∧ n.oldest = m.oldest + 1 ∧ n.lf = ringMean n.ring) ∧
    (m.level ≠ .fresh → n.ring = Vector.replicate 8 l ∧ n.lf = l) := by
  unfold pressed
  rw [e]
  unfold enterLevel volumeFollows
  by_cases fresh : m.level = .fresh <;> simp [fresh]

/-- An invalid sample makes FRESH STALE and leaves the filter (R4, R7). -/
theorem pressed_invalid {x : Settings} {p : AnalogCode} (m : Measure) (e : headOf x (p.toNat : Int) = none) :
    let n := pressed x p m
    n.level = (if m.level = .fresh then .stale else m.level) ∧ n.ring = m.ring ∧ n.oldest = m.oldest ∧ n.lf = m.lf := by
  unfold pressed
  rw [e]
  unfold missLevel volumeFollows
  by_cases fresh : m.level = .fresh
  · simp [fresh]
  · by_cases unread : m.level = .unread <;> simp [fresh, unread]

/-- A channel after its sample (R13, R14). -/
theorem channelAfter_eq (t : Int) (c : TempChannel) :
    channelAfter t c = if -500 ≤ t ∧ t ≤ 800 then { value := t, state := .good } else { value := c.value, state := .held } := by
  unfold channelAfter goodTemperature
  simp only [Bool.and_eq_true, decide_eq_true_eq]

end Sys2Proof.Machine

namespace Sys2Proof.Proofs
open Sys2Proof Sys2Proof.Machine

/-- Settles O9: the samples write the measurement once, and no block that takes them writes it. -/
theorem secondEventMeasures : Obligations.SecondEventMeasures := by
  intro p w r a s act run
  have kept := steady_secondPasses (p := p) (tw := w) (tr := r) (ta := a) (s := beginEvent s) act
  refine ⟨event (secondPasses p w r a) s, occurs_true (by rw [loaded_of_active act, run]; rfl) _ _, ?_⟩
  have measure : (event (secondPasses p w r a) s).msu = sampled (setting s) p w r a (countSecond s).msu :=
    (msu_of_steady (steady_event _ _)).trans (congrArg Steady.msu kept)
  simp only [measure]
  refine ⟨?_, pressed_volume _ _ _, ?_, sampled_record _ _ _ _ _ _⟩
  · cases e : headOf (setting s) (p.toNat : Int) with
    | some h =>
      obtain ⟨fresh, entered, restarted⟩ := pressed_valid (countSecond s).msu e
      refine ⟨fresh, fun f => ?_, fun f => ?_⟩
      · obtain ⟨ring, oldest, lf⟩ := entered f
        refine ⟨fun i => ?_, oldest, lf⟩
        show (pressed (setting s) p (countSecond s).msu).ring[i] = _
        rw [ring]
        split
        next h => rw [h]; exact getElem_put_same _ _ _
        next h => exact getElem_put_ne _ (fun e => h e.symm) _
      · obtain ⟨ring, lf⟩ := restarted f
        refine ⟨fun i => ?_, lf⟩
        show (pressed (setting s) p (countSecond s).msu).ring[i] = _
        rw [ring]
        simp [levelOf, clampTo]
    | none => exact pressed_invalid (countSecond s).msu e
  · intro c m
    simp only [List.mem_cons, List.not_mem_nil, or_false] at m
    rcases m with rfl | rfl | rfl <;> exact channelAfter_eq _ _

end Sys2Proof.Proofs
end

section
/-! PROOFS. The outputs follow, safe hold keeps its demand, and the queue and the report totals keep their law, over every move. -/

namespace Sys2Proof.Machine

/-! ### The outputs follow after every event (R33, R37, R124, R125) -/

theorem outputsFollow_follow (s : State) : OutputsFollow (follow s) := ⟨rfl, rfl, rfl⟩

theorem outputsFollow_takeHandOns (n : Nat) {s : State} (h : OutputsFollow s) : OutputsFollow (takeHandOns n s) := by
  induction n generalizing s with
  | zero => exact h
  | succ n ih =>
    unfold takeHandOns
    split
    next => exact h
    next => exact ih (outputsFollow_follow _)

theorem outputsFollow_event (f : State → State) (s : State) : OutputsFollow (event f s) :=
  outputsFollow_takeHandOns _ (outputsFollow_follow _)

/-- In LOADING the relays are released: the outputs follow a reset. -/
theorem outputsFollow_loading {s : State} (mode : s.sld.mode = .loading) (outs : s.odu = Outputs.atReset)
    (fill : s.flc.state = .blocked) (mark : s.flc.unproductive = false) : OutputsFollow s := by
  simp [OutputsFollow, inletWanted, alarmWanted, unproductiveNow, active, mode, outs, fill, mark, Outputs.atReset]

/-! ### Safe hold keeps its demand (R137, R187) -/

theorem safeHold_of_beside {s t : State} (h : beside t = beside s) : t.ftu.safeHold = s.ftu.safeHold :=
  congrArg (fun b : Beside => b.state.ftu.safeHold) h

theorem StopsInSafeHold.of_eq {s t : State} (h : StopsInSafeHold s) (stop : t.ogu.stop = s.ogu.stop)
    (hold : t.ftu.safeHold = s.ftu.safeHold) : StopsInSafeHold t := by
  unfold StopsInSafeHold; rw [stop, hold]; exact h

theorem StopsInSafeHold.moves {s t : State} (h : StopsInSafeHold s) (m : Moves s t) : StopsInSafeHold t := by
  induction m with
  | refl => exact h
  | still _ e ih => exact ih.of_eq (congrArg Core.stop e) (congrArg Core.safeHold e)
  | queue item u _ _ ih => exact ih.of_eq (by rw [ogu_queueNotice]) (safeHold_of_beside (beside_queueNotice item u _))
  | due _ ih => exact ih.of_eq (by rw [ogu_of_beside (beside_dueEvent _)]) (safeHold_of_beside (beside_dueEvent _))
  | demand x _ e keeps ih =>
    intro held
    have before : _ = true := (congrArg Core.safeHold e).symm.trans held
    obtain ⟨d, stop, cause⟩ := ih before
    obtain ⟨d', new, same⟩ := keeps before d stop
    exact ⟨d', (congrArg Core.stop e).trans new, same.trans cause⟩
  | hold d _ e cause ih => exact fun _ => ⟨d, congrArg Core.stop e, cause⟩
  | abandon _ ih => exact ih
  | cancel _ _ _ _ e ih => exact ih.of_eq (congrArg Core.stop e) (congrArg Core.safeHold e)
  | start _ _ _ ih => exact ih
  | sentReport _ _ _ _ e ih => exact ih.of_eq (congrArg Core.stop e) (congrArg Core.safeHold e)
  | sentOther _ e ih => exact ih.of_eq (congrArg Core.stop e) (congrArg Core.safeHold e)

/-- No move ends safe hold. -/
theorem safeHold_moves {s t : State} (h : s.ftu.safeHold = true) (m : Moves s t) : t.ftu.safeHold = true := by
  induction m with
  | refl => exact h
  | still _ e ih => exact (congrArg Core.safeHold e).trans ih
  | queue item u _ _ ih => exact (safeHold_of_beside (beside_queueNotice item u _)).trans ih
  | due _ ih => exact (safeHold_of_beside (beside_dueEvent _)).trans ih
  | demand _ _ e _ ih => exact (congrArg Core.safeHold e).trans ih
  | hold _ _ e _ _ => exact congrArg Core.safeHold e
  | abandon _ ih => exact ih
  | cancel _ _ _ _ e ih => exact (congrArg Core.safeHold e).trans ih
  | start _ _ _ ih => exact ih
  | sentReport _ _ _ _ e ih => exact (congrArg Core.safeHold e).trans ih
  | sentOther _ e ih => exact (congrArg Core.safeHold e).trans ih

/-- An event that arises is made of moves. -/
theorem moves_of_arises {c : Instr} {s : State} (a : arises c s = true) :
    Moves (contactMoved c s) (event (effect c) (contactMoved c s)) := by
  have moves := moves_exec (by rintro rfl; cases a) (by rintro rfl; cases a) (exec_of_arises a)
  have moved : core s = core (contactMoved c s) := by cases c <;> rfl
  exact (Moves.refl.still moved).trans moves

end Sys2Proof.Machine

namespace Sys2Proof.Proofs
open Sys2Proof Sys2Proof.Machine

/-- Settles O52: the outputs follow every event, and no move of an event takes the demand of safe hold away. -/
theorem safeHoldLawKept : Obligations.SafeHoldLawKept := by
  refine ⟨fun s t => ?_, fun c s t held h p x => safeHold_moves held (moves_exec p x h), fun s h => ?_⟩
  · refine step_keeps (P := SafeHoldKept) ?_ (fun _ _ h => h) ?_ ?_ (fun _ _ _ h => h) ?_
    · intro s h
      rcases passSlot_cases s with e | ⟨_, e⟩ <;> rw [e] <;> exact h
    · exact fun s _ => ⟨fun held => (Bool.false_ne_true held).elim, outputsFollow_loading rfl rfl rfl rfl⟩
    · exact fun s _ => ⟨fun held => (Bool.false_ne_true held).elim, outputsFollow_loading rfl rfl rfl rfl⟩
    · exact fun c s a h => ⟨h.1.moves (moves_of_arises a), outputsFollow_event _ _⟩
  · obtain ⟨stops, inlet, _⟩ := h
    have wanted : s.odu.inletOpen = true → s.flc.openRequest = true ∧ s.ogu.state = .watch ∧ debounced .maint s = false ∧
        s.ftu.safeHold = false := by
      rw [inlet]
      simp only [inletWanted, Bool.and_eq_true, beq_iff_eq, Bool.not_eq_true']
      exact fun ⟨⟨⟨⟨_, request⟩, watch⟩, maint⟩, hold⟩ => ⟨request, watch, maint, hold⟩
    refine ⟨fun held => ⟨?_, ?_⟩, wanted⟩
    · obtain ⟨d, stop, _⟩ := stops held
      rw [stop]; rfl
    · cases e : s.odu.inletOpen with
      | false => rfl
      | true => exact absurd ((wanted e).2.2.2) (by rw [held]; decide)

end Sys2Proof.Proofs
end

section
/-! PROOFS. The law of the queue and of the report totals (R52, R177): what each change of the queue keeps, then every move. -/

namespace Sys2Proof.Machine

/-! ### The law of the queue, list by list -/

/-- What the report law says of the queue, the notice on the line and the queued flag. -/
structure QueueSound (q : List QueueEntry) (o : Option OnLine) (queued : Bool) : Prop where
  room : q.length ≤ 8
  keys : (q.map (fun e => keyOf e.item)).Nodup
  renewals : ∀ e ∈ q, ∀ x, e.renewed = some x → keyOf x = keyOf e.item
  line : ∀ x, o = some x → ∃ e ∈ q, e.sending = true ∧ keyOf e.item = keyOf x.item
  flagged : (∃ e ∈ q, e.item = .report) → queued = true
  notRenewed : ∀ e ∈ q, e.item = .report → e.renewed = none

theorem reportsKept_iff {s : State} :
    ReportsKept s ↔ QueueSound s.lnu.queue s.lnu.onLine s.rpu.queued ∧ ReportsAccounted s :=
  ⟨fun ⟨⟨room, keys, renewals⟩, line, flagged, notRenewed, sums⟩ => ⟨⟨room, keys, renewals, line, flagged, notRenewed⟩, sums⟩,
    fun ⟨⟨room, keys, renewals, line, flagged, notRenewed⟩, sums⟩ => ⟨⟨room, keys, renewals⟩, line, flagged, notRenewed, sums⟩⟩

theorem keyOf_eq_report {item : Outgoing} : keyOf item = .report ↔ item = .report := by cases item <;> simp [keyOf]

/-- Two entries of one key are one entry. -/
theorem eq_of_keyOf_eq {q : List QueueEntry} (h : (q.map (fun e => keyOf e.item)).Nodup) {e x : QueueEntry} (he : e ∈ q)
    (hx : x ∈ q) (k : keyOf e.item = keyOf x.item) : e = x := List.inj_on_of_nodup_map h he hx k

section
variable {q : List QueueEntry} {o : Option OnLine} {queued : Bool}

/-- A newcomer under a new key. -/
theorem QueueSound.append (h : QueueSound q o queued) (item : Outgoing) (u age : Nat) (room : q.length < 8)
    (fresh : ∀ e ∈ q, keyOf e.item ≠ keyOf item) (report : item = .report → queued = true) :
    QueueSound (q ++ [newEntry item u age]) o queued := by
  refine ⟨by simpa using room, ?_, ?_, ?_, ?_, ?_⟩
  · rw [List.map_append, List.nodup_append]
    refine ⟨h.keys, by simp, ?_⟩
    simp only [List.mem_map, List.map_cons, List.map_nil, List.mem_singleton]
    rintro _ ⟨e, m, rfl⟩ _ rfl
    exact fresh e m
  · intro e m x r
    rcases List.mem_append.mp m with old | new
    · exact h.renewals e old x r
    · rw [List.mem_singleton.mp new] at r; cases r
  · intro x hx
    obtain ⟨e, m, sent, k⟩ := h.line x hx
    exact ⟨e, List.mem_append_left _ m, sent, k⟩
  · rintro ⟨e, m, r⟩
    rcases List.mem_append.mp m with old | new
    · exact h.flagged ⟨e, old, r⟩
    · rw [List.mem_singleton.mp new] at r; exact report r
  · intro e m r
    rcases List.mem_append.mp m with old | new
    · exact h.notRenewed e old r
    · rw [List.mem_singleton.mp new]; rfl

theorem mem_removeUnder {k : QueueKey} {e : QueueEntry} : e ∈ removeUnder k q ↔ e ∈ q ∧ keyOf e.item ≠ k := by
  simp [removeUnder]

/-- A WAITING entry leaves. -/
theorem QueueSound.remove (h : QueueSound q o queued) {e : QueueEntry} (m : e ∈ q) (waiting : e.sending = false) :
    QueueSound (removeUnder (keyOf e.item) q) o queued := by
  have part : (removeUnder (keyOf e.item) q).Sublist q := List.filter_sublist
  refine ⟨part.length_le.trans h.room, (part.map _).nodup h.keys, fun x mx => h.renewals x (mem_removeUnder.mp mx).1, ?_,
    fun ⟨x, mx, r⟩ => h.flagged ⟨x, (mem_removeUnder.mp mx).1, r⟩, fun x mx => h.notRenewed x (mem_removeUnder.mp mx).1⟩
  intro x hx
  obtain ⟨y, my, sent, k⟩ := h.line x hx
  refine ⟨y, mem_removeUnder.mpr ⟨my, fun same => ?_⟩, sent, k⟩
  rw [eq_of_keyOf_eq h.keys my m same, waiting] at sent
  cases sent

/-- The removal of a REPORT leaves none. -/
theorem no_report_of_remove {e : QueueEntry} (r : e.item = .report) : ∀ x ∈ removeUnder (keyOf e.item) q, x.item ≠ .report := by
  intro x mx same
  exact (mem_removeUnder.mp mx).2 (by rw [same, r])

/-- Where no REPORT stands in the queue the flag may clear. -/
theorem QueueSound.unflag (h : QueueSound q o queued) (none : ∀ e ∈ q, e.item ≠ .report) (b : Bool) : QueueSound q o b :=
  ⟨h.room, h.keys, h.renewals, h.line, fun ⟨e, m, r⟩ => absurd r (none e m), h.notRenewed⟩

/-- The flag may be set at any time. -/
theorem QueueSound.flag (h : QueueSound q o queued) : QueueSound q o true :=
  ⟨h.room, h.keys, h.renewals, h.line, fun _ => rfl, h.notRenewed⟩

theorem mem_map_queue {f : QueueEntry → QueueEntry} {e : QueueEntry} : e ∈ q.map f ↔ ∃ x ∈ q, f x = e := List.mem_map

/-- Every entry changed in place: its key, its being on the line and its renewals keep the law. -/
theorem QueueSound.map (h : QueueSound q o queued) (f : QueueEntry → QueueEntry) (key : ∀ e ∈ q, keyOf (f e).item = keyOf e.item)
    (sends : o ≠ none → ∀ e ∈ q, e.sending = true → (f e).sending = true)
    (renewals : ∀ e ∈ q, ∀ x, (f e).renewed = some x → keyOf x = keyOf e.item)
    (notRenewed : ∀ e ∈ q, e.item = .report → (f e).renewed = none) : QueueSound (q.map f) o queued := by
  have keys : (q.map f).map (fun e => keyOf e.item) = q.map (fun e => keyOf e.item) := by
    rw [List.map_map]; exact List.map_congr_left key
  have report : ∀ e ∈ q, (f e).item = .report → e.item = .report := fun e m r => keyOf_eq_report.mp ((key e m).symm.trans (by rw [r]; rfl))
  refine ⟨by simpa using h.room, keys ▸ h.keys, ?_, ?_, ?_, ?_⟩
  · intro e m x r
    obtain ⟨y, my, rfl⟩ := List.mem_map.mp m
    rw [key y my]
    exact renewals y my x r
  · intro x hx
    obtain ⟨e, m, sent, k⟩ := h.line x hx
    exact ⟨f e, List.mem_map_of_mem m, sends (by simp [hx]) e m sent, (key e m).trans k⟩
  · rintro ⟨e, m, r⟩
    obtain ⟨y, my, rfl⟩ := List.mem_map.mp m
    exact h.flagged ⟨y, my, report y my r⟩
  · intro e m r
    obtain ⟨y, my, rfl⟩ := List.mem_map.mp m
    exact notRenewed y my (report y my r)

/-- With nothing on the line the entries need not be on it. -/
theorem QueueSound.offLine (h : QueueSound q o queued) : QueueSound q none queued :=
  ⟨h.room, h.keys, h.renewals, (fun x hx => by cases hx), h.flagged, h.notRenewed⟩

theorem QueueSound.afterSending_keys (h : QueueSound q o queued) :
    ((afterSending q).map (fun e => keyOf e.item)).Sublist (q.map (fun e => keyOf e.item)) := by
  have renewals := h.renewals
  clear h
  induction q with
  | nil => exact List.Sublist.refl _
  | cons e rest ih =>
    have step := ih fun x m => renewals x (List.mem_cons_of_mem _ m)
    unfold afterSending
    split
    · split
      next => exact step.cons _
      next item r => simpa [QueueEntry.holding, renewals e List.mem_cons_self item r] using step
    · exact step.cons_cons _

/-- What stands in the queue after a notice sent: entries that were WAITING, and the renewals of the one sent. -/
theorem mem_afterSending {e : QueueEntry} (m : e ∈ afterSending q) :
    (e ∈ q ∧ e.sending = false) ∨ ∃ x ∈ q, x.sending = true ∧ x.renewed = some e.item ∧ e.renewed = none := by
  induction q with
  | nil => cases m
  | cons y rest ih =>
    have deeper : e ∈ afterSending rest →
        (e ∈ y :: rest ∧ e.sending = false) ∨ ∃ x ∈ y :: rest, x.sending = true ∧ x.renewed = some e.item ∧ e.renewed = none := by
      intro m
      rcases ih m with ⟨old, w⟩ | ⟨x, mx, rest⟩
      · exact .inl ⟨List.mem_cons_of_mem _ old, w⟩
      · exact .inr ⟨x, List.mem_cons_of_mem _ mx, rest⟩
    unfold afterSending at m
    split at m
    next sent =>
      split at m
      next => exact deeper m
      next item r =>
        rcases List.mem_cons.mp m with rfl | m
        · exact .inr ⟨y, List.mem_cons_self, sent, r, rfl⟩
        · exact deeper m
    next waiting =>
      rcases List.mem_cons.mp m with rfl | m
      · exact .inl ⟨List.mem_cons_self, by simpa using waiting⟩
      · exact deeper m

/-- A REPORT in the queue after a notice sent stood there before, WAITING. -/
theorem QueueSound.report_afterSending (h : QueueSound q o queued) {e : QueueEntry} (m : e ∈ afterSending q)
    (r : e.item = .report) : e ∈ q ∧ e.sending = false := by
  rcases mem_afterSending m with old | ⟨x, mx, _, renewed, _⟩
  · exact old
  · have was : x.item = .report := keyOf_eq_report.mp ((h.renewals x mx _ renewed).symm.trans (by rw [r]; rfl))
    rw [h.notRenewed x mx was] at renewed
    cases renewed

/-- The entry on the line leaves or takes its renewal. -/
theorem QueueSound.afterSending (h : QueueSound q o queued) : QueueSound (afterSending q) none queued := by
  refine ⟨?_, h.afterSending_keys.nodup h.keys, ?_, (fun x hx => by cases hx), ?_, ?_⟩
  · have part := h.afterSending_keys.length_le
    rw [List.length_map, List.length_map] at part
    exact part.trans h.room
  · intro e m x renewed
    rcases mem_afterSending m with ⟨old, _⟩ | ⟨_, _, _, _, none⟩
    · exact h.renewals e old x renewed
    · rw [none] at renewed; cases renewed
  · rintro ⟨e, m, r⟩
    exact h.flagged ⟨e, (h.report_afterSending m r).1, r⟩
  · exact fun e m r => h.notRenewed e (h.report_afterSending m r).1 r

/-- The REPORT on the line is the only one, and leaves. -/
theorem QueueSound.reportGone {x : OnLine} (h : QueueSound q (some x) queued) (r : x.item = .report) :
    ∀ e ∈ Machine.afterSending q, e.item ≠ .report := by
  intro e m same
  obtain ⟨y, my, sent, k⟩ := h.line x rfl
  obtain ⟨old, waiting⟩ := h.report_afterSending m same
  rw [eq_of_keyOf_eq h.keys old my (by rw [same, k, r]), sent] at waiting
  cases waiting

end

/-! ### The law of the queue, operation by operation -/

section
variable {s t : State}

theorem reportsKept_of_core (h : ReportsKept s) (e : core t = core s) : ReportsKept t := by
  have queue : t.lnu.queue = s.lnu.queue := congrArg Core.queue e
  have line : t.lnu.onLine = s.lnu.onLine := congrArg Core.onLine e
  have due : t.rpu.due = s.rpu.due := congrArg Core.due e
  have sent : t.rpu.sent = s.rpu.sent := congrArg Core.sent e
  have skipped : t.rpu.skipped = s.rpu.skipped := congrArg Core.skipped e
  have queued : t.rpu.queued = s.rpu.queued := congrArg Core.queued e
  rw [reportsKept_iff, ReportsAccounted] at h ⊢
  rw [queue, line, due, sent, skipped, queued]
  exact h

theorem core_claimBackToWaiting (r : Resource) (s : State) : core (claimBackToWaiting r s) = core s := by
  unfold claimBackToWaiting; dsimp only; (repeat' split) <;> simp [core_setOwn]

theorem core_tellLost (r : Resource) (s : State) : core (tellLost r s) = core s := by cases r <;> rfl

theorem core_markIncompleteFor (q : Question) (s : State) : core (markIncompleteFor q s) = core s := by
  unfold markIncompleteFor; split
  · exact core_setIncompleteTimer _ _ _
  · rfl

/-- The REPORT given stands in no entry, and the flag counts it. -/
def ReportAwaited (item : Outgoing) (s : State) : Prop :=
  item = .report → s.rpu.queued = true ∧ ∀ e ∈ s.lnu.queue, e.item ≠ .report

/-- The releases that a drop leads to keep the law. -/
def KeepsReports (release : Resource → State → State) : Prop := ∀ r t, ReportsKept t → ReportsKept (release r t)

variable {release : Resource → State → State}

theorem reportsKept_giveUp (keeps : KeepsReports release) (h : ReportsKept s) (r : Resource) : ReportsKept (giveUp (release r) r s) := by
  have dropped : ReportsKept (dropOwnEntry r (setOwn r (lostRecord (own r s)) s)) :=
    reportsKept_of_core h ((core_setEntry _ _ _ _).trans (core_setOwn _ _ _))
  exact reportsKept_of_core (keeps r _ dropped) (core_tellLost r _)

theorem reportsKept_reportDropped (h : ReportsKept s) (awaited : ReportAwaited .report s) : ReportsKept (reportDropped s) := by
  obtain ⟨queued, none⟩ := awaited rfl
  rw [reportsKept_iff, ReportsAccounted] at h ⊢
  obtain ⟨sound, sums⟩ := h
  rw [if_pos queued] at sums
  exact ⟨sound.unflag none false, by show s.rpu.due = s.rpu.sent + (s.rpu.skipped + 1) + 0; omega⟩

theorem reportsKept_dropNotice (keeps : KeepsReports release) (h : ReportsKept s) (item : Outgoing) (awaited : ReportAwaited item s) :
    ReportsKept (dropNotice release item s) := by
  have noted : ReportsKept (noteOccurrence s) := reportsKept_of_core h rfl
  unfold dropNotice tellDropped
  split
  · exact reportsKept_reportDropped noted awaited
  · exact reportsKept_of_core noted (core_claimBackToWaiting _ _)
  · split
    · exact reportsKept_giveUp keeps noted _
    · exact noted
  · exact reportsKept_of_core noted (core_markIncompleteFor _ _)
  all_goals exact noted

/-- The queue alone has changed. -/
theorem reportsKept_of_queue (h : ReportsKept s) {q : List QueueEntry} (sound : QueueSound q s.lnu.onLine s.rpu.queued)
    (queue : t.lnu.queue = q) (line : t.lnu.onLine = s.lnu.onLine) (rpu : t.rpu = s.rpu) : ReportsKept t := by
  rw [reportsKept_iff, ReportsAccounted] at h ⊢
  rw [queue, line, rpu]
  exact ⟨sound, h.2⟩

theorem reportsKept_enqueue (h : ReportsKept s) (item : Outgoing) (u : Nat) (room : s.lnu.queue.length < 8)
    (fresh : ∀ e ∈ s.lnu.queue, keyOf e.item ≠ keyOf item) (awaited : item = .report → s.rpu.queued = true) :
    ReportsKept (enqueue item u s) :=
  reportsKept_of_queue h ((reportsKept_iff.mp h).1.append item u s.lnu.nextAge room fresh awaited) rfl rfl rfl

theorem reportsKept_queueNew (keeps : KeepsReports release) (h : ReportsKept s) (item : Outgoing) (u : Nat)
    (fresh : ∀ e ∈ s.lnu.queue, keyOf e.item ≠ keyOf item) (awaited : item = .report → s.rpu.queued = true) :
    ReportsKept (queueNew release item u s) := by
  have newcomer : ReportAwaited item s :=
    fun r => ⟨awaited r, fun e m same => fresh e m (by rw [same, r])⟩
  unfold queueNew
  split
  next room => exact reportsKept_enqueue h item u room fresh awaited
  next full =>
    split
    next => exact reportsKept_dropNotice keeps h item newcomer
    next e cand =>
      split
      next lower =>
        obtain ⟨m, waiting⟩ := dropCandidate_mem cand
        have sound := (reportsKept_iff.mp h).1
        have removed := sound.remove m waiting
        have shorter : (removeUnder (keyOf e.item) s.lnu.queue).length < 8 :=
          lt_of_lt_of_le (List.length_filter_lt_length_iff_exists.mpr ⟨e, m, by simp⟩) sound.room
        have others : ∀ x ∈ removeUnder (keyOf e.item) s.lnu.queue, keyOf x.item ≠ keyOf item :=
          fun x mx => fresh x (mem_removeUnder.mp mx).1
        have without : ReportsKept { s with lnu := { s.lnu with queue := removeUnder (keyOf e.item) s.lnu.queue } } :=
          reportsKept_of_queue h removed rfl rfl rfl
        refine reportsKept_dropNotice keeps (reportsKept_enqueue without item u shorter others awaited) e.item
          fun r => ⟨sound.flagged ⟨e, m, r⟩, ?_⟩
        intro x mx
        rcases List.mem_append.mp mx with old | new
        · exact no_report_of_remove r x old
        · rw [List.mem_singleton.mp new]
          exact fun same => fresh e m (by rw [r]; exact congrArg keyOf same.symm)
      next => exact reportsKept_dropNotice keeps h item newcomer

theorem ne_of_entryUnder {k : QueueKey} {q : List QueueEntry} (h : entryUnder k q = none) : ∀ e ∈ q, keyOf e.item ≠ k := by
  unfold entryUnder at h
  rw [List.find?_eq_none] at h
  exact fun e m => by simpa using h e m

theorem keyOf_eq_of_not_report {item : Outgoing} {e : QueueEntry} (n : item ≠ .report) (k : keyOf e.item = keyOf item) :
    e.item ≠ .report := fun r => n (keyOf_eq_report.mp (by rw [← k, r]; rfl))

theorem reportsKept_queueOver (h : ReportsKept s) {item : Outgoing} {e : QueueEntry} (u : Nat) (n : item ≠ .report)
    (m : e ∈ s.lnu.queue) (k : keyOf e.item = keyOf item) : ReportsKept (queueOver item u e s) := by
  have sound := (reportsKept_iff.mp h).1
  unfold queueOver
  split
  next =>
    refine reportsKept_of_queue h (sound.map _ ?_ (fun _ => ?_) ?_ ?_) rfl rfl rfl <;> intro x mx <;> split
    next same => rfl
    next => rfl
    next => exact id
    next => exact id
    next same => rintro _ ⟨⟩; exact (eq_of_beq same).symm
    next => exact sound.renewals x mx
    next same => exact fun r => absurd r (keyOf_eq_of_not_report n (eq_of_beq same))
    next => exact sound.notRenewed x mx
  next waiting =>
    split
    next =>
      rw [← k]
      exact reportsKept_of_queue h (sound.remove m (by simpa using waiting)) rfl rfl rfl
    next =>
      refine reportsKept_of_queue h (sound.map _ ?_ (fun _ => ?_) ?_ ?_) rfl rfl rfl <;> intro x mx <;> split
      next same => exact (eq_of_beq same).symm
      next => rfl
      next => exact id
      next => exact id
      next => exact sound.renewals x mx
      next => exact sound.renewals x mx
      next => exact sound.notRenewed x mx
      next => exact sound.notRenewed x mx

theorem reportsKept_queueWith (keeps : KeepsReports release) (h : ReportsKept s) (item : Outgoing) (u : Nat) (awaited : ReportAwaited item s) :
    ReportsKept (queueWith release item u s) := by
  have placed : ReportsKept (match entryUnder (keyOf item) s.lnu.queue with
      | some e => queueOver item u e s
      | none => queueNew release item u s) := by
    split
    next e found =>
      obtain ⟨m, k⟩ := mem_of_entryUnder found
      refine reportsKept_queueOver h u (fun r => ?_) m k
      exact (awaited r).2 e m (keyOf_eq_report.mp (by rw [k, r]; rfl))
    next absent =>
      exact reportsKept_queueNew keeps h item u (ne_of_entryUnder absent) fun r => (awaited r).1
  unfold queueWith
  split
  · split
    next r refresh =>
      split
      · exact reportsKept_of_core h (by unfold claimRefused; (repeat' split) <;> simp [core_claimBackToWaiting])
      · exact placed
    next => exact placed
  · exact h

theorem keepsReports_queueRelease (n : Nat) : KeepsReports (queueRelease n) := by
  induction n with
  | zero => exact fun _ _ h => h
  | succ n ih => exact fun r t h => reportsKept_queueWith ih h _ _ (fun e => by cases e)

theorem reportsKept_dueEvent (h : ReportsKept s) : ReportsKept (dueEvent s) := by
  rw [reportsKept_iff, ReportsAccounted] at h
  obtain ⟨sound, sums⟩ := h
  unfold dueEvent
  cases flag : s.rpu.queued with
  | true =>
    rw [reportsKept_iff, ReportsAccounted]
    rw [flag] at sums
    refine ⟨sound, ?_⟩
    show s.rpu.due + 1 = s.rpu.sent + (s.rpu.skipped + 1) + if s.rpu.queued = true then 1 else 0
    rw [flag]; simp at sums ⊢; omega
  | false =>
    have none : ∀ e ∈ s.lnu.queue, e.item ≠ .report := fun e m r => by
      have set := sound.flagged ⟨e, m, r⟩
      rw [flag] at set; cases set
    have counted : ReportsKept { s with rpu := { s.rpu with due := s.rpu.due + 1, age := 0, queued := true } } := by
      refine reportsKept_iff.mpr ⟨sound.flag, ?_⟩
      show s.rpu.due + 1 = s.rpu.sent + s.rpu.skipped + 1
      rw [flag] at sums; simp at sums; omega
    exact reportsKept_queueWith (keepsReports_queueRelease 2) counted .report 1 fun _ => ⟨rfl, none⟩

theorem reportsKept_abandonSending (h : ReportsKept s) : ReportsKept (abandonSending s) := by
  obtain ⟨sound, sums⟩ := reportsKept_iff.mp h
  refine reportsKept_iff.mpr ⟨sound.offLine.map backToWaiting ?_ (fun none => absurd rfl none) ?_ ?_, sums⟩ <;> intro e m <;>
    unfold backToWaiting <;> split
  next =>
    cases renewed : e.renewed with
    | none => rfl
    | some x => exact sound.renewals e m x renewed
  next => rfl
  next => rintro x ⟨⟩
  next => exact sound.renewals e m
  next => exact fun _ => rfl
  next => exact sound.notRenewed e m

theorem reportsKept_startSending (h : ReportsKept s) {e : QueueEntry} (m : e ∈ s.lnu.queue) : ReportsKept (startSending e s) := by
  obtain ⟨sound, sums⟩ := reportsKept_iff.mp h
  have moved : QueueSound (changeUnder (keyOf e.item) (fun x => { x with sending := true }) s.lnu.queue) none s.rpu.queued := by
    refine sound.offLine.map _ ?_ (fun none => absurd rfl none) ?_ ?_ <;> intro x mx <;> split
    next => rfl
    next => rfl
    next => exact sound.renewals x mx
    next => exact sound.renewals x mx
    next => exact sound.notRenewed x mx
    next => exact sound.notRenewed x mx
  refine reportsKept_iff.mpr ⟨⟨moved.room, moved.keys, moved.renewals, ?_, moved.flagged, moved.notRenewed⟩, sums⟩
  rintro _ ⟨⟩
  exact ⟨{ e with sending := true }, List.mem_map.mpr ⟨e, m, by simp⟩, rfl, rfl⟩

/-- The law read off the core: what a move makes of the core is all that counts. -/
def CoreSound (c : Core) : Prop :=
  QueueSound c.queue c.onLine c.queued ∧ c.due = c.sent + c.skipped + (if c.queued then 1 else 0)

theorem reportsKept_iff_core : ReportsKept s ↔ CoreSound (core s) := reportsKept_iff

theorem ReportsKept.moves (h : ReportsKept s) (m : Moves s t) : ReportsKept t := by
  induction m with
  | refl => exact h
  | still _ e ih => exact reportsKept_of_core ih e
  | queue item u _ n ih => exact reportsKept_queueWith (keepsReports_queueRelease 2) ih item u fun r => absurd r n
  | due _ ih => exact reportsKept_dueEvent ih
  | demand _ _ e _ ih => rw [reportsKept_iff_core] at ih ⊢; rw [e]; exact ih
  | hold _ _ e _ ih => rw [reportsKept_iff_core] at ih ⊢; rw [e]; exact ih
  | abandon _ ih => exact reportsKept_abandonSending ih
  | cancel e _ head claim eq ih =>
    obtain ⟨m, waiting⟩ := queueHead_mem head
    rw [reportsKept_iff_core] at ih ⊢
    rw [eq]
    exact ⟨ih.1.remove m waiting, ih.2⟩
  | start e _ head ih => exact reportsKept_startSending ih (queueHead_mem head).1
  | @sentReport u v o _ line report eq ih =>
    rw [reportsKept_iff_core] at ih ⊢
    obtain ⟨sound, sums⟩ := ih
    have sound : QueueSound u.lnu.queue (some o) u.rpu.queued := line ▸ sound
    obtain ⟨e, m, _, k⟩ := sound.line o rfl
    have queued : (core u).queued = true := sound.flagged ⟨e, m, keyOf_eq_report.mp (by rw [k, report]; rfl)⟩
    rw [if_pos queued] at sums
    rw [eq]
    exact ⟨sound.afterSending.unflag (sound.reportGone report) false, by
      show (core u).due = (core u).sent + 1 + (core u).skipped + 0
      omega⟩
  | sentOther _ eq ih =>
    rw [reportsKept_iff_core] at ih ⊢
    rw [eq]
    exact ⟨ih.1.afterSending, ih.2⟩

theorem reportsKept_empty (queue : s.lnu.queue = []) (line : s.lnu.onLine = none)
    (sums : s.rpu.due = s.rpu.sent + s.rpu.skipped + (if s.rpu.queued then 1 else 0)) : ReportsKept s := by
  refine reportsKept_iff.mpr ⟨?_, sums⟩
  rw [queue, line]
  exact ⟨by simp, by simp, by simp, by simp, by simp, by simp⟩

end

end Sys2Proof.Machine

namespace Sys2Proof.Proofs
open Sys2Proof Sys2Proof.Machine

/-- Settles O53: every event is made of moves, and each move keeps the queue's law and the totals. -/
theorem reportLawKept : Obligations.ReportLawKept := by
  intro s t
  refine step_keeps (P := ReportsKept) ?_ (fun _ _ h => h) ?_ ?_ (fun _ _ _ h => h) ?_
  · exact fun s h => reportsKept_of_core h (core_passSlot s)
  · exact fun s _ => reportsKept_empty rfl rfl rfl
  · exact fun s _ => reportsKept_empty rfl rfl rfl
  · exact fun c s a h => h.moves (moves_of_arises a)

end Sys2Proof.Proofs
end

section
/-! PROOFS. Resets, idle steps, and the events whose whole next state the statement writes out: the effect hands nothing on and leaves the outputs in place. -/

namespace Sys2Proof.Machine

section
variable {c : Instr} {s u : State}

/-- A command whose effect is written out and at rest answers it. -/
theorem exec_of_rested (a : arises c s = true) (h : effect c (beginEvent (contactMoved c s)) = beginEvent u) (k : Rested u) :
    exec c s = .next (beginEvent u) := by
  rw [exec_of_arises a, event_eq_of_rested h k]

theorem arises_and {p q : Bool} (hp : p = true) (hq : q = true) : (p && q) = true := by rw [hp, hq]; rfl

end

/-- An event is what its effect makes of the state at its start. -/
theorem event_congr {f g : State → State} {s t : State} (h : f (beginEvent s) = g (beginEvent t)) : event f s = event g t := by
  unfold event; rw [h]

theorem put_put {α : Type} {n : Nat} (v : Vector α n) (i : Fin n) (x y : α) : put (put v i x) i y = put v i y := by
  unfold put; rw [Vector.set_set]

/-- A settle stops the timer at whatever it stood. -/
theorem inputSettles_setRaw (i : ContactInput) (now : Bool) (x y : Option Nat) (s : State) :
    inputSettles i (setRaw i now x s) = inputSettles i (setRaw i now y s) := by
  have settled : settleInput i (setRaw i now x s) = settleInput i (setRaw i now y s) := by
    simp only [settleInput, setRaw, put_put, rawInput]
  unfold inputSettles
  rw [settled]
  rfl

/-! ### The laws after a reset -/

section
variable {s : State}

theorem entryAt_atReset (clu : s.clu = Claims.atReset) (r : Resource) (n : Nat) : entryAt r n s = none := by
  have empty : claimTable r s = Vector.replicate 24 none := by cases r <;> simp only [claimTable, clu] <;> rfl
  unfold entryAt
  rw [empty]
  split
  next => exact Vector.getElem_replicate _
  next => rfl

theorem heatingKept_reset (ilu : s.ilu = Inputs.atReset) (odu : s.odu = Outputs.atReset) (clu : s.clu = Claims.atReset)
    (frc : s.frc = Frost.atReset) (condition : conditionPresent .stageFail s = false) (inSet : inFaultSet .stageFail s = false)
    (mask : s.ftu.stageMask = Vector.replicate 4 false) : HeatingKept s := by
  have off : ∀ k, (stageAt k s).state = .off := by unfold stageAt; rw [odu]; decide
  have cold : ∀ k, heatRelay k s = false := fun k => by unfold heatRelay; rw [off]; rfl
  have healthy : anySet s.frc.failed = false := by rw [frc]; decide
  refine ⟨⟨fun k => ?_, condition.trans healthy.symm, inSet.trans healthy.symm, mask.trans (by rw [frc]; rfl), ?_⟩,
    ⟨by rw [clu]; decide, by rw [clu]; decide, fun x raised => ?_, fun n h entry => ?_⟩, fun k hot => ?_, .inr (.inr ?_)⟩
  · unfold failureSignal
    rw [off, frc]
    revert k
    decide
  · rw [ilu, healthy]; rfl
  · rw [clu] at raised; cases raised
  · rw [entryAt_atReset clu] at entry; cases entry
  · rw [cold] at hot; cases hot
  · unfold ratingSum
    simp only [cold, Bool.false_eq_true, if_false]
    exact Nat.zero_le _

theorem supplyClaimKept_reset (hands : s.handOns = []) (clu : s.clu = Claims.atReset) (request : s.flc.openRequest = false)
    (fill : s.flc.state = .blocked) (line : s.lnu.onLine = none) : SupplyClaimKept s := by
  refine ⟨fun _ => ⟨hands, clu⟩, ?_, ?_, ?_, ?_, ?_, ?_, ?_⟩
  · rw [request, fill]; rfl
  · rw [clu, fill]; decide
  · rw [clu]; exact fun some => absurd rfl some
  · rw [clu]; rfl
  · rw [clu]; exact fun held => by cases held
  · intro h entry; rw [entryAt_atReset clu] at entry; cases entry
  · intro o refresh on; rw [line] at on; cases on

end

end Sys2Proof.Machine

namespace Sys2Proof.Proofs
open Sys2Proof Sys2Proof.Machine

/-- Settles O1: the queue's front decides; on an empty queue the head of the notices decides whether a slot passes. -/
theorem stepTakesFrontCommand : Obligations.StepTakesFrontCommand := by
  refine ⟨fun c rest s h => by simp only [step, h], fun s h => ⟨fun reason => ?_, fun quiet ahead => ?_⟩⟩
  · have stays : passSlot s = s := by
      unfold passSlot
      split
      next passes =>
        simp only [Bool.and_eq_true, beq_iff_eq] at passes
        obtain ⟨quiet, ahead⟩ := passes
        rcases reason with other | ⟨e, head, started⟩
        · exact absurd quiet other
        · rw [head] at ahead
          simp only [Option.map_some, Option.getD_some, decide_eq_true_eq] at ahead
          exact absurd ahead (Nat.not_lt.mpr started)
      next => rfl
    simp only [step, h, stays]
  · have passes : passSlot s = { s with lnu := { s.lnu with slot := s.lnu.slot + 1 } } := by
      unfold passSlot
      refine if_pos (arises_and (by simp [quiet]) ?_)
      cases head : queueHead s.lnu.queue with
      | none => rfl
      | some e => exact decide_eq_true (ahead e head)
    simp only [step, h, passes]

/-- Settles O2: the state after a power-on reset is a closed term. -/
theorem resetValues : Obligations.ResetValues := by
  unfold Obligations.ResetValues
  refine ⟨by decide +kernel, by decide +kernel, by decide +kernel, by decide +kernel, ?_, ?_, by decide +kernel, by decide +kernel,
    by decide +kernel, by decide +kernel, by decide +kernel, by decide +kernel, by decide +kernel⟩
  · decide +kernel
  · decide +kernel

/-- Settles O3: the two resets are written as these states. -/
theorem resetsRestore : Obligations.ResetsRestore := fun _ => ⟨rfl, rfl⟩

/-- Settles O13: the branches of the debounce; what settles at once is the settle event of the running input. -/
theorem rawInputDebounce : Obligations.RawInputDebounce := by
  intro i closed s h
  have pin : pinActive i (setPin i closed s) = (closed != (setting s).normallyClosed[inputIndex i]) :=
    congrArg (· != (setting s).normallyClosed[inputIndex i]) (getElem_put_same s.pins (inputIndex i) closed)
  have takes : active s = true → exec (.rawInputChange i closed) s = .next (event (followPin i) (setPin i closed s)) :=
    fun on => exec_of_arises (c := .rawInputChange i closed) on
  have follows : followPin i (beginEvent (setPin i closed s)) =
      (let now := closed != (setting s).normallyClosed[inputIndex i]
       if rawInput i s = now then beginEvent (setPin i closed s)
       else if debounced i s = now then setRaw i now none (beginEvent (setPin i closed s))
       else if debounceCount i s = 0 then inputSettles i (setRaw i now none (beginEvent (setPin i closed s)))
       else setRaw i now (some (debounceCount i s)) (beginEvent (setPin i closed s))) := by
    rw [← pin]; rfl
  dsimp only at follows
  refine ⟨fun off => occurs_false off _ _, fun on same => ?_, fun on changed met => ?_, fun on changed differs n => ?_,
    fun on changed differs n => ?_⟩
  · rw [takes on]
    rw [if_pos same] at follows
    exact congrArg _ (event_eq_of_rested follows h)
  · rw [takes on]
    rw [if_neg changed, if_pos met] at follows
    exact congrArg _ (event_eq_of_rested follows h)
  · rw [takes on]
    rw [if_neg changed, if_neg differs, if_neg n] at follows
    exact congrArg _ (event_eq_of_rested follows h)
  · rw [takes on]
    rw [if_neg changed, if_neg differs, if_pos n] at follows
    have settles : arises (.inputSettled i) { setPin i closed s with ilu := { s.ilu with
        raw := put s.ilu.raw (inputIndex i) (closed != (setting s).normallyClosed[inputIndex i])
        timer := put s.ilu.timer (inputIndex i) (some 0) } } = true :=
      arises_and on (congrArg Option.isSome (getElem_put_same s.ilu.timer (inputIndex i) (some 0)))
    refine Eq.trans ?_ (exec_of_arises settles).symm
    exact congrArg _ (event_congr (follows.trans (inputSettles_setRaw i _ none (some 0) _)))

/-- Settles O21: each of the three moves is its effect, written out. -/
theorem lineStateMoves : Obligations.LineStateMoves := by
  refine fun s h => ⟨fun on st => ?_, fun on st => ?_, fun on st => ?_⟩
  · exact exec_of_rested (arises_and on (by simpa using st)) rfl ⟨h.1, h.2⟩
  · exact exec_of_rested (arises_and on (by simpa using st)) rfl ⟨h.1, h.2⟩
  · exact exec_of_rested (arises_and on (by simpa using st)) rfl ⟨h.1, h.2⟩

/-- Settles O24: the entry on the line is put back entry by entry. -/
theorem unsentNotices : Obligations.UnsentNotices := by
  refine fun s h => ⟨fun b on st => ?_, fun b on st => ?_, fun c on st => ?_⟩
  · exact exec_of_rested (arises_and on st) rfl ⟨h.1, h.2⟩
  · exact exec_of_rested (arises_and on st) rfl ⟨h.1, h.2⟩
  · refine exec_of_rested (arises_and on (by simpa using st)) ?_ ?_
    · show discardNotice (beginEvent s) = _
      unfold discardNotice
      have same : active (beginEvent s) = active s := rfl
      dsimp only
      rw [same]
      cases active s <;> rfl
    · cases active s <;> exact ⟨h.1, h.2⟩

/-- Settles O25: the owner of a REPORT or a ROLLCALL on the line, and the line after it. -/
theorem reportAndRollCallSent : Obligations.ReportAndRollCallSent := by
  refine fun o s h on st line => ⟨fun report => ?_, fun q asked => ?_⟩
  · refine exec_of_rested (arises_and on (by simp [st])) ?_ ⟨h.1, h.2⟩
    show finishSending (beginEvent s) = _
    have line : (beginEvent s).lnu.onLine = some o := line
    unfold finishSending
    rw [line]
    simp only [tellSent, lineAfterSent, report]
    rfl
  · refine exec_of_rested (arises_and on (by simp [st])) ?_ ⟨h.1, h.2⟩
    show finishSending (beginEvent s) = _
    have line : (beginEvent s).lnu.onLine = some o := line
    unfold finishSending
    rw [line]
    simp only [tellSent, lineAfterSent, asked]
    cases q <;> rfl

/-- Settles O48: the judged period, and the two answers to a due event. -/
theorem stagnationAndReportTimers : Obligations.StagnationAndReportTimers := by
  refine ⟨fun s h on enough => ⟨s.frc.turnoverRequest || stagnant s, ?_, ?_⟩, fun s h on due => ⟨fun queued => ?_, fun free room fresh => ?_⟩⟩
  · unfold stagnant
    cases s.frc.turnoverRequest <;> cases s.frc.stagLow <;> cases s.frc.stagHigh <;> simp [and_assoc]
  · exact exec_of_rested (arises_and on (by simpa using enough)) rfl ⟨h.1, h.2⟩
  · refine exec_of_rested (arises_and on due) ?_ ⟨h.1, h.2⟩
    show dueEvent { beginEvent s with rpu := { s.rpu with timerDue := false } } = _
    unfold dueEvent
    exact if_pos queued
  · refine exec_of_rested (arises_and on due) ?_ ⟨h.1, h.2⟩
    show dueEvent { beginEvent s with rpu := { s.rpu with timerDue := false } } = _
    unfold dueEvent
    exact (if_neg (by rw [free]; decide)).trans (queueNotice_enters on (fun claim => by cases claim) room fresh)

/-- Settles O51: the state after a power-on reset is a closed term, with everything empty. -/
theorem resetIsSafe : Obligations.ResetIsSafe := by
  refine ⟨⟨?_, ?_, ?_, ?_, ?_, ?_, ?_, rfl, by decide⟩, rfl⟩
  · exact ⟨fun held => (Bool.false_ne_true held).elim, outputsFollow_loading rfl rfl rfl rfl⟩
  · exact reportsKept_empty rfl rfl rfl
  · exact levelKept_reset rfl rfl
  · exact fun done => by cases done
  · exact Nat.zero_le 2
  · exact heatingKept_reset rfl rfl rfl rfl rfl rfl rfl
  · exact supplyClaimKept_reset rfl rfl rfl rfl rfl

end Sys2Proof.Proofs
end

section
/-! PROOFS. The settings: what a read that fails leaves, and the ranges of the clamped image. -/

namespace Sys2Proof.Machine

/-! ### Reads that fail (R191, R194) -/

section
variable {s : State}

/-- While loading no relay is wanted. -/
theorem loading_outputs (h : OutputsFollow s) (mode : s.sld.mode = .loading) :
    s.odu.inletOpen = false ∧ s.odu.alarm = false ∧ s.flc.unproductive = unproductiveNow s := by
  obtain ⟨inlet, alarm, mark⟩ := h
  refine ⟨inlet.trans ?_, alarm.trans ?_, mark⟩ <;> simp [inletWanted, alarmWanted, active, mode]

/-- Only the relays and the mark follow; where the first two are as they were, the alarm is all that follows. -/
theorem follow_eq_alarm (inlet : inletWanted s = s.odu.inletOpen) (mark : unproductiveNow s = s.flc.unproductive) :
    follow s = { s with odu := { s.odu with alarm := alarmWanted s } } := by
  unfold follow; rw [inlet, mark]

/-- A failed read releases nothing but the alarm relay's rest. -/
theorem follow_loadFails (h : OutputsFollow s) (mode : s.sld.mode = .loading) :
    follow (loadFails s) = { loadFails s with odu := { s.odu with alarm := true } } := by
  obtain ⟨inlet, _, mark⟩ := loading_outputs h mode
  have still : inletWanted (loadFails s) = (loadFails s).odu.inletOpen := by
    rw [show (loadFails s).odu.inletOpen = false from inlet]
    simp [inletWanted, active, loadFails]
  exact follow_eq_alarm still mark.symm

/-- The event of a read that leaves the station UNCONFIGURED. -/
theorem event_loadFails {f : State → State} {u : State} (h : f (beginEvent s) = loadFails (beginEvent u)) (rested : Rested u)
    (mode : u.sld.mode = .loading) : event f s = { loadFails (beginEvent u) with odu := { u.odu with alarm := true } } := by
  rw [event_alone f s (by rw [h]; exact rested.1), h]
  exact follow_loadFails (s := beginEvent u) rested.2 mode

end

/-! ### Clamping (R192) -/

theorem clampNat_mem {lo hi : Nat} (h : lo ≤ hi) (x : Nat) : lo ≤ clampNat lo hi x ∧ clampNat lo hi x ≤ hi := by
  unfold clampNat; omega

theorem byteAt_lt (bs : List Byte) (i : Nat) : byteAt bs i < 256 := by
  unfold byteAt
  cases bs[i]? with
  | none => decide
  | some b => exact b.isLt

theorem clampTo_map_mem {n : Nat} {lo hi : Int} (h : lo ≤ hi) (v : Vector Int n) (i : Fin n) :
    lo ≤ (v.map (clampTo lo hi))[i] ∧ (v.map (clampTo lo hi))[i] ≤ hi := by
  simp only [Fin.getElem_fin, Vector.getElem_map]
  exact clampTo_mem h _

theorem clampCalibration_mem (c : Calibration) :
    let k := clampCalibration c
    0 ≤ k.c0 ∧ k.c0 < k.c1 ∧ k.c1 ≤ 4095 ∧ -1000 ≤ k.t0 ∧ k.t0 ≤ 2000 ∧ -1000 ≤ k.t1 ∧ k.t1 ≤ 2000 := by
  have first := clampTo_mem (show (0 : Int) ≤ 4094 by decide) c.c0
  have second := clampTo_mem (show (0 : Int) ≤ 4095 by decide) c.c1
  have low := clampTo_mem (show (-1000 : Int) ≤ 2000 by decide) c.t0
  have high := clampTo_mem (show (-1000 : Int) ≤ 2000 by decide) c.t1
  dsimp only [clampCalibration]
  split <;> omega

theorem clampVolumes_levels (b : Int) (l : List (Int × Int)) : (clampVolumes b l).map Prod.fst = l.map Prod.fst := by
  induction l generalizing b with
  | nil => rfl
  | cons p rest ih => simp [clampVolumes, ih]

theorem clampVolumes_mem {b : Int} (low : 0 ≤ b) (high : b ≤ 16000000) (l : List (Int × Int)) :
    ∀ p ∈ clampVolumes b l, b ≤ p.2 ∧ p.2 ≤ 16000000 := by
  induction l generalizing b with
  | nil => simp [clampVolumes]
  | cons q rest ih =>
    have range := clampTo_mem (show (0 : Int) ≤ 16000000 by decide) q.2
    have first : b ≤ max b (clampTo 0 16000000 q.2) := le_max_left _ _
    have top : max b (clampTo 0 16000000 q.2) ≤ 16000000 := max_le high range.2
    intro p m
    rcases List.mem_cons.mp m with rfl | m
    · exact ⟨first, top⟩
    · obtain ⟨lo, hi⟩ := ih (low.trans first) top p m
      exact ⟨first.trans lo, hi⟩

theorem clampVolumes_rising {b : Int} (low : 0 ≤ b) (high : b ≤ 16000000) (l : List (Int × Int)) :
    (clampVolumes b l).Pairwise (fun p q => p.2 ≤ q.2) := by
  induction l generalizing b with
  | nil => exact List.Pairwise.nil
  | cons q rest ih =>
    have range := clampTo_mem (show (0 : Int) ≤ 16000000 by decide) q.2
    have bottom : 0 ≤ max b (clampTo 0 16000000 q.2) := low.trans (le_max_left _ _)
    have top : max b (clampTo 0 16000000 q.2) ≤ 16000000 := max_le high range.2
    exact List.Pairwise.cons (fun p m => (clampVolumes_mem bottom top rest p m).1) (ih bottom top)

theorem strictlyRising_pairwise {l : List (Int × Int)} (h : strictlyRising l = true) : l.Pairwise (fun p q => p.1 < q.1) := by
  rw [← List.isChain_iff_pairwise]
  induction l with
  | nil => exact .nil
  | cons p rest ih =>
    cases rest with
    | nil => exact .singleton _
    | cons q rest =>
      simp only [strictlyRising, Bool.and_eq_true, decide_eq_true_eq] at h
      exact .cons_cons h.1 (ih h.2)

/-- The levels of the clamped strap are the clamped levels. -/
theorem clampSettings_strap_levels (r : Settings) :
    ((clampSettings r).strap).map Prod.fst = (clampLevels r.strap).map Prod.fst := clampVolumes_levels 0 _

theorem clampLevels_mem {l : List (Int × Int)} : ∀ p ∈ clampLevels l, 0 ≤ p.1 ∧ p.1 ≤ 30000 := by
  intro p m
  obtain ⟨q, _, rfl⟩ := List.mem_map.mp m
  exact clampTo_mem (by decide) q.1

end Sys2Proof.Machine

namespace Sys2Proof.Proofs
open Sys2Proof Sys2Proof.Machine

/-- Settles O4: the reads that begin are written out; the verdict on a read that is not trusted, branch by branch. -/
theorem readsBeginAndFail : Obligations.ReadsBeginAndFail := by
  refine ⟨fun s h mode => ⟨fun low => ?_, fun high wait => ?_⟩, fun block s => ⟨fun short => ?_, fun whole reading h => ?_⟩⟩
  · refine exec_of_rested (c := .resetPinReturnsHigh) low rfl ⟨h.1, ?_⟩
    obtain ⟨inlet, alarm, mark⟩ := loading_outputs h.2 mode
    exact ⟨inlet.trans (by simp [inletWanted, active]), alarm.trans (by simp [alarmWanted, active]), mark⟩
  · refine exec_of_rested (c := .retryWaitExpiry) ?_ rfl ⟨h.1, ?_⟩
    · simp [arises, isRetryWait, high, mode, wait]
    · exact h.2
  · exact if_neg short
  · have takes : exec (.loadAttemptDone block) s = .next (event (judgeRead block) s) :=
      exec_of_arises (c := .loadAttemptDone block) (arises_and (decide_eq_true whole) reading)
    obtain ⟨high, mode, _⟩ := isReading_iff.mp reading
    have fails : ∀ (u : State), judgeRead block (beginEvent s) = loadFails (beginEvent u) → Rested u → u.sld.mode = .loading →
        exec (.loadAttemptDone block) s = .next { loadFails (beginEvent u) with odu := { u.odu with alarm := true } } :=
      fun u e k m => takes.trans (congrArg _ (event_loadFails e k m))
    let read : Settings → State := fun image => { s with sld := { s.sld with settings := image } }
    have rested : ∀ image, Rested (read image) := fun _ => ⟨h.1, h.2⟩
    have verdict : judgeRead block (beginEvent s) =
        (if notAnswered block then noAnswer (beginEvent (read (readSettings block)))
         else if checkMatches block then judgeStructure (readSettings block) (beginEvent (read (readSettings block)))
         else loadFails (beginEvent (read (readSettings block)))) := rfl
    refine ⟨fun silent first => ?_, fun second => ?_, fun answers check broken => ?_⟩
    · rw [if_pos silent] at verdict
      have waits : noAnswer (beginEvent (read (readSettings block))) =
          beginEvent { s with sld := { s.sld with load := .retryWait, settings := readSettings block } } := if_pos first
      exact takes.trans (congrArg _ (event_eq_of_rested (verdict.trans waits) ⟨h.1, h.2⟩))
    · refine fails (read (readSettings block)) (verdict.trans ?_) (rested _) mode
      rcases second with ⟨silent, again⟩ | ⟨answers, wrong⟩
      · exact (if_pos silent).trans (if_neg again)
      · rw [if_neg (by rw [answers]; decide), if_neg (by rw [wrong]; decide)]
    · rw [if_neg (by rw [answers]; decide), if_pos check] at verdict
      have structure_ : judgeStructure (readSettings block) (beginEvent (read (readSettings block))) =
          loadFails (beginEvent (read (testedImage (readSettings block)))) := if_neg (by rw [broken]; decide)
      refine (fails (read (testedImage (readSettings block))) (verdict.trans structure_) (rested _) mode).trans ?_
      have image : testedImage (readSettings block) =
          (if 1 ≤ (readSettings block).station ∧ (readSettings block).station ≤ 24 then
            { readSettings block with
              strapCount := max 2 (min 16 (readSettings block).strapCount), strap := clampLevels (readSettings block).strap }
          else readSettings block) := by
        unfold testedImage stationHolds clampNat
        simp only [Bool.and_eq_true, decide_eq_true_eq]
      rw [image]
      rfl

/-- Settles O6: each field of the clamped image is a clamp to its range. -/
theorem clampedSettingsInRange : Obligations.ClampedSettingsInRange := by
  refine ⟨fun block => ⟨fun i => ⟨rfl, ?_⟩, ?_, fun holds => ?_⟩, fun r => ?_⟩
  · show (Vector.ofFn (fun i : Fin 4 => byteAt block (191 + i.val)))[i] ≤ 255
    simp only [Fin.getElem_fin, Vector.getElem_ofFn]
    exact Nat.le_of_lt_succ (byteAt_lt block _)
  · show (clampVolumes 0 (clampLevels (readStrap block (max 2 (min 16 (byteAt block 34)))))).length = max 2 (min 16 (byteAt block 34))
    rw [← List.length_map Prod.fst, clampVolumes_levels]
    simp [clampLevels, readStrap]
  · obtain ⟨station, rising⟩ := Bool.and_eq_true_iff.mp holds
    simp only [stationHolds, Bool.and_eq_true, decide_eq_true_eq] at station
    refine ⟨station.1, station.2, ?_⟩
    have levels := List.pairwise_map.mpr (strictlyRising_pairwise rising)
    rw [← clampSettings_strap_levels] at levels
    exact List.pairwise_map.mp levels
  · have lMax := clampTo_mem (show (1000 : Int) ≤ 30000 by decide) r.lMax
    have hHi := clampTo_mem (show (500 : Int) ≤ 29999 by decide) r.hHi
    have z := clampTo_mem (show (0 : Int) ≤ 3994 by decide) r.z
    have qMin := clampTo_mem (show (100 : Int) ≤ 20000 by decide) r.qMin
    have qMax := clampTo_mem (show (100 : Int) ≤ 20000 by decide) r.qMax
    have guard : 500 ≤ (clampSettings r).hHi ∧ (clampSettings r).hHi + 1 ≤ (clampSettings r).lMax := by
      show 500 ≤ min (clampTo 1000 30000 r.lMax - 1) (clampTo 500 29999 r.hHi) ∧
        min (clampTo 1000 30000 r.lMax - 1) (clampTo 500 29999 r.hHi) + 1 ≤ clampTo 1000 30000 r.lMax
      omega
    have spill := clampTo_mem guard.2 r.hOvf
    have span := clampTo_mem (show clampTo 0 3994 r.z + 101 ≤ 4095 by omega) r.f
    have flow := clampTo_mem (le_max_left (clampTo 100 20000 r.qMin) (clampTo 100 20000 r.qMax)) (clampTo 100 20000 r.qNom)
    refine ⟨Nat.min_le_left _ _, ?_, ⟨z.1, span.1, span.2⟩, clampTo_mem (by decide) _, clampTo_mem (by decide) _, lMax,
      clampNat_mem (by decide) _, ?_, ?_, ?_, ⟨guard.1, spill.1, spill.2⟩, clampTo_mem (by decide) _, clampNat_mem (by decide) _,
      clampTo_mem (by decide) _, clampNat_mem (by decide) _, clampTo_mem (by decide) _, clampTo_mem (by decide) _,
      Nat.min_le_left _ _, clampTo_map_mem (by decide) _, clampTo_mem (by decide) _,
      ⟨qMin.1, flow.1, flow.2, max_le qMin.2 qMax.2⟩, clampTo_mem (by decide) _, clampTo_mem (by decide) _,
      clampTo_mem (by decide) _, clampNat_mem (by decide) _, clampNat_mem (by decide) _, clampNat_mem (by decide) _,
      clampNat_mem (by decide) _, clampNat_mem (by decide) _, Nat.min_le_left _ _, clampTo_map_mem (by decide) _,
      clampTo_mem (by decide) _, ?_, clampTo_mem (by decide) _, clampNat_mem (by decide) _, clampNat_mem (by decide) _, ?_,
      ⟨Nat.min_le_left _ _, Nat.min_le_left _ _, Nat.min_le_left _ _, Nat.min_le_left _ _, Nat.min_le_left _ _,
        Nat.min_le_left _ _⟩, clampTo_map_mem (by decide) _, ?_, clampTo_map_mem (by decide) _, ?_⟩
    · intro i
      show (r.debounce.map (fun n => min 200 n))[i] ≤ 200
      simp only [Fin.getElem_fin, Vector.getElem_map]
      exact Nat.min_le_left _ _
    · intro p m
      obtain ⟨q, mq, level⟩ := List.mem_map.mp (clampSettings_strap_levels r ▸ List.mem_map_of_mem (f := Prod.fst) m)
      have levels := clampLevels_mem q mq
      have volumes := clampVolumes_mem (le_refl 0) (by decide) (clampLevels r.strap) p m
      rw [← level]
      exact ⟨levels.1, levels.2, volumes.1, volumes.2⟩
    · exact clampVolumes_rising (le_refl 0) (by decide) _
    · intro k m
      fin_cases m <;> exact clampCalibration_mem _
    · intro x m
      fin_cases m <;> exact clampTo_mem (by decide) _
    · intro i
      show 1 ≤ (r.intervals.map (clampNat 1 60))[i] ∧ (r.intervals.map (clampNat 1 60))[i] ≤ 60
      simp only [Fin.getElem_fin, Vector.getElem_map]
      exact clampNat_mem (by decide) _
    · intro i v m
      fin_cases m <;> exact clampTo_map_mem (by decide) _ i
    · intro e m
      obtain ⟨x, _, rfl⟩ := List.mem_map.mp m
      exact ⟨Nat.min_le_left _ _, Nat.min_le_left _ _, Nat.min_le_left _ _, Nat.min_le_left _ _, Nat.min_le_left _ _⟩

end Sys2Proof.Proofs
end

section
/-! PROOFS. The plan, the situation table and its bound on orders changes, and the frames over all commands. -/

namespace Sys2Proof.Machine

/-! ### Keys and matches -/

/-- A field written into the key: its own positions take the value, the others stay. -/
theorem getLsbD_withField (key : KeyBits) (pos width val : Nat) {p : Nat} (h : p < 46) :
    (withField key pos width val).getLsbD p =
      if pos ≤ p ∧ p < pos + width then val.testBit (p - pos) else key.getLsbD p := by
  have mask : ((2 ^ width - 1) * 2 ^ pos).testBit p = decide (pos ≤ p ∧ p < pos + width) := by
    rw [Nat.testBit_mul_two_pow, Nat.testBit_two_pow_sub_one, ← Bool.decide_and]
    exact decide_eq_decide.mpr (by omega)
  have value : ((val % 2 ^ width) * 2 ^ pos).testBit p = (decide (pos ≤ p ∧ p < pos + width) && val.testBit (p - pos)) := by
    rw [Nat.testBit_mul_two_pow, Nat.testBit_mod_two_pow, ← Bool.and_assoc, ← Bool.decide_and]
    congr 1
    exact decide_eq_decide.mpr (by omega)
  unfold withField
  rw [BitVec.getLsbD_or, BitVec.getLsbD_and, BitVec.getLsbD_not, BitVec.getLsbD_ofNat, BitVec.getLsbD_ofNat, mask, value]
  by_cases inside : pos ≤ p ∧ p < pos + width <;> simp [inside, h]

theorem entryMatches_iff {key : KeyBits} {e : TableEntry} : entryMatches key e = true ↔
    e.valid = true ∧ ∀ p, p < 46 → e.mask.getLsbD p = true → key.getLsbD p = e.value.getLsbD p := by
  unfold entryMatches
  rw [Bool.and_eq_true, beq_iff_eq]
  refine and_congr_right fun _ => ⟨fun zero p inside masked => ?_, fun agree => ?_⟩
  · have bit := congrArg (fun v => BitVec.getLsbD v p) zero
    simp only [BitVec.getLsbD_and, BitVec.getLsbD_xor, masked, Bool.and_true] at bit
    simpa using bit
  · refine BitVec.eq_of_getLsbD_eq fun p inside => ?_
    rw [BitVec.getLsbD_and, BitVec.getLsbD_xor, show BitVec.getLsbD (0 : KeyBits) p = false from BitVec.getLsbD_zero]
    cases masked : e.mask.getLsbD p with
    | false => simp
    | true => simp [agree p inside masked]

theorem lookup_eq_some {key : KeyBits} {table : List TableEntry} {e : TableEntry} : lookup key table = some e ↔
    ∃ i : Nat, table[i]? = some e ∧ entryMatches key e = true ∧
      ∀ (j : Nat) (x : TableEntry), j < i → table[j]? = some x → entryMatches key x = false := by
  unfold lookup
  rw [List.find?_eq_some_iff_getElem]
  constructor
  · rintro ⟨fits, i, inside, here, before⟩
    refine ⟨i, ?_, fits, fun j x lt at_ => ?_⟩
    · rw [List.getElem?_eq_getElem inside, here]
    · obtain ⟨_, rfl⟩ := List.getElem?_eq_some_iff.mp at_
      simpa using before j lt
  · rintro ⟨i, at_, fits, before⟩
    obtain ⟨inside, here⟩ := List.getElem?_eq_some_iff.mp at_
    refine ⟨fits, i, inside, here, fun j lt => ?_⟩
    simp [before j table[j] lt (List.getElem?_eq_getElem _)]

theorem unlessKeep_getD {α : Type} (keep code : Nat) (f : Nat → α) (o : α) :
    ((unlessKeep keep code).map f).getD o = if code < keep then f code else o := by
  unfold unlessKeep; split <;> rfl

theorem unlessKeep_getD_id (keep code : Nat) (o : Nat) : (unlessKeep keep code).getD o = if code < keep then code else o := by
  unfold unlessKeep; split <;> rfl

/-- What an evaluation leaves, by whether its orders are the recorded ones. -/
theorem evaluateSituation_spec (s : State) :
    let o := ordersFor (setting s) s.stu.key
    let t := evaluateSituation s
    t.stu.orders = some o ∧ t.stu.pendingFlag = false ∧ t.stu.key = s.stu.key ∧
    t.stu.changeCount = s.stu.changeCount + (if s.stu.orders = some o then 0 else 1) ∧
    t.handOns = s.handOns ++ (if s.stu.orders = some o then [] else [.orders]) := by
  unfold evaluateSituation
  dsimp only
  split
  next stays => exact ⟨stays, rfl, rfl, rfl, (List.append_nil _).symm⟩
  next changes => exact ⟨rfl, rfl, rfl, rfl, rfl⟩

/-! ### Two orders changes at most (R172) -/

section
variable {s : State}

theorem evaluateSituation_changeCount_le (s : State) : (evaluateSituation s).stu.changeCount ≤ s.stu.changeCount + 1 := by
  obtain ⟨_, _, _, count, _⟩ := evaluateSituation_spec s
  rw [count]
  split <;> omega

theorem ordersBounded_takeKey (h : OrdersBounded s) (key : KeyBits) : OrdersBounded (takeKey key s) := by
  unfold takeKey situationChange
  dsimp only
  split
  · split
    · exact h
    · split
      next few => exact (evaluateSituation_changeCount_le _).trans (Nat.succ_le_of_lt few)
      next => exact h
  · exact h

theorem OrdersBounded.of_stu {t : State} (h : OrdersBounded s) (e : t.stu = s.stu) : OrdersBounded t := by
  unfold OrdersBounded; rw [e]; exact h

theorem ordersBounded_takeHandOn (h : OrdersBounded s) (x : HandOn) : OrdersBounded (takeHandOn x s) := by
  cases x with
  | situation f v => exact ordersBounded_takeKey h _
  | slack v => exact ordersBounded_takeKey h _
  | _ => exact h.of_stu (by simp [takeHandOn])

theorem ordersBounded_takeHandOns (n : Nat) (h : OrdersBounded s) : OrdersBounded (takeHandOns n s) := by
  induction n generalizing s with
  | zero => exact h
  | succ n ih =>
    unfold takeHandOns
    split
    next => exact h
    next x rest _ => exact ih ((ordersBounded_takeHandOn (s := { s with handOns := rest }) h x).of_stu (stu_follow _))

/-- An event starts its count anew, so what counts is its own effect. -/
theorem ordersBounded_event {f : State → State} (h : OrdersBounded (f (beginEvent s))) : OrdersBounded (event f s) :=
  ordersBounded_takeHandOns _ (h.of_stu (stu_follow _))

end

theorem stu_winSlot (slot n : Nat) (s : State) : (winSlot slot n s).stu = s.stu := by
  induction n generalizing s with
  | zero => rfl
  | succ n ih => unfold winSlot; dsimp only; (repeat' split) <;> simp [*]

theorem stu_minutePasses (s : State) : (minutePasses s).stu = s.stu := by
  unfold minutePasses; dsimp only; split <;> simp

/-- The own effects that evaluate the situation: the end of loading and a sample taken. -/
def evaluates : Instr → Bool
  | .loadAttemptDone _ => true
  | .secondEvent _ _ _ _ => true
  | _ => false

theorem stu_effect {c : Instr} (h : evaluates c = false) (s : State) : (effect c s).stu = s.stu := by
  cases c with
  | loadAttemptDone | secondEvent => cases h
  | powerOnReset | externalReset | retryWaitExpiry | resetPinReturnsHigh | answerWaitEnd => rfl
  | winTime slot => exact stu_winSlot _ _ _
  | minuteMark => exact stu_minutePasses s
  | _ => simp [effect]

/-- The end of loading evaluates once. -/
theorem changeCount_endLoading (raw : Settings) (s : State) : (endLoading raw s).stu.changeCount = s.stu.changeCount + 1 := by
  unfold endLoading
  simp only [stu_startTrip, stu_dueEvent, stu_frostJudge, stu_fillFollows, stu_startTariff, stu_guardExamine]
  show (startInputs _).stu.changeCount + 1 = _
  rw [stu_startInputs]
  rfl

theorem changeCount_judgeRead (block : List Byte) (s : State) : (judgeRead block s).stu.changeCount ≤ s.stu.changeCount + 1 := by
  unfold judgeRead noAnswer judgeStructure
  dsimp only
  (repeat' split)
  next => exact Nat.le_succ _
  next => exact Nat.le_succ _
  next => exact (changeCount_endLoading _ _).le
  next => exact Nat.le_succ _
  next => exact Nat.le_succ _

theorem changeCount_secondPasses (p w r a : AnalogCode) (s : State) :
    (secondPasses p w r a s).stu.changeCount ≤ s.stu.changeCount + 1 := by
  unfold secondPasses takeSamples
  dsimp only
  split
  · rw [stu_sampleTaken]
    have sampled : ∀ x, (sampleTemperatures w r a (samplePressure p x)).stu = x.stu := fun x => by
      unfold sampleTemperatures samplePressure; dsimp only; split <;> simp
    rw [sampled]
    unfold takePending
    split
    · refine (evaluateSituation_changeCount_le _).trans (Nat.succ_le_succ (Eq.le ?_))
      rw [stu_countTimers]
      rfl
    · rw [stu_countTimers]
      exact Nat.le_succ _
  · exact Nat.le_succ _

/-! ### What a command other than loading and the resets leaves -/

/-- What only loading, the resets and a contact change: what waits, the contacts, the reset pin, the image and its count. -/
def fixture (s : State) : List Instr × Vector Bool 17 × Bool × Settings × Nat :=
  (s.pending, s.pins, s.resetLow, s.sld.settings, s.sld.clamped)

section
variable {s t : State}

theorem fixture_of_steady (h : steady t = steady s) : fixture t = fixture s :=
  congrArg (fun v : Steady => (v.pending, v.pins, v.resetLow, v.settings, v.clamped)) h

theorem fixture_event (f : State → State) (s : State) : fixture (event f s) = fixture (f (beginEvent s)) :=
  fixture_of_steady (steady_event f s)

theorem fixture_minutePasses (s : State) : fixture (minutePasses s) = fixture s :=
  minutePasses_keeps (f := fixture)
    (fun t => congrArg (fun v : Steady => (v.pending, v.pins, v.resetLow, v.settings, v.clamped)) (unlearned_markJobs t)) s

theorem fixture_secondPasses (p w r a : AnalogCode) (s : State) : fixture (secondPasses p w r a s) = fixture s := by
  cases on : active s with
  | false => rw [secondPasses_inactive on]; rfl
  | true =>
    have e := steady_secondPasses (p := p) (tw := w) (tr := r) (ta := a) on
    exact congrArg (fun v : Steady => (v.pending, v.pins, v.resetLow, v.settings, v.clamped)) e

/-- The commands that load or reset. -/
def loadsOrResets : Instr → Bool
  | .powerOnReset => true
  | .externalReset => true
  | .loadAttemptDone _ => true
  | .resetPinReturnsHigh => true
  | _ => false

theorem fixture_effect {c : Instr} (h : loadsOrResets c = false) (a : arises c s = true) :
    fixture (effect c (beginEvent (contactMoved c s))) = fixture (contactMoved c s) := by
  cases c with
  | powerOnReset | externalReset | loadAttemptDone | resetPinReturnsHigh => cases h
  | retryWaitExpiry => rfl
  | secondEvent p w r x => exact fixture_secondPasses p w r x _
  | minuteMark => exact fixture_minutePasses _
  | answerTimerExpiry =>
    simp only [arises, Bool.and_eq_true, beq_iff_eq] at a
    exact fixture_of_steady (steady_endAnswering (s := beginEvent s) a.2)
  | _ => exact fixture_of_steady (steady_effect rfl _)

theorem msu_effect {c : Instr} (load : ∀ b, c ≠ .loadAttemptDone b) (second : ∀ p w r a, c ≠ .secondEvent p w r a)
    (minute : c ≠ .minuteMark) (a : arises c s = true) : (effect c (beginEvent (contactMoved c s))).msu = s.msu := by
  cases c with
  | loadAttemptDone b => exact absurd rfl (load b)
  | secondEvent p w r x => exact absurd rfl (second p w r x)
  | minuteMark => exact absurd rfl minute
  | powerOnReset | externalReset => cases a
  | retryWaitExpiry | resetPinReturnsHigh => rfl
  | answerTimerExpiry =>
    simp only [arises, Bool.and_eq_true, beq_iff_eq] at a
    exact msu_of_steady (steady_endAnswering (s := beginEvent s) a.2)
  | rawInputChange i closed => exact (msu_of_steady (steady_effect (c := .rawInputChange i closed) rfl _)).trans rfl
  | _ => exact msu_of_steady (steady_effect rfl _)

theorem ilu_secondPasses (p w r a : AnalogCode) (s : State) : (secondPasses p w r a s).ilu = s.ilu := by
  have sampled : ∀ x, (sampleTemperatures w r a (samplePressure p x)).ilu = x.ilu := fun x => by
    unfold sampleTemperatures samplePressure; dsimp only; split <;> simp
  unfold secondPasses takeSamples
  dsimp only
  split
  · rw [ilu_sampleTaken, sampled, ilu_takePending, ilu_countTimers]; rfl
  · rfl

theorem ilu_winSlot (slot n : Nat) (s : State) : (winSlot slot n s).ilu = s.ilu := by
  induction n generalizing s with
  | zero => rfl
  | succ n ih => unfold winSlot; dsimp only; (repeat' split) <;> simp [*]

theorem ptb_winSlot (slot n : Nat) (s : State) : (winSlot slot n s).ptb = s.ptb := by
  induction n generalizing s with
  | zero => rfl
  | succ n ih => unfold winSlot; dsimp only; (repeat' split) <;> simp [*]

theorem ilu_event (f : State → State) (s : State) : (event f s).ilu = (f (beginEvent s)).ilu := by
  unfold event; rw [ilu_takeHandOns, ilu_follow]

theorem ptb_event (f : State → State) (s : State) : (event f s).ptb = (f (beginEvent s)).ptb := by
  unfold event; rw [ptb_takeHandOns, ptb_follow]

/-- The commands that reach the input unit. -/
def reachesInputs : Instr → Bool
  | .loadAttemptDone _ => true
  | .rawInputChange _ _ => true
  | .inputSettled _ => true
  | .proofTimerExpiry _ => true
  | .noticeHeard _ => true
  | _ => false

theorem ilu_effect {c : Instr} (h : reachesInputs c = false) (s : State) : (effect c s).ilu = s.ilu := by
  cases c with
  | loadAttemptDone | rawInputChange | inputSettled | proofTimerExpiry | noticeHeard => cases h
  | powerOnReset | externalReset | retryWaitExpiry | resetPinReturnsHigh | answerWaitEnd => rfl
  | secondEvent p w r a => exact ilu_secondPasses p w r a s
  | minuteMark => exact ilu_minutePasses s
  | winTime slot => exact ilu_winSlot _ _ _
  | _ => simp [effect]

/-- The commands that reach the peer table. -/
def reachesPeers : Instr → Bool
  | .loadAttemptDone _ => true
  | .secondEvent _ _ _ _ => true
  | .windowEnd _ => true
  | .peerLost _ => true
  | .noticeHeard _ => true
  | _ => false

theorem ptb_effect {c : Instr} (h : reachesPeers c = false) (s : State) : (effect c s).ptb = s.ptb := by
  cases c with
  | loadAttemptDone | secondEvent | windowEnd | peerLost | noticeHeard => cases h
  | powerOnReset | externalReset | retryWaitExpiry | resetPinReturnsHigh | answerWaitEnd => rfl
  | minuteMark => exact ptb_minutePasses s
  | winTime slot => exact ptb_winSlot _ _ _
  | _ => simp [effect]

end

end Sys2Proof.Machine

namespace Sys2Proof.Proofs
open Sys2Proof Sys2Proof.Machine

/-- Settles O42: the three branches of the plan, by what is needed and what flows. -/
theorem planSlackAndUrgency : Obligations.PlanSlackAndUrgency := by
  intro s
  have target : planTarget s ≤ planCeiling s := by
    unfold planTarget
    dsimp only
    split
    · exact (min_le_left _ _).trans (min_le_right _ _)
    · exact min_le_right _ _
  have urgency : ∀ x : Int, (x ≤ 0 → slackUrgency x = 4) ∧ (0 < x → x ≤ 60 → slackUrgency x = 3) ∧ (60 < x → slackUrgency x = 2) := by
    intro x
    unfold slackUrgency
    refine ⟨fun h => if_pos h, fun h k => ?_, fun h => ?_⟩
    · rw [if_neg (by omega), if_pos k]
    · rw [if_neg (by omega), if_neg (by omega)]
  dsimp only
  unfold computePlan
  dsimp only
  split
  next none =>
    refine ⟨rfl, target, rfl, fun _ => ⟨rfl, rfl, rfl, rfl⟩, fun some => absurd some (by dsimp only at *; omega), fun some => absurd some (by dsimp only at *; omega),
      fun some => absurd some (by dsimp only at *; omega), urgency _⟩
  next some =>
    split
    next dry =>
      exact ⟨rfl, target, rfl, fun none => absurd none some, fun _ => rfl, fun _ _ => ⟨rfl, rfl, rfl⟩,
        fun _ flows => absurd flows (by dsimp only at *; omega), urgency _⟩
    next flows =>
      refine ⟨rfl, target, rfl, fun none => absurd none some, fun _ => rfl, fun _ dry => absurd dry flows, fun _ pos => ?_, urgency _⟩
      obtain ⟨least, enough⟩ := ceilDiv_spec (planTarget s - planVolume s) (show 0 < s.flc.qEst.getD 0 - (setting s).draw from pos)
      exact ⟨rfl, _, rfl, least, enough, rfl⟩

/-- Settles O49: keys position by position, the first match, and the two branches of an evaluation. -/
theorem situationLookup : Obligations.SituationLookup := by
  refine ⟨fun key e => entryMatches_iff, fun key table e => lookup_eq_some, fun key table => ?_, fun key link p small inside => ⟨?_, ?_⟩,
    fun e o => ⟨rfl, ?_⟩, fun s => ?_, fun f v s on => ?_⟩
  · unfold lookup; simp
  · unfold firstKey
    rw [getLsbD_withField key 0 5 1 inside]
    cases p with
    | zero => rfl
    | succ p => by_cases low : p + 1 ≤ 4 <;> simp [Nat.testBit_succ, low, Nat.lt_succ_iff]
  · unfold secondKey
    rw [getLsbD_withField key 0 5 (2 * link) inside]
    cases p with
    | zero => simp
    | succ p => by_cases low : p + 1 ≤ 4 <;> simp [Nat.testBit_succ, low, Nat.lt_succ_iff]
  · simp only [applyAction, unlessKeep_getD, unlessKeep_getD_id, Bool.beq_eq_decide_eq]
  · exact evaluateSituation_spec s
  · dsimp only
    show takeKey (keyWith f v s.stu.key) s = _
    unfold takeKey
    rw [if_pos on]
    rfl

/-- Settles O59: an event begins with no change counted, its own effect counts at most one, and each key taken counts one more only
below two. -/
theorem ordersLawKept : Obligations.OrdersLawKept := by
  intro s t
  refine step_keeps (P := OrdersBounded) ?_ (fun _ _ h => h) (fun s _ => Nat.zero_le 2) (fun s _ => Nat.zero_le 2)
    (fun _ _ _ h => h) fun c s _ _ => ordersBounded_event ?_
  · intro s h
    rcases passSlot_cases s with e | ⟨_, e⟩ <;> rw [e] <;> exact h
  · by_cases quiet : evaluates c = false
    · unfold OrdersBounded
      rw [stu_effect quiet]
      exact Nat.zero_le 2
    · cases c with
      | loadAttemptDone block => exact (changeCount_judgeRead _ _).trans (Nat.le_succ 1)
      | secondEvent p w r a => exact (changeCount_secondPasses _ _ _ _ _).trans (Nat.le_succ 1)
      | _ => exact absurd rfl quiet

/-- Settles O50: block by block, over the effects that reach it. -/
theorem commandsKeepOtherBlocks : Obligations.CommandsKeepOtherBlocks := by
  intro c s t h p x load
  have taken := exec_eq_event p x h
  have frames : (loadsOrResets c = false → fixture t = fixture (contactMoved c s)) ∧
      ((∀ p w r a, c ≠ .secondEvent p w r a) → c ≠ .minuteMark → t.msu = s.msu) ∧
      (reachesInputs c = false → t.ilu = s.ilu) ∧ (reachesPeers c = false → t.ptb = s.ptb) := by
    have moved : (contactMoved c s).msu = s.msu ∧ (contactMoved c s).ilu = s.ilu ∧ (contactMoved c s).ptb = s.ptb := by
      cases c <;> exact ⟨rfl, rfl, rfl⟩
    obtain ⟨msu, ilu, ptb⟩ := moved
    rw [taken]
    split
    next a =>
      exact ⟨fun k => (fixture_event _ _).trans (fixture_effect k a),
        fun second minute => (msu_of_steady (steady_event _ _)).trans (msu_effect load second minute a),
        fun k => ((ilu_event _ _).trans (ilu_effect k _)).trans ilu, fun k => ((ptb_event _ _).trans (ptb_effect k _)).trans ptb⟩
    next => exact ⟨fun _ => rfl, fun _ _ => msu, fun _ => ilu, fun _ => ptb⟩
  obtain ⟨fixed, measured, inputs, peers⟩ := frames
  have blocks : t.sld.settings = s.sld.settings ∧ t.pending = s.pending ∧
      (c ≠ .resetPinReturnsHigh → t.sld.clamped = s.sld.clamped ∧ t.resetLow = s.resetLow) ∧
      ((∀ i b, c ≠ .rawInputChange i b) → t.pins = s.pins) := by
    by_cases pin : c = .resetPinReturnsHigh
    · subst pin
      have e : (fixture t).1 = s.pending ∧ (fixture t).2.1 = s.pins ∧ (fixture t).2.2.2.1 = s.sld.settings := by
        rw [taken]
        split
        next => rw [fixture_event]; exact ⟨rfl, rfl, rfl⟩
        next => exact ⟨rfl, rfl, rfl⟩
      obtain ⟨pending, pins, image⟩ := e
      exact ⟨image, pending, fun n => absurd rfl n, fun _ => pins⟩
    · have e := fixed (by
        cases c with
        | powerOnReset => exact absurd rfl p
        | externalReset => exact absurd rfl x
        | loadAttemptDone b => exact absurd rfl (load b)
        | resetPinReturnsHigh => exact absurd rfl pin
        | _ => rfl)
      simp only [fixture, Prod.mk.injEq, contactMoved_resetLow, contactMoved_sld] at e
      obtain ⟨pending, pins, low, image, clamped⟩ := e
      refine ⟨image, pending.trans ?_, fun _ => ⟨clamped, low⟩, fun raw => pins.trans ?_⟩
      · cases c <;> rfl
      · cases c with
        | rawInputChange i b => exact absurd rfl (raw i b)
        | _ => rfl
  obtain ⟨image, pending, loader, pins⟩ := blocks
  refine ⟨image, pending, loader, pins, measured, fun raw settled proof heard => inputs ?_, fun second window lost heard => peers ?_⟩
  · cases c with
    | loadAttemptDone b => exact absurd rfl (load b)
    | rawInputChange i b => exact absurd rfl (raw i b)
    | inputSettled i => exact absurd rfl (settled i)
    | proofTimerExpiry k => exact absurd rfl (proof k)
    | noticeHeard chars => exact absurd rfl (heard chars)
    | _ => rfl
  · cases c with
    | loadAttemptDone b => exact absurd rfl (load b)
    | secondEvent code w r a => exact absurd rfl (second code w r a)
    | windowEnd w => exact absurd rfl (window w)
    | peerLost n => exact absurd rfl (lost n)
    | noticeHeard chars => exact absurd rfl (heard chars)
    | _ => rfl

end Sys2Proof.Proofs
end

section
/-! PROOFS. The timers of the claim unit and the peer entries: events that hand one thing on, and what they leave. -/

namespace Sys2Proof.Machine

section
variable {f : State → State} {s u v : State}

theorem takeHandOns_settled (n : Nat) (h : Settled s) : takeHandOns n s = s := by
  cases n with
  | zero => rfl
  | succ n =>
    unfold takeHandOns
    split
    next => rfl
    next some => exact absurd (some.symm.trans h) (List.cons_ne_nil _ _)

/-- An event whose own effect hands one thing on, which hands nothing further. -/
theorem event_of_one {x : HandOn} (h : f (beginEvent s) = emit x u) (settled : Settled u)
    (k : Settled (takeHandOn x (follow u))) : event f s = follow (takeHandOn x (follow u)) := by
  have none : u.handOns = [] := settled
  have first : (follow (emit x u)).handOns = [x] := by
    show u.handOns ++ [x] = _
    rw [none]
    rfl
  have taken : ({ follow (emit x u) with handOns := [] } : State) = follow u := by rw [← none]; rfl
  unfold event Config.handOnBound
  rw [h]
  unfold takeHandOns
  split
  next empty => rw [first] at empty; cases empty
  next y rest some =>
    rw [first] at some
    cases some
    rw [taken]
    exact takeHandOns_settled _ k

/-- The same where the outputs are in place. -/
theorem event_handing {x : HandOn} (h : f (beginEvent s) = emit x u) (rested : Rested u) (taken : takeHandOn x u = v)
    (k : Rested v) : event f s = v := by
  have out : follow u = u := follow_of_outputsFollow rested.2
  have one := event_of_one (f := f) h rested.1 (by rw [out, taken]; exact k.1)
  rw [out, taken, follow_of_outputsFollow k.2] at one
  exact one

end

/-! ### Timers and the conditions of R85 -/

theorem runOut_iff {t : Option Nat} : runOut t = true ↔ t = some 0 := by simp [runOut]

/-- A claim that is neither settling nor HELD has nothing to withdraw (R88). -/
theorem settleCheck_of_idle {r : Resource} {s : State} (settling : (own r s).state ≠ .settling) (held : (own r s).state ≠ .held) :
    settleCheck r s = s := by
  simp [settleCheck, settling, held]

theorem announce_of_none {r : Resource} {s : State} (h : (own r s).state = .none) : announce r s = s := by
  unfold announce
  dsimp only
  rw [h]

theorem announce_of_waiting {r : Resource} {s : State} (h : (own r s).state = .waiting)
    (may : mayAnnounce r (own r s).amount s = true) :
    announce r s = queueNotice (.claim r false) (own r s).urgency (setOwn r { own r s with state := .announcing } s) := by
  unfold announce
  dsimp only
  rw [h]
  exact if_pos may

theorem own_setIncompleteTimer (r r' : Resource) (x : Option Nat) (s : State) :
    own r' (setIncompleteTimer r x s) = own r' s := by cases r <;> cases r' <;> rfl

theorem incomplete_setIncompleteTimer (r : Resource) (x : Option Nat) (s : State) :
    incomplete r (setIncompleteTimer r x s) = x := by cases r <;> rfl

/-! ### What stands under a key -/

theorem entryUnder_isSome {k : QueueKey} {q : List QueueEntry} (h : ∃ e ∈ q, keyOf e.item = k) :
    ∃ e, entryUnder k q = some e ∧ e ∈ q ∧ keyOf e.item = k := by
  obtain ⟨e, m, key⟩ := h
  cases found : entryUnder k q with
  | none => exact absurd key (ne_of_entryUnder found e m)
  | some x => exact ⟨x, rfl, mem_of_entryUnder found⟩

/-- A notice whose key stands in the queue meets the entry under it, unless it is a CLAIM that a joining station may not queue. -/
theorem queueNotice_over {item : Outgoing} {u : Nat} {e : QueueEntry} {s : State} (on : active s = true)
    (may : isClaim item = true → s.sld.mode = .joined ∨ 6 ≤ u) (found : entryUnder (keyOf item) s.lnu.queue = some e) :
    queueNotice item u s = queueOver item u e s := by
  have placed : (match entryUnder (keyOf item) s.lnu.queue with
      | some e => queueOver item u e s
      | none => queueNew (queueRelease 2) item u s) = queueOver item u e s := by rw [found]
  unfold queueNotice queueWith
  rw [if_pos on]
  split
  next r refresh =>
    refine (if_neg ?_).trans placed
    rintro ⟨joining, low⟩
    rcases may rfl with joined | high
    · rw [joined] at joining; cases joining
    · omega
  next => exact placed

/-! ### What a RELEASE queued leaves of a claim (R90, R92) -/

/-- The own claim of a resource with its table. -/
def side (r : Resource) (s : State) : OwnClaim × Vector (Option Holding) 24 := (own r s, claimTable r s)

section
variable {r r' : Resource} {s t : State}

theorem own_of_side (h : side r t = side r s) : own r t = own r s := congrArg Prod.fst h

theorem entryAt_of_side (h : side r t = side r s) (n : Nat) : entryAt r n t = entryAt r n s := by
  unfold entryAt
  rw [show claimTable r t = claimTable r s from congrArg Prod.snd h]

theorem side_of_clu (h : t.clu = s.clu) (r : Resource) : side r t = side r s := by
  cases r <;> simp only [side, own, claimTable, h]

theorem side_setOwn_ne (h : r' ≠ r) (c : OwnClaim) (s : State) : side r (setOwn r' c s) = side r s := by
  cases r <;> cases r' <;> first | exact absurd rfl h | rfl

theorem side_setEntry_ne (h : r' ≠ r) (n : Nat) (e : Option Holding) (s : State) : side r (setEntry r' n e s) = side r s := by
  unfold setEntry
  split
  · cases r <;> cases r' <;> first | exact absurd rfl h | rfl
  · rfl

theorem side_tellLost (r' : Resource) (s : State) : side r (tellLost r' s) = side r s := by cases r' <;> cases r <;> rfl

theorem side_claimBackToWaiting (h : r' ≠ r) (s : State) : side r (claimBackToWaiting r' s) = side r s := by
  unfold claimBackToWaiting
  dsimp only
  (repeat' split) <;> simp [side_setOwn_ne h]

theorem side_markIncompleteFor (q : Question) (s : State) : side r (markIncompleteFor q s) = side r s := by
  unfold markIncompleteFor setIncomplete
  split
  next r' => cases r' <;> cases r <;> rfl
  next => rfl

/-- No CLAIM of the resource stands in the queue. -/
def NoClaimQueued (r : Resource) (q : List QueueEntry) : Prop := ∀ e ∈ q, ∀ refresh, e.item ≠ .claim r refresh

/-- The owner of a dropped notice that is no CLAIM of the resource leaves the claim alone, as long as the RELEASE it queues does. -/
theorem side_dropNotice {release : Resource → State → State} {item : Outgoing} (n : ∀ refresh, item ≠ .claim r refresh)
    (keeps : ∀ r' t, t.lnu.queue = s.lnu.queue → side r (release r' t) = side r t) :
    side r (dropNotice release item s) = side r s := by
  have noted : side r (noteOccurrence s) = side r s := side_of_clu rfl r
  unfold dropNotice tellDropped
  split
  next => exact side_of_clu rfl r
  next r' => exact (side_claimBackToWaiting (fun same => n false (by rw [same])) _).trans noted
  next r' =>
    have other : r' ≠ r := fun same => n true (by rw [same])
    split
    · unfold giveUp
      refine Eq.trans (side_of_clu (s := tellLost r' _) rfl r) ((side_tellLost r' _).trans ((keeps r' _ ?_).trans ?_))
      · unfold dropOwnEntry; simp
      · unfold dropOwnEntry
        rw [side_setEntry_ne other, side_setOwn_ne other, noted]
    · exact noted
  next q => exact (side_of_clu (s := markIncompleteFor q (noteOccurrence s)) rfl r).trans ((side_markIncompleteFor q _).trans noted)
  all_goals exact noted

theorem side_queueOver (item : Outgoing) (u : Nat) (e : QueueEntry) (s : State) : side r (queueOver item u e s) = side r s := by
  unfold queueOver; (repeat' split) <;> exact side_of_clu rfl r

/-- A RELEASE queued where no CLAIM of a resource stands leaves that resource's claim alone. -/
theorem side_queueRelease (n : Nat) (none : NoClaimQueued r s.lnu.queue) : side r (queueRelease n r' s) = side r s := by
  induction n generalizing r' s with
  | zero => rfl
  | succ n ih =>
    unfold queueRelease queueWith
    split
    · dsimp only
      split
      next => exact side_queueOver _ _ _ _
      next =>
        unfold queueNew
        split
        · exact side_of_clu rfl r
        · have refused : side r (dropNotice (queueRelease n) (.release r') s) = side r s := side_of_clu rfl r
          split
          next => exact refused
          next e cand =>
            obtain ⟨m, _⟩ := dropCandidate_mem cand
            split
            · refine (side_dropNotice (none e m) fun r'' t same => ih ?_).trans (side_of_clu rfl r)
              rw [same]
              intro x mx refresh
              rcases List.mem_append.mp mx with old | new
              · exact none x (mem_removeUnder.mp old).1 refresh
              · rw [List.mem_singleton.mp new]
                exact fun claim => by cases claim
            · exact refused
    · rfl

/-- The RELEASE of a claim never reaches that claim: an entry under its key is replaced, and without one no CLAIM of it can be
dropped. -/
theorem side_queueNotice_release (u : Nat) (s : State) (five : u = 5) : side r (queueNotice (.release r) u s) = side r s := by
  subst five
  cases found : entryUnder (.side r) s.lnu.queue with
  | none => exact side_queueRelease 3 fun e m refresh claim => ne_of_entryUnder found e m (by rw [claim]; rfl)
  | some e =>
    cases on : active s with
    | false => rw [queueNotice_inactive on]
    | true => rw [queueNotice_over (item := .release r) on (fun claim => by cases claim) found, side_queueOver]

/-- A claim LOST: WAITING again, its entry gone (R83, R88). -/
theorem side_loseOwn (r : Resource) (releases : Bool) (s : State) :
    side r (loseOwn r releases s) = side r (dropOwnEntry r (setOwn r (lostRecord (own r s)) s)) := by
  unfold loseOwn giveUp
  refine Eq.trans (side_of_clu (s := tellLost r _) rfl r) ((side_tellLost r _).trans ?_)
  split
  · exact side_queueNotice_release 5 _ rfl
  · rfl

theorem own_loseOwn (r : Resource) (releases : Bool) (s : State) : own r (loseOwn r releases s) = lostRecord (own r s) := by
  rw [own_of_side (side_loseOwn r releases s)]
  unfold dropOwnEntry
  simp

theorem entryAt_loseOwn (r : Resource) (releases : Bool) (s : State) :
    entryAt r (setting s).station (loseOwn r releases s) = none := by
  rw [entryAt_of_side (side_loseOwn r releases s)]
  unfold dropOwnEntry
  have station : setting (setOwn r (lostRecord (own r s)) s) = setting s := by cases r <;> rfl
  rw [station]
  by_cases h : 1 ≤ (setting s).station ∧ (setting s).station ≤ 24
  · exact entryAt_setEntry_same h r none _
  · unfold entryAt; exact dif_neg h

end

end Sys2Proof.Machine

namespace Sys2Proof.Proofs
open Sys2Proof Sys2Proof.Machine

/-- Settles O40: the flag clears and the one re-examination finds nothing asked, or announces what waits. -/
theorem incompleteFlagClears : Obligations.IncompleteFlagClears := by
  intro r s h on due
  have a : arises (.incompleteTimerExpiry r) s = true := arises_and on (runOut_iff.mpr due)
  let u := setIncompleteTimer r none s
  have rested : Rested u := by cases r <;> exact ⟨h.1, h.2⟩
  have claim : own r (beginEvent u) = own r s := own_setIncompleteTimer r r none s
  have effect_eq : effect (.incompleteTimerExpiry r) (beginEvent s) = emit (.reexamine r) (beginEvent u) := by cases r <;> rfl
  refine ⟨fun idle => ?_, fun waits joined single fit room fresh => ?_⟩
  · have nothing : reexamineNow r (beginEvent u) = beginEvent u := by
      have none : (own r (beginEvent u)).state = .none := by rw [claim, idle]
      unfold reexamineNow
      rw [settleCheck_of_idle (by rw [none]; decide) (by rw [none]; decide), announce_of_none none]
    exact (exec_of_arises a).trans (congrArg _ (event_handing effect_eq rested nothing rested))
  · have waiting : (own r (beginEvent u)).state = .waiting := by rw [claim, waits]
    have fitting : fits r (own r s).amount (beginEvent u) = true := by
      refine decide_eq_true (Eq.trans_le (congrArg _ ?_) (fit.trans_eq ?_)) <;> cases r <;> rfl
    have may : mayAnnounce r (own r (beginEvent u)).amount (beginEvent u) = true := by
      unfold mayAnnounce
      rw [claim, show active (beginEvent u) = true by cases r <;> exact on,
        show dupPresent (beginEvent u) = false by cases r <;> exact single,
        show (beginEvent u).sld.mode = .joined by cases r <;> exact joined, fitting,
        show incomplete r (beginEvent u) = none from incomplete_setIncompleteTimer r none s]
      simp
    have announced : reexamineNow r (beginEvent u) =
        enqueue (.claim r false) (own r s).urgency (setOwn r { own r s with state := .announcing } (beginEvent u)) := by
      unfold reexamineNow
      rw [settleCheck_of_idle (by rw [waiting]; decide) (by rw [waiting]; decide), announce_of_waiting waiting may, claim]
      exact queueNotice_enters (by cases r <;> exact on) (fun _ => .inl (by cases r <;> exact joined)) (by cases r <;> exact room)
        (by cases r <;> exact fresh)
    refine (exec_of_arises a).trans (congrArg _ ((event_handing effect_eq rested announced ?_).trans ?_))
    · cases r <;> exact ⟨h.1, h.2⟩
    · cases r <;> rfl

/-- Settles O39: the lead by what stands under the claim's key, and the refresh time by the misses counted. -/
theorem refreshLeadAndTime : Obligations.RefreshLeadAndTime := by
  intro r s h on held
  dsimp only
  have same : own r (beginEvent s) = own r s := by cases r <;> rfl
  refine ⟨fun undone due => ?_, fun ran few => ?_, fun ran many => ?_⟩
  · obtain ⟨n, runs, lead⟩ := due
    have a : arises (.refreshLead r) s = true := arises_and on (by simp [leadDue, held, undone, runs, lead])
    refine ⟨fun settling => ?_, fun other there stands => ?_, fun flat open_ there stale => ?_, fun other absent room open_ => ?_⟩
    · refine exec_of_rested (u := setOwn r { own r s with leadDone := true, refreshOwed := true } s) a ?_
        (by cases r <;> exact ⟨h.1, h.2⟩)
      show refreshLeadReached r (beginEvent s) = _
      unfold refreshLeadReached
      rw [same]
      exact (if_pos settling).trans (by cases r <;> rfl)
    · obtain ⟨e, found, m, key⟩ := entryUnder_isSome there
      have stand : refreshStands r (beginEvent s) = true := by
        have found : entryUnder (.side r) (beginEvent s).lnu.queue = some e := found
        unfold refreshStands
        rw [found, same]
        rcases stands e m key with refresh | refresh | ⟨claim, announcing⟩
        · simp [refresh]
        · simp [refresh]
        · simp [claim, announcing]
      refine exec_of_rested (u := setOwn r { own r s with leadDone := true } s) a ?_ (by cases r <;> exact ⟨h.1, h.2⟩)
      show refreshLeadReached r (beginEvent s) = _
      unfold refreshLeadReached
      rw [same]
      exact (if_neg other).trans ((if_pos stand).trans (by cases r <;> rfl))
    · obtain ⟨e, found, m, key⟩ := entryUnder_isSome there
      obtain ⟨item, waits, fresh⟩ := stale e m key
      have stands : refreshStands r (beginEvent s) = false := by
        have found : entryUnder (.side r) (beginEvent s).lnu.queue = some e := found
        unfold refreshStands
        rw [found, same]
        simp [item, fresh, flat]
      refine exec_of_rested a ?_ (by cases r <;> exact ⟨h.1, h.2⟩)
      show refreshLeadReached r (beginEvent s) = _
      unfold refreshLeadReached
      rw [same]
      refine (if_neg (by rw [flat]; decide)).trans ((if_neg (by rw [stands]; decide)).trans ?_)
      rw [queueNotice_over (e := e) (by cases r <;> exact on) (fun _ => by cases r <;> exact open_) (by cases r <;> exact found)]
      unfold queueOver
      rw [if_neg (by rw [waits]; decide), if_neg (by simp [isRelease])]
      have entries : changeUnder (.side r) (fun x => { x.holding (.claim r true) with urgency := max x.urgency (own r s).urgency })
          s.lnu.queue = s.lnu.queue.map (fun e => if keyOf e.item == .side r then
            { e with item := .claim r true, urgency := max e.urgency (own r s).urgency, everSent := false } else e) := by
        simp only [changeUnder, QueueEntry.holding, isInitialClaim, Bool.and_false]
      rw [← entries]
      cases r <;> rfl
    · have stands : refreshStands r (beginEvent s) = false := by
        unfold refreshStands
        rw [entryUnder_eq_none (q := (beginEvent s).lnu.queue) absent]
      refine exec_of_rested a ?_ (by cases r <;> exact ⟨h.1, h.2⟩)
      show refreshLeadReached r (beginEvent s) = _
      unfold refreshLeadReached
      rw [same]
      refine (if_neg other).trans ((if_neg (by rw [stands]; decide)).trans ?_)
      rw [queueNotice_enters (by cases r <;> exact on) (fun _ => by cases r <;> exact open_) (by cases r <;> exact room)
        (by cases r <;> exact absent)]
      cases r <;> rfl
  · refine exec_of_rested (u := setOwn r { own r s with
        missed := (own r s).missed + 1, refresh := some (setting s).tRefresh, leadDone := false } s)
      (arises_and on (by simp [refreshDue, held, runOut, ran])) ?_ (by cases r <;> exact ⟨h.1, h.2⟩)
    show refreshMissed r (beginEvent s) = _
    unfold refreshMissed
    rw [same]
    exact (if_neg (Nat.not_lt.mpr few)).trans (by cases r <;> rfl)
  · have a : arises (.refreshTime r) s = true := arises_and on (by simp [refreshDue, held, runOut, ran])
    refine ⟨(exec_of_arises a).trans (congrArg _ (event_congr ?_)), ?_⟩
    · show refreshMissed r (beginEvent s) = _
      unfold refreshMissed
      rw [same]
      exact if_pos many
    · have lost := own_loseOwn r false s
      refine ⟨by rw [lost]; rfl, by rw [lost]; rfl, by rw [lost]; rfl, by rw [lost]; rfl, ?_, entryAt_loseOwn r false s⟩
      cases r <;> simp [loseOwn, giveUp, tellLost, dropOwnEntry]

end Sys2Proof.Proofs
end

section
/-! PROOFS. Entries of other stations over time, and the verdict on the own claim. -/

namespace Sys2Proof.Machine

/-! ### The quiet part after an event -/

section
variable {s t : State}

theorem others_of_quiet (h : quiet t = quiet s) : othersOf t = othersOf s := congrArg Quiet.others h
theorem msu_of_quiet (h : quiet t = quiet s) : t.msu = s.msu := congrArg Quiet.msu h
theorem ilu_of_quiet (h : quiet t = quiet s) : t.ilu = s.ilu := congrArg Quiet.ilu h
theorem ptb_of_quiet (h : quiet t = quiet s) : t.ptb = s.ptb := congrArg Quiet.ptb h
theorem ogu_of_quiet (h : quiet t = quiet s) : t.ogu = s.ogu := congrArg Quiet.ogu h
theorem pins_of_quiet (h : quiet t = quiet s) : t.pins = s.pins := congrArg Quiet.pins h

theorem othersOf_of_ne (r : Resource) {n : Nat} (h : n ≠ (setting s).station) : othersOf s r n = entryAt r n s := if_neg h

/-- The entries of other stations after an entry of another station is written. -/
theorem othersOf_setEntry {n : Nat} (other : n ≠ (setting s).station) (inside : 1 ≤ n ∧ n ≤ 24) (r : Resource) (e : Option Holding) :
    othersOf (setEntry r n e s) r n = e ∧
    ∀ r' m, (r', m) ≠ (r, n) → othersOf (setEntry r n e s) r' m = othersOf s r' m := by
  have station : setting (setEntry r n e s) = setting s := congrArg Loader.settings (station_setEntry r n e s)
  refine ⟨?_, fun r' m ne => ?_⟩
  · rw [othersOf_of_ne r (by rw [station]; exact other), entryAt_setEntry_same inside]
  · unfold othersOf
    rw [station]
    split
    · rfl
    · by_cases same : m = n
      · subst same
        have side : r' ≠ r := fun h => ne (by rw [h])
        cases r <;> cases r' <;> first | exact absurd rfl side | (unfold setEntry entryAt; split <;> rfl)
      · exact entryAt_setEntry_of_ne same r' r e s

theorem inside_of_entryAt {r : Resource} {n : Nat} {h : Holding} (e : entryAt r n s = some h) : 1 ≤ n ∧ n ≤ 24 := by
  unfold entryAt at e
  split at e
  next inside => exact inside
  next => cases e

end

/-! ### Sums over the entries -/

/-- A sum over the entries of a table is a sum over its places. -/
theorem sum_entriesOf (r : Resource) (s : State) (keep : Nat × Holding → Bool) (g : Nat × Holding → Nat) :
    (((entriesOf r s).filter keep).map g).sum =
      ((List.range 24).map (fun i => match entryAt r (i + 1) s with
        | none => 0
        | some e => if keep (i + 1, e) then g (i + 1, e) else 0)).sum := by
  have step : ∀ (l : List (Option Holding)) (k : Nat),
      ((((l.zipIdx k).filterMap (fun p => p.1.map (fun h => (p.2 + 1, h)))).filter keep).map g).sum =
        ((l.zipIdx k).map (fun p => match p.1 with
          | none => 0
          | some e => if keep (p.2 + 1, e) then g (p.2 + 1, e) else 0)).sum := by
    intro l
    induction l with
    | nil => intro k; rfl
    | cons x rest ih =>
      intro k
      cases x with
      | none => simpa using ih (k + 1)
      | some e =>
        by_cases kept : keep (k + 1, e) = true
        · simpa [kept] using ih (k + 1)
        · simpa [kept] using ih (k + 1)
  unfold entriesOf
  rw [step]
  congr 1
  apply List.ext_getElem
  · simp
  · intro i h1 h2
    have inside : i < 24 := by simpa using h2
    have here : entryAt r (i + 1) s = (claimTable r s)[i] := by
      unfold entryAt
      rw [dif_pos ⟨Nat.succ_pos i, inside⟩]
      rfl
    simp [here]

/-- The sum of R84, station by station. -/
theorem othersSum_eq (r : Resource) (s : State) : othersSum r s = ((List.range 24).map (fun i =>
    if i + 1 = (setting s).station then 0
    else match entryAt r (i + 1) s with
      | none => 0
      | some e => match e.share with
        | .held a => a
        | .settling p m _ late => if late = true ∧ ownSettling r s = true then m.getD 0 else max p (m.getD 0))).sum := by
  unfold othersSum
  rw [sum_entriesOf]
  congr 1
  refine List.map_congr_left fun i _ => ?_
  by_cases me : i + 1 = (setting s).station
  · rw [if_pos me]
    cases entryAt r (i + 1) s with
    | none => rfl
    | some e => exact if_neg (by simp [me])
  · rw [if_neg me]
    cases entryAt r (i + 1) s with
    | none => rfl
    | some e =>
      refine (if_pos (by simp [me])).trans ?_
      obtain ⟨share, u, age⟩ := e
      cases share with
      | held a => rfl
      | settling p m n late => simp [countedPart]

/-! ### A refresh queued where there is room leaves the claim -/

theorem side_queueNotice_refresh {r : Resource} (u : Nat) {s : State} (room : s.lnu.queue.length < 8) :
    side r (queueNotice (.claim r true) u s) = side r s := by
  cases on : active s with
  | false => rw [queueNotice_inactive on]
  | true =>
    unfold queueNotice queueWith
    rw [if_pos on]
    dsimp only
    split
    · rfl
    · split
      · exact side_queueOver _ _ _ _
      · unfold queueNew
        rw [if_pos room]
        exact side_of_clu rfl r

theorem side_emit (h : HandOn) (r : Resource) (s : State) : side r (emit h s) = side r s := side_of_clu rfl r

theorem side_tellGranted (r r' : Resource) (s : State) : side r (tellGranted r' s) = side r s := by cases r' <;> exact side_emit _ _ _

theorem side_tellRaiseWithdrawn (r r' : Resource) (s : State) : side r (tellRaiseWithdrawn r' s) = side r s := by
  cases r' <;> rfl

/-! ### The settle timer's verdict -/

section
variable {r : Resource} {s : State}

/-- R88, summed out: what a re-examination does to a settling claim or raise. -/
theorem settleCheck_of_settling
    (h : (own r s).state = .settling ∨ (own r s).state = .held ∧ (own r s).raise.map Raise.phase = some .settling) :
    settleCheck r s =
      if (own r s).urgency < 6 ∧ capacityOf r s < settlingAmount r s + othersSum r s then
        (if (own r s).state = .settling then loseOwn r true s else withdrawRaise r s)
      else s := by
  unfold settleCheck
  by_cases high : 6 ≤ (own r s).urgency
  · simp [high, Nat.not_lt.mpr high]
  have low : (own r s).urgency < 6 := Nat.not_le.mp high
  by_cases exceeds : capacityOf r s < settlingAmount r s + othersSum r s
  · have unfit : fits r (settlingAmount r s) s = false := decide_eq_false (Nat.not_le.mpr exceeds)
    rcases h with settling | ⟨held, raised⟩
    · simp [high, low, exceeds, unfit, settling]
    · simp [high, low, exceeds, unfit, held, raised]
  · have fit : fits r (settlingAmount r s) s = true := decide_eq_true (Nat.not_lt.mp exceeds)
    simp [high, exceeds, fit]

theorem side_payOwedRefresh (room : (own r s).refreshOwed = false ∨ s.lnu.queue.length < 8) :
    side r (payOwedRefresh r s) = ({ own r s with refreshOwed := false }, claimTable r s) := by
  unfold payOwedRefresh
  dsimp only
  split
  next owed =>
    rw [side_queueNotice_refresh]
    · cases r <;> rfl
    · rcases room with paid | room
      · rw [paid] at owed; cases owed
      · cases r <;> exact room
  next paid =>
    have paid : (own r s).refreshOwed = false := by simpa using paid
    rw [← paid]
    rfl

/-- The granted claim: HELD at the settled amount, its entry HELD with it (R89). -/
theorem grantOwn_spec (a : Nat) (room : (own r s).refreshOwed = false ∨ s.lnu.queue.length < 8) (inside : 1 ≤ (setting s).station ∧ (setting s).station ≤ 24) :
    own r (grantOwn r a s) = { own r s with state := .held, held := a, raise := none, settle := none, refreshOwed := false } ∧
    (entryAt r (setting s).station (grantOwn r a s)).map Holding.share = some (.held a) := by
  obtain ⟨u, eq⟩ : ∃ u, grantOwn r a s = payOwedRefresh r (tellGranted r (setEntry r (setting s).station
      (some { share := .held a, urgency := u, age := 0 })
      (setOwn r { own r s with state := .held, held := a, raise := none, settle := none } s))) := ⟨_, rfl⟩
  rw [eq]
  generalize written : setEntry r (setting s).station (some { share := .held a, urgency := u, age := 0 })
    (setOwn r { own r s with state := .held, held := a, raise := none, settle := none } s) = w
  have claim : own r (tellGranted r w) = { own r s with state := .held, held := a, raise := none, settle := none } := by
    rw [own_of_side (side_tellGranted r r w), ← written]; simp
  have entry : entryAt r (setting s).station w = some { share := .held a, urgency := u, age := 0 } := by
    rw [← written]; exact entryAt_setEntry_same inside r _ _
  have queue : (tellGranted r w).lnu.queue = s.lnu.queue := by rw [← written]; cases r <;> simp [tellGranted]
  have paid := side_payOwedRefresh (r := r) (s := tellGranted r w) (by rw [claim, queue]; exact room)
  refine ⟨(congrArg Prod.fst paid).trans (by rw [claim]), ?_⟩
  have table : claimTable r (payOwedRefresh r (tellGranted r w)) = claimTable r w :=
    (congrArg Prod.snd paid).trans (congrArg Prod.snd (side_tellGranted r r w))
  unfold entryAt at entry ⊢
  rw [table, entry]
  rfl

theorem withdrawRaise_of_some {x : Raise} (raised : (own r s).raise = some x) : withdrawRaise r s =
    emit (.reexamine r) (tellRaiseWithdrawn r (queueNotice (.claim r true) (own r s).urgency
      (setEntry r (setting s).station (some { share := .held (own r s).held, urgency := (own r s).urgency, age := 0 })
        (setOwn r { own r s with raise := some { x with phase := .waiting }, settle := none, refreshOwed := false } s)))) := by
  unfold withdrawRaise
  dsimp only
  rw [raised]

/-- A raise withdrawn where there is room: its phase is WAITING and the entry HELD at the held amount (R91). -/
theorem withdrawRaise_spec {x : Raise} (raised : (own r s).raise = some x) (room : s.lnu.queue.length < 8)
    (inside : 1 ≤ (setting s).station ∧ (setting s).station ≤ 24) :
    own r (withdrawRaise r s) =
      { own r s with raise := some { x with phase := .waiting }, settle := none, refreshOwed := false } ∧
    (entryAt r (setting s).station (withdrawRaise r s)).map Holding.share = some (.held (own r s).held) := by
  rw [withdrawRaise_of_some raised]
  generalize written : setEntry r (setting s).station (some { share := .held (own r s).held, urgency := (own r s).urgency, age := 0 })
    (setOwn r { own r s with raise := some { x with phase := .waiting }, settle := none, refreshOwed := false } s) = w
  have queue : w.lnu.queue = s.lnu.queue := by rw [← written]; simp
  have kept : side r (emit (.reexamine r) (tellRaiseWithdrawn r (queueNotice (.claim r true) (own r s).urgency w))) = side r w := by
    rw [side_emit, side_tellRaiseWithdrawn, side_queueNotice_refresh _ (by rw [queue]; exact room)]
  rw [own_of_side kept, entryAt_of_side kept, ← written, entryAt_setEntry_same inside]
  exact ⟨by simp, rfl⟩

/-- GRANTED moves the fill state and nothing of the claims or the queue (R109). -/
theorem fillGranted_frame (s : State) :
    (fillGranted s).clu = s.clu ∧ (fillGranted s).lnu = s.lnu ∧ (fillGranted s).handOns = s.handOns := by
  unfold fillGranted setFill
  dsimp only
  (repeat' split) <;> exact ⟨rfl, rfl, rfl⟩

/-- The event of a SUPPLY claim granted with no refresh owed (R89, R109). -/
theorem supplyGranted {a : Nat} (paid : (own .supply s).refreshOwed = false) (settled : Settled s) :
    let t := event (grantOwn .supply a) s
    (own .supply t).state = .held ∧ (own .supply t).held = a ∧ own .load t = own .load s ∧
      t.lnu.queue = s.lnu.queue ∧ othersOf t = othersOf s := by
  obtain ⟨u, eq⟩ : ∃ u, grantOwn .supply a (beginEvent s) =
      payOwedRefresh .supply (emit .fillGranted (setEntry .supply (setting s).station
        (some { share := .held a, urgency := u, age := 0 })
        (setOwn .supply { own .supply s with state := .held, held := a, raise := none, settle := none } (beginEvent s)))) := ⟨_, rfl⟩
  generalize written : setEntry .supply (setting s).station (some { share := .held a, urgency := u, age := 0 })
    (setOwn .supply { own .supply s with state := .held, held := a, raise := none, settle := none } (beginEvent s)) = w at eq
  have supply : own .supply w = { own .supply s with state := .held, held := a, raise := none, settle := none } := by
    rw [← written]; simp
  have load : own .load w = own .load s := by rw [← written]; simp; rfl
  have quietly : quiet w = quiet s := by
    rw [← written]
    exact quiet_setOwnEntry .supply _ (setOwn .supply _ (beginEvent s))
  have settled_w : Settled w := by rw [← written]; exact (setEntry_handOns _ _ _ _).trans settled
  have queue : w.lnu.queue = s.lnu.queue := by rw [← written, setEntry_lnu]; rfl
  have one : grantOwn .supply a (beginEvent s) = emit .fillGranted w := by
    rw [eq]
    unfold payOwedRefresh
    refine if_neg ?_
    rw [show own .supply (emit .fillGranted w) = own .supply w from rfl, supply]
    simp [paid]
  obtain ⟨clu, lnu, hands⟩ := fillGranted_frame (follow w)
  have done := event_of_one (f := grantOwn .supply a) one settled_w (hands.trans settled_w)
  have supplies : (event (grantOwn .supply a) s).clu = w.clu := by rw [done]; exact clu
  dsimp only
  refine ⟨?_, ?_, ?_, ?_, ?_⟩
  · rw [own_of_side (side_of_clu supplies .supply), supply]
  · rw [own_of_side (side_of_clu supplies .supply), supply]
  · rw [own_of_side (side_of_clu supplies .load), load]
  · rw [done]; exact (congrArg Line.queue lnu).trans queue
  · rw [others_of_quiet (s := w) ((quiet_event _ _).trans (by rw [one]; rfl)), others_of_quiet quietly]

end

end Sys2Proof.Machine

namespace Sys2Proof.Proofs
open Sys2Proof Sys2Proof.Machine

/-- Settles O37: the two timers write one entry and hand on what leaves the entries alone. -/
theorem peerEntrySettlesAndAges : Obligations.PeerEntrySettlesAndAges := by
  intro n r h s on other entry
  have inside := inside_of_entryAt entry
  have here : entryAt r n (beginEvent s) = some h := entry
  have written : ∀ (f : State → State) (e : Option Holding), f (beginEvent s) = emit (.reexamine r) (setEntry r n e (beginEvent s)) →
      entryAt r n (event f s) = e ∧ (∀ r' m, (r', m) ≠ (r, n) → othersOf (event f s) r' m = othersOf s r' m) ∧
      (event f s).ptb = s.ptb ∧ (event f s).msu = s.msu ∧ (event f s).ilu = s.ilu := by
    intro f e eq
    have q : quiet (event f s) = quiet (setEntry r n e (beginEvent s)) := by rw [quiet_event, eq]; rfl
    obtain ⟨same, others⟩ := othersOf_setEntry (s := beginEvent s) other inside r e
    have station : setting (event f s) = setting s :=
      (setting_of_quiet q).trans (congrArg Loader.settings (station_setEntry r n e (beginEvent s)))
    refine ⟨?_, fun r' m ne => ?_, ?_, ?_, ?_⟩
    · rw [← othersOf_of_ne r (by rw [station]; exact other), others_of_quiet q, same]
    · rw [others_of_quiet q, others r' m ne]; rfl
    · rw [ptb_of_quiet q, ptb_setEntry]; rfl
    · rw [msu_of_quiet q, setEntry_msu]; rfl
    · rw [ilu_of_quiet q, ilu_setEntry]; rfl
  refine ⟨fun p o late share => ?_, fun aged => ?_⟩
  · have a : arises (.peerSettleExpiry n r) s = true := arises_and on (by simp [peerEntryIs, other, entry, settled, share])
    refine ⟨_, exec_of_arises a, ?_⟩
    refine written _ (some { h with share := .held p }) ?_
    show settlePeer r n (beginEvent s) = _
    unfold settlePeer
    rw [here]
    simp [settleHolding, share, yieldPart]
  · have a : arises (.entryAgedOut n r) s = true :=
      arises_and on (by simp [peerEntryIs, other, entry, show ageLimit s ≤ h.age from aged])
    refine ⟨_, exec_of_arises a, ?_⟩
    refine written _ none ?_
    show removeEntry r n (beginEvent s) = _
    unfold removeEntry
    rw [here]

/-- Settles O38: the sums, the re-examination and the two verdicts of the settle timer. -/
theorem ownSettleVerdict : Obligations.OwnSettleVerdict := by
  refine ⟨othersSum_eq, fun r s => ⟨rfl, settleCheck_of_settling⟩, fun r s on settles due low high => ?_⟩
  · have a : arises (.ownSettleExpiry r) s = true := arises_and on (arises_and settles (runOut_iff.mpr due))
    have same : ∀ (f : State → State), ownSettleDone r (beginEvent s) = f (beginEvent s) →
        exec (.ownSettleExpiry r) s = .next (event f s) := fun f e => (exec_of_arises a).trans (congrArg _ (event_congr e))
    have verdict : ownSettleDone r (beginEvent s) =
        (if fits r (settlingAmount r s) s = true ∨ 6 ≤ (own r s).urgency then grantOwn r (settlingAmount r s) (beginEvent s)
         else if (own r s).state = .settling then loseOwn r true (beginEvent s) else withdrawRaise r (beginEvent s)) := by
      cases r <;> rfl
    refine ⟨fun grant => ⟨same _ (verdict.trans (if_pos (grant.imp decide_eq_true id))), fun paid => ?_, fun supply paid settled => ?_⟩,
      fun exceeds meek => ⟨?_, fun settling => ?_, fun other room => ?_⟩⟩
    · obtain ⟨claim, entry⟩ := grantOwn_spec (settlingAmount r s) paid ⟨low, high⟩
      exact ⟨by rw [claim], by rw [claim], by rw [claim], by rw [claim], entry⟩
    · subst supply
      exact ⟨_, same _ (verdict.trans (if_pos (grant.imp decide_eq_true id))), supplyGranted paid settled⟩
    · have no : ¬ (fits r (settlingAmount r s) s = true ∨ 6 ≤ (own r s).urgency) := by
        simp only [fits, decide_eq_true_eq]
        omega
      have taken := verdict.trans (if_neg no)
      by_cases settling : (own r s).state = .settling
      · rw [if_pos settling] at taken ⊢
        exact same _ taken
      · rw [if_neg settling] at taken ⊢
        exact same _ taken
    · have lost := own_loseOwn r true s
      exact ⟨by rw [lost]; rfl, by rw [lost]; rfl, by rw [lost]; rfl, entryAt_loseOwn r true s⟩
    · obtain ⟨x, raised⟩ : ∃ x, (own r s).raise = some x := by
        cases e : (own r s).raise with
        | none => simp [ownSettling, e, other] at settles
        | some x => exact ⟨x, rfl⟩
      obtain ⟨claim, entry⟩ := withdrawRaise_spec raised room ⟨low, high⟩
      exact ⟨by rw [claim], by rw [claim]; rfl, entry⟩

end Sys2Proof.Proofs
end

section
/-! PROOFS. What the guard, the fault unit, the latches and the stages leave alone. -/

namespace Sys2Proof.Machine

/-! ### The guard and the fault unit -/

/-- What the guard and the fault unit leave alone: every other block but the queue and the own claims. -/
def watched (s : State) : Beside :=
  { beside s with state := { (beside s).state with ogu := .atReset, ftu := .atReset } }

/-- What the latches leave alone. -/
def latched (s : State) : Beside := { beside s with state := { (beside s).state with ilu := .atReset } }

/-- What all of these and the stages with their failures leave alone. -/
def aloof (s : State) : Beside :=
  { watched s with state := { (watched s).state with
      ilu := .atReset, odu := { s.odu with stages := .replicate 4 .atReset }, frc := { s.frc with failed := .replicate 4 false } } }

section
variable {s t : State}

theorem watched_of_beside (h : beside t = beside s) : watched t = watched s :=
  congrArg (fun b : Beside => { b with state := { b.state with ogu := .atReset, ftu := .atReset } }) h

theorem latched_of_beside (h : beside t = beside s) : latched t = latched s :=
  congrArg (fun b : Beside => { b with state := { b.state with ilu := .atReset } }) h

theorem aloof_of_watched (h : watched t = watched s) : aloof t = aloof s :=
  congrArg (fun b : Beside => { b with state := { b.state with
    ilu := .atReset, odu := { b.state.odu with stages := .replicate 4 .atReset }
    frc := { b.state.frc with failed := .replicate 4 false } } }) h

theorem aloof_of_latched (h : latched t = latched s) : aloof t = aloof s :=
  congrArg (fun b : Beside => { b with state := { b.state with
    ogu := .atReset, ftu := .atReset, ilu := .atReset, odu := { b.state.odu with stages := .replicate 4 .atReset }
    frc := { b.state.frc with failed := .replicate 4 false } } }) h

theorem flc_of_watched (h : watched t = watched s) : t.flc = s.flc := congrArg (fun b : Beside => b.state.flc) h
theorem odu_of_watched (h : watched t = watched s) : t.odu = s.odu := congrArg (fun b : Beside => b.state.odu) h
theorem frc_of_watched (h : watched t = watched s) : t.frc = s.frc := congrArg (fun b : Beside => b.state.frc) h
theorem frc_of_latched (h : latched t = latched s) : t.frc = s.frc := congrArg (fun b : Beside => b.state.frc) h
theorem odu_of_latched (h : latched t = latched s) : t.odu = s.odu := congrArg (fun b : Beside => b.state.odu) h
theorem ogu_of_latched (h : latched t = latched s) : t.ogu = s.ogu := congrArg (fun b : Beside => b.state.ogu) h
theorem flc_of_aloof (h : aloof t = aloof s) : t.flc = s.flc := congrArg (fun b : Beside => b.state.flc) h
theorem others_of_aloof (h : aloof t = aloof s) : othersOf t = othersOf s := congrArg Beside.others h
theorem position_of_aloof (h : aloof t = aloof s) : t.odu.position = s.odu.position :=
  congrArg (fun b : Beside => b.state.odu.position) h
theorem line_of_beside (h : beside t = beside s) :
    { t.lnu with queue := [], nextAge := 0 } = { s.lnu with queue := [], nextAge := 0 } :=
  congrArg (fun b : Beside => b.state.lnu) h
theorem line_of_aloof (h : aloof t = aloof s) :
    { t.lnu with queue := [], nextAge := 0 } = { s.lnu with queue := [], nextAge := 0 } :=
  congrArg (fun b : Beside => b.state.lnu) h

end

@[simp] theorem watched_blocks (s : State) (h : List HandOn) (g : Guard) (r : Reports) (f : Faults) :
    watched { s with handOns := h, ogu := g, rpu := r, ftu := f } = watched s := rfl
@[simp] theorem watched_emit (h : HandOn) (s : State) : watched (emit h s) = watched s := rfl
@[simp] theorem watched_changeSeen (s : State) : watched (changeSeen s) = watched s := rfl
@[simp] theorem watched_handField (f : KeyField) (s : State) : watched (handField f s) = watched s := rfl
@[simp] theorem watched_queueNotice (item : Outgoing) (u : Nat) (s : State) : watched (queueNotice item u s) = watched s :=
  watched_of_beside (beside_queueNotice item u s)

theorem watched_foldl {α : Type} (f : State → α → State) (h : ∀ t k, watched (f t k) = watched t) (l : List α) (s : State) :
    watched (l.foldl f s) = watched s := by
  induction l generalizing s with
  | nil => rfl
  | cons k l ih => rw [List.foldl_cons, ih, h]

@[simp] theorem watched_announceStop (s : State) : watched (announceStop s) = watched s := by
  unfold announceStop; dsimp only; simp

@[simp] theorem watched_stopOn (cause : StopCause) (s : State) : watched (stopOn cause s) = watched s := by
  unfold stopOn; dsimp only; (repeat' split) <;> simp

@[simp] theorem watched_stopOff (s : State) : watched (stopOff s) = watched s := by
  unfold stopOff; dsimp only; (repeat' split) <;> simp

@[simp] theorem watched_stopForSafeHold (s : State) : watched (stopForSafeHold s) = watched s := by
  unfold stopForSafeHold; dsimp only; (repeat' split) <;> simp

@[simp] theorem watched_announceHold (c : FaultCode) (s : State) : watched (announceHold c s) = watched s := by
  unfold announceHold; (repeat' split) <;> simp

@[simp] theorem watched_enterSafeHold (s : State) : watched (enterSafeHold s) = watched s := by
  unfold enterSafeHold; simp only [watched_stopForSafeHold, watched_blocks, watched_queueNotice]

@[simp] theorem watched_enterFault (c : FaultCode) (s : State) : watched (enterFault c s) = watched s := by
  unfold enterFault; dsimp only; (repeat' split) <;> simp

@[simp] theorem watched_leaveFault (c : FaultCode) (s : State) : watched (leaveFault c s) = watched s := by
  unfold leaveFault; dsimp only; (repeat' split) <;> simp

@[simp] theorem watched_raiseCondition (c : FaultCode) (s : State) : watched (raiseCondition c s) = watched s := by
  unfold raiseCondition; dsimp only; (repeat' split) <;> simp

@[simp] theorem watched_clearCondition (c : FaultCode) (s : State) : watched (clearCondition c s) = watched s := by
  unfold clearCondition; dsimp only; (repeat' split) <;> simp

@[simp] theorem watched_setCondition (c : FaultCode) (present : Bool) (s : State) : watched (setCondition c present s) = watched s := by
  unfold setCondition; (repeat' split) <;> simp

@[simp] theorem watched_ackCode (c : FaultCode) (s : State) : watched (ackCode c s) = watched s := by
  unfold ackCode; dsimp only; (repeat' split) <;> simp

@[simp] theorem watched_ackFaults (s : State) : watched (ackFaults s) = watched s := by
  unfold ackFaults; exact watched_foldl _ (fun t k => by simp) _ _

@[simp] theorem watched_setGuard (g : GuardState) (s : State) : watched (setGuard g s) = watched s := by
  unfold setGuard; dsimp only; simp

@[simp] theorem watched_endDemand (s : State) : watched (endDemand s) = watched s := by
  unfold endDemand; (repeat' split) <;> simp

@[simp] theorem watched_announceSpill (s : State) : watched (announceSpill s) = watched s := by
  unfold announceSpill; dsimp only; simp

@[simp] theorem watched_enterSpill (s : State) : watched (enterSpill s) = watched s := by
  unfold enterSpill; dsimp only; simp

@[simp] theorem watched_enterCut (s : State) : watched (enterCut s) = watched s := by
  unfold enterCut; dsimp only; simp

@[simp] theorem watched_enterShut (s : State) : watched (enterShut s) = watched s := by
  unfold enterShut; dsimp only; simp

@[simp] theorem watched_shutToWatch (s : State) : watched (shutToWatch s) = watched s := by
  unfold shutToWatch; dsimp only; simp

@[simp] theorem watched_holdToWatch (s : State) : watched (holdToWatch s) = watched s := by
  unfold holdToWatch; dsimp only; (repeat' split) <;> simp

@[simp] theorem watched_calmUrgency (s : State) : watched (calmUrgency s) = watched s := by
  unfold calmUrgency; dsimp only; (repeat' split) <;> simp

@[simp] theorem watched_leaveSpill (s : State) : watched (leaveSpill s) = watched s := by
  unfold leaveSpill; dsimp only; (repeat' split) <;> simp

theorem watched_guardMove {ovfOnset : Bool} {s t : State} (h : guardMove ovfOnset s = some t) : watched t = watched s := by
  unfold guardMove at h
  (repeat' split at h) <;> first | (injection h with h; subst h; simp) | cases h

@[simp] theorem watched_guardPass (x0 : Nat) (s : State) : watched (guardPass x0 s) = watched s := by
  induction x0 generalizing s with
  | zero => rfl
  | succ n ih =>
    unfold guardPass; split
    · rfl
    · rw [ih]; exact watched_guardMove (by assumption)

@[simp] theorem watched_guardExamine (ovfOnset : Bool) (s : State) : watched (guardExamine ovfOnset s) = watched s := by
  unfold guardExamine; split
  · rfl
  · rw [watched_guardPass]; exact watched_guardMove (by assumption)

@[simp] theorem watched_guardSample (s : State) : watched (guardSample s) = watched s := by
  unfold guardSample; dsimp only; (repeat' split) <;> simp

@[simp] theorem watched_strokeExpires (s : State) : watched (strokeExpires s) = watched s := by
  unfold strokeExpires; dsimp only; simp

@[simp] theorem watched_leakCheck (s : State) : watched (leakCheck s) = watched s := by
  unfold leakCheck; dsimp only; (repeat' split) <;> simp

@[simp] theorem watched_floatCheck (s : State) : watched (floatCheck s) = watched s := by
  unfold floatCheck; dsimp only; (repeat' split) <;> simp

@[simp] theorem watched_reofferOwed (s : State) : watched (reofferOwed s) = watched s := by
  unfold reofferOwed; dsimp only; (repeat' split) <;> simp

@[simp] theorem watched_guardMinute (s : State) : watched (guardMinute s) = watched s := by
  unfold guardMinute; simp

@[simp] theorem watched_examineConfirmation (s : State) : watched (examineConfirmation s) = watched s := by
  unfold examineConfirmation; dsimp only; (repeat' split) <;> simp

@[simp] theorem watched_stopSent (on : Bool) (cause : Nat) (s : State) : watched (stopSent on cause s) = watched s := by
  unfold stopSent; dsimp only; (repeat' split) <;> simp

@[simp] theorem watched_spillAlarmSent (set : Bool) (s : State) : watched (spillAlarmSent set s) = watched s := by
  unfold spillAlarmSent; dsimp only; (repeat' split) <;> simp

@[simp] theorem watched_confirmExpires (s : State) : watched (confirmExpires s) = watched s := by
  unfold confirmExpires; dsimp only; simp

/-! ### The latches -/

@[simp] theorem latched_blocks (s : State) (h : List HandOn) (i : Inputs) (r : Reports) :
    latched { s with handOns := h, ilu := i, rpu := r } = latched s := rfl
@[simp] theorem latched_changeSeen (s : State) : latched (changeSeen s) = latched s := rfl
@[simp] theorem latched_handField (f : KeyField) (s : State) : latched (handField f s) = latched s := rfl
@[simp] theorem latched_queueNotice (item : Outgoing) (u : Nat) (s : State) : latched (queueNotice item u s) = latched s :=
  latched_of_beside (beside_queueNotice item u s)

@[simp] theorem latched_announceLatch (l : Latch) (s : State) : latched (announceLatch l s) = latched s := by
  unfold announceLatch; simp

@[simp] theorem latched_setLatch (l : Latch) (s : State) : latched (setLatch l s) = latched s := by
  unfold setLatch; dsimp only; (repeat' split) <;> simp

@[simp] theorem latched_clearLatch (l : Latch) (s : State) : latched (clearLatch l s) = latched s := by
  unfold clearLatch; dsimp only; simp

@[simp] theorem latched_ackLatch (l : Latch) (s : State) : latched (ackLatch l s) = latched s := by
  unfold ackLatch; dsimp only; (repeat' split) <;> simp

@[simp] theorem latched_causeEnded (l : Latch) (s : State) : latched (causeEnded l s) = latched s := by
  unfold causeEnded; (repeat' split) <;> simp

@[simp] theorem latched_singleSettle (l : Latch) (now : Bool) (s : State) : latched (singleSettle l now s) = latched s := by
  unfold singleSettle; (repeat' split) <;> simp

@[simp] theorem latched_frostMember (now : Bool) (s : State) : latched (frostMember now s) = latched s := by
  unfold frostMember; dsimp only; (repeat' split) <;> simp

@[simp] theorem latched_tripMemberActive (s : State) : latched (tripMemberActive s) = latched s := by
  unfold tripMemberActive; dsimp only; (repeat' split) <;> simp

@[simp] theorem latched_tripMembersInactive (s : State) : latched (tripMembersInactive s) = latched s := by
  unfold tripMembersInactive; dsimp only; (repeat' split) <;> simp

/-! ### The stages and their failures -/

@[simp] theorem aloof_failed (s : State) (v : Vector Bool 4) (f : Faults) :
    aloof { s with frc := { s.frc with failed := v }, ftu := f } = aloof s := rfl
@[simp] theorem aloof_emit (h : HandOn) (s : State) : aloof (emit h s) = aloof s := rfl
@[simp] theorem aloof_setStage (k : Fin 4) (x : Stage) (s : State) : aloof (setStage k x s) = aloof s := rfl
@[simp] theorem aloof_raiseCondition (c : FaultCode) (s : State) : aloof (raiseCondition c s) = aloof s :=
  aloof_of_watched (watched_raiseCondition c s)
@[simp] theorem aloof_clearCondition (c : FaultCode) (s : State) : aloof (clearCondition c s) = aloof s :=
  aloof_of_watched (watched_clearCondition c s)
@[simp] theorem aloof_tripMemberActive (s : State) : aloof (tripMemberActive s) = aloof s :=
  aloof_of_latched (latched_tripMemberActive s)
@[simp] theorem aloof_tripMembersInactive (s : State) : aloof (tripMembersInactive s) = aloof s :=
  aloof_of_latched (latched_tripMembersInactive s)
@[simp] theorem aloof_ackLatch (l : Latch) (s : State) : aloof (ackLatch l s) = aloof s := aloof_of_latched (latched_ackLatch l s)

theorem aloof_foldl {α : Type} (f : State → α → State) (h : ∀ t k, aloof (f t k) = aloof t) (l : List α) (s : State) :
    aloof (l.foldl f s) = aloof s := by
  induction l generalizing s with
  | nil => rfl
  | cons k l ih => rw [List.foldl_cons, ih, h]

@[simp] theorem aloof_setFailed (v : Vector Bool 4) (s : State) : aloof (setFailed v s) = aloof s := by
  unfold setFailed; dsimp only; simp

@[simp] theorem aloof_failStage (k : Fin 4) (s : State) : aloof (failStage k s) = aloof s := by
  unfold failStage; dsimp only; simp

@[simp] theorem aloof_moveStage (k : Fin 4) (x : Stage) (s : State) : aloof (moveStage k x s) = aloof s := by
  unfold moveStage; simp

@[simp] theorem aloof_commandStage (k : Fin 4) (on : Bool) (s : State) : aloof (commandStage k on s) = aloof s := by
  unfold commandStage; dsimp only; (repeat' split) <;> simp

@[simp] theorem aloof_feedbackSettles (k : Fin 4) (now : Bool) (s : State) : aloof (feedbackSettles k now s) = aloof s := by
  unfold feedbackSettles; dsimp only; (repeat' split) <;> simp

@[simp] theorem aloof_proofExpires (k : Fin 4) (s : State) : aloof (proofExpires k s) = aloof s := by
  unfold proofExpires; dsimp only; (repeat' split) <;> simp

@[simp] theorem aloof_restoreStage (k : Fin 4) (s : State) : aloof (restoreStage k s) = aloof s := by
  unfold restoreStage; (repeat' split) <;> simp

@[simp] theorem aloof_stageHealth (s : State) : aloof (stageHealth s) = aloof s := by
  unfold stageHealth; dsimp only; split
  · rw [aloof_emit, aloof_foldl _ (fun t k => by split <;> simp), aloof_tripMembersInactive,
      aloof_foldl _ (fun t k => by simp)]; simp
  · rfl

@[simp] theorem aloof_ackLatches (ls : List Latch) (s : State) : aloof (ackLatches ls s) = aloof s := by
  have h := aloof_foldl (fun t l => ackLatch l t) (fun t l => by simp) ls s
  unfold ackLatches; dsimp only; split
  · rw [aloof_stageHealth, h]
  · exact h

end Sys2Proof.Machine
end

section
/-! PROOFS. Notices heard and stations lost: the peer table's records, capacity and summary bits, the line, and the entries of others. -/

namespace Sys2Proof.Machine

/-! ### The line and the entries of others -/

/-- The line without the queue, and the entries of other stations. -/
def wire (s : State) : Line × (Resource → Nat → Option Holding) := ({ s.lnu with queue := [], nextAge := 0 }, othersOf s)

section
variable {s t : State}

theorem wire_of_quiet (h : quiet t = quiet s) : wire t = wire s := congrArg (fun q : Quiet => (q.line, q.others)) h
theorem wire_of_beside (h : beside t = beside s) : wire t = wire s := congrArg (fun b : Beside => (b.state.lnu, b.others)) h
theorem wire_of_watched (h : watched t = watched s) : wire t = wire s := congrArg (fun b : Beside => (b.state.lnu, b.others)) h
theorem wire_of_aloof (h : aloof t = aloof s) : wire t = wire s := congrArg (fun b : Beside => (b.state.lnu, b.others)) h
theorem lineState_of_wire (h : wire t = wire s) : t.lnu.state = s.lnu.state := congrArg (fun w => w.1.state) h
theorem others_of_wire (h : wire t = wire s) : othersOf t = othersOf s := congrArg Prod.snd h

end

@[simp] theorem wire_ptb (s : State) (p : Peers) : wire { s with ptb := p } = wire s := rfl
@[simp] theorem wire_flc (s : State) (f : Fill) : wire { s with flc := f } = wire s := rfl
@[simp] theorem wire_frc (s : State) (f : Frost) : wire { s with frc := f } = wire s := rfl
@[simp] theorem wire_emit (h : HandOn) (s : State) : wire (emit h s) = wire s := rfl
@[simp] theorem wire_changeSeen (s : State) : wire (changeSeen s) = wire s := rfl
@[simp] theorem wire_handField (f : KeyField) (s : State) : wire (handField f s) = wire s := rfl
@[simp] theorem wire_setPeer (n : Nat) (p : Peer) (s : State) : wire (setPeer n p s) = wire s := by
  unfold setPeer; split <;> rfl
@[simp] theorem wire_takeCapacity (before : Nat) (s : State) : wire (takeCapacity before s) = wire s :=
  wire_of_beside (beside_takeCapacity before s)
@[simp] theorem wire_reliefStart (s : State) : wire (reliefStart s) = wire s := wire_of_quiet (quiet_reliefStart s)
@[simp] theorem wire_reliefEnd (s : State) : wire (reliefEnd s) = wire s := wire_of_quiet (quiet_reliefEnd s)
@[simp] theorem wire_planStep (s : State) : wire (planStep s) = wire s := wire_of_quiet (quiet_planStep s)
@[simp] theorem wire_handUrgency (s : State) : wire (handUrgency s) = wire s := wire_of_quiet (quiet_handUrgency s)
@[simp] theorem wire_replan (b : Bool) (s : State) : wire (replan b s) = wire s := wire_of_quiet (quiet_replan b s)
@[simp] theorem wire_setFill (new : FillState) (s : State) : wire (setFill new s) = wire s := wire_of_quiet (quiet_setFill new s)
@[simp] theorem wire_fillFollows (s : State) : wire (fillFollows s) = wire s := wire_of_quiet (quiet_fillFollows s)
@[simp] theorem wire_frostEvaluate (s : State) : wire (frostEvaluate s) = wire s := wire_of_quiet (quiet_frostEvaluate s)
@[simp] theorem wire_queueNotice (item : Outgoing) (u : Nat) (s : State) : wire (queueNotice item u s) = wire s :=
  wire_of_beside (beside_queueNotice item u s)
@[simp] theorem wire_examineConfirmation (s : State) : wire (examineConfirmation s) = wire s :=
  wire_of_watched (watched_examineConfirmation s)
@[simp] theorem wire_guardExamine (b : Bool) (s : State) : wire (guardExamine b s) = wire s :=
  wire_of_watched (watched_guardExamine b s)
@[simp] theorem wire_ackFaults (s : State) : wire (ackFaults s) = wire s := wire_of_watched (watched_ackFaults s)
@[simp] theorem wire_ackLatches (ls : List Latch) (s : State) : wire (ackLatches ls s) = wire s := wire_of_aloof (aloof_ackLatches ls s)

@[simp] theorem wire_frostJudge (s : State) : wire (frostJudge s) = wire s := by
  unfold frostJudge; dsimp only; split <;> simp

@[simp] theorem wire_setPeriod (night : Bool) (e : Nat) (s : State) : wire (setPeriod night e s) = wire s := by
  unfold setPeriod; dsimp only; split <;> simp

@[simp] theorem wire_dayEndsTariff (s : State) : wire (dayEndsTariff s) = wire s := by
  unfold dayEndsTariff; split <;> simp

@[simp] theorem wire_tariffChange (s : State) : wire (tariffChange s) = wire s := by
  unfold tariffChange; dsimp only; split <;> simp

@[simp] theorem wire_takePeriod (night : Bool) (e : Nat) (s : State) : wire (takePeriod night e s) = wire s := by
  unfold takePeriod; split <;> simp

@[simp] theorem wire_tariffHeard (night : Bool) (e : Nat) (s : State) : wire (tariffHeard night e s) = wire s := by
  unfold tariffHeard; split <;> simp

@[simp] theorem wire_takeAck (target bits : Nat) (faults : Bool) (s : State) : wire (takeAck target bits faults s) = wire s := by
  unfold takeAck; dsimp only; (repeat' split) <;> simp

@[simp] theorem wire_updateCapacity (s : State) : wire (updateCapacity s) = wire s := by unfold updateCapacity; simp

@[simp] theorem wire_updateSummary (s : State) : wire (updateSummary s) = wire s := by
  unfold updateSummary; dsimp only; (repeat' split) <;> simp

@[simp] theorem wire_peersChanged (s : State) : wire (peersChanged s) = wire s := by unfold peersChanged; simp

@[simp] theorem wire_hearSender (n : Nat) (role : Role) (s : State) : wire (hearSender n role s) = wire s := by simp [hearSender]

@[simp] theorem wire_writePeer (h : Heard) (s : State) : wire (writePeer h s) = wire s := by
  unfold writePeer; dsimp only; (repeat' split) <;> simp

/-! ### Capacity and summary bits (R67, R68) -/

/-- The records with their figures computed anew. -/
def summed (s : State) : Peers :=
  let s1 := { s with ptb := { s.ptb with capacity := capacityNow s } }
  { s.ptb with
    capacity := capacityNow s, anySpill := anySpillNow s, supplyAbsent := supplyAbsentNow s1, alone := aloneNow s }

theorem records_summed (s : State) : (summed s).records = s.ptb.records := rfl

theorem ptb_reliefs (s : State) : (reliefEnd (reliefStart (handField .peerSpill s))).ptb = s.ptb := by simp

theorem ptb_peersChanged (s : State) : (peersChanged s).ptb = summed s := by
  have capacity : (updateCapacity s).ptb = { s.ptb with capacity := capacityNow s } := by unfold updateCapacity; simp
  have summary : ∀ t : State, (updateSummary t).ptb =
      { t.ptb with anySpill := anySpillNow t, supplyAbsent := supplyAbsentNow t, alone := aloneNow t } := by
    intro t
    unfold updateSummary
    dsimp only
    (repeat' split) <;> simp
  unfold peersChanged
  rw [summary]
  simp only [anySpillNow, supplyAbsentNow, supplyHeard, aloneNow, capacity]
  rfl

theorem peersSummed_of_summed {s t : State} (h : t.ptb = summed s) : PeersSummed t := by
  have records : t.ptb.records = s.ptb.records := by rw [h]; rfl
  unfold PeersSummed
  rw [records]
  have capacity : t.ptb.capacity = capacityNow s := by rw [h]; rfl
  refine ⟨capacity, ?_, ?_, ?_⟩
  · rw [h]
    show anySpillNow s = true ↔ _
    simp only [anySpillNow, List.any_eq_true, Bool.and_eq_true, beq_iff_eq]
  · rw [h]
    show (supplyHeard s).isEmpty || capacityNow s == 0 ↔ _
    simp only [supplyHeard, Bool.or_eq_true, List.isEmpty_iff, List.filter_eq_nil_iff, Bool.and_eq_true, beq_iff_eq, summed]
  · rw [h]
    show aloneNow s = true ↔ _
    simp only [aloneNow, Bool.not_eq_true', List.any_eq_false, beq_iff_eq, ne_eq]

/-! ### A station lost (R63, R80) -/

theorem inside_of_peerAt {n : Nat} {s : State} (h : (peerAt n s).state = .heard) : 1 ≤ n ∧ n ≤ 24 := by
  unfold peerAt at h
  split at h
  next inside => exact inside
  next => cases h

theorem peerAt_of_records {n : Nat} {s t : State} (h : t.ptb.records = s.ptb.records) : peerAt n t = peerAt n s := by
  unfold peerAt; rw [h]

theorem othersOf_setEntry_ne {r r' : Resource} {n m : Nat} (ne : (r', m) ≠ (r, n)) (e : Option Holding) (s : State) :
    othersOf (setEntry r n e s) r' m = othersOf s r' m := by
  have station : setting (setEntry r n e s) = setting s := congrArg Loader.settings (station_setEntry r n e s)
  unfold othersOf
  rw [station]
  split
  · rfl
  · by_cases same : m = n
    · subst same
      have side : r' ≠ r := fun h => ne (by rw [h])
      cases r <;> cases r' <;> first | exact absurd rfl side | (unfold setEntry entryAt; split <;> rfl)
    · exact entryAt_setEntry_of_ne same r' r e s

/-- An entry removed is gone, and no other entry moves (R80). -/
theorem othersOf_removeEntry (r : Resource) (n : Nat) (s : State) :
    othersOf (removeEntry r n s) r n = none ∧
    ∀ r' m, (r', m) ≠ (r, n) → othersOf (removeEntry r n s) r' m = othersOf s r' m := by
  unfold removeEntry
  split
  next absent =>
    refine ⟨?_, fun _ _ _ => rfl⟩
    unfold othersOf
    split
    · rfl
    · exact absent
  next h found =>
    refine ⟨?_, fun r' m ne => ?_⟩
    · by_cases me : n = (setting s).station
      · exact if_pos (me.trans (congrArg Settings.station (congrArg Loader.settings (station_setEntry r n none s)).symm))
      · exact (othersOf_setEntry me (inside_of_entryAt found) r none).1
    · exact (congrFun (congrFun (others_of_wire (wire_emit _ _)) r') m).trans (othersOf_setEntry_ne ne none s)

/-! ### What an event leaves of the other blocks -/

theorem msu_taken {c : Instr} {s : State} (a : arises c s = true) (load : ∀ b, c ≠ .loadAttemptDone b)
    (second : ∀ p w r x, c ≠ .secondEvent p w r x) (minute : c ≠ .minuteMark) :
    (event (effect c) (contactMoved c s)).msu = s.msu :=
  (msu_of_steady (steady_event _ _)).trans (msu_effect load second minute a)

theorem ilu_taken {c : Instr} (h : reachesInputs c = false) (s : State) :
    (event (effect c) (contactMoved c s)).ilu = s.ilu :=
  ((ilu_event _ _).trans (ilu_effect h _)).trans (by cases c <;> rfl)

theorem ptb_taken {c : Instr} (h : reachesPeers c = false) (s : State) :
    (event (effect c) (contactMoved c s)).ptb = s.ptb :=
  ((ptb_event _ _).trans (ptb_effect h _)).trans (by cases c <;> rfl)

theorem wire_event (f : State → State) (s : State) : wire (event f s) = wire (f (beginEvent s)) := wire_of_quiet (quiet_event f s)

/-- Without the two entries of one station, the entries are those of the others. -/
theorem others_forgotten (n : Nat) (s : State) :
    let t := removeEntry .load n (removeEntry .supply n s)
    (∀ r, othersOf t r n = none) ∧ ∀ r m, m ≠ n → othersOf t r m = othersOf s r m := by
  obtain ⟨supplyGone, supplyRest⟩ := othersOf_removeEntry .supply n s
  obtain ⟨loadGone, loadRest⟩ := othersOf_removeEntry .load n (removeEntry .supply n s)
  refine ⟨fun r => ?_, fun r m ne => ?_⟩
  · cases r with
    | supply => exact (loadRest .supply n (by simp)).trans supplyGone
    | load => exact loadGone
  · exact (loadRest r m (by simp [ne])).trans (supplyRest r m (by simp [ne]))

theorem ptb_losePeer (n : Nat) (s : State) :
    ∃ t, (losePeer n s).ptb = summed t ∧ t.ptb = (setPeer n (lostPeer (peerAt n s)) s).ptb ∧
      wire (losePeer n s) = wire t ∧ t = removeEntry .load n (removeEntry .supply n (setPeer n (lostPeer (peerAt n s)) s)) := by
  refine ⟨_, ?_, ?_, ?_, rfl⟩
  · unfold losePeer; dsimp only; split <;> simp [ptb_peersChanged]
  · simp
  · unfold losePeer; dsimp only; split <;> simp

/-! ### A notice heard (R43, R62 to R67) -/

/-- A notice that passes every check is from a station of the line (R42). -/
theorem station_of_readNotice {chars : List Byte} {h : Heard} (k : readNotice chars = .ok h) : 1 ≤ h.station ∧ h.station ≤ 24 := by
  unfold readNotice at k
  dsimp only at k
  split at k
  next => cases k
  split at k
  next => cases k
  split at k
  next => cases k
  split at k
  next => cases k
  next none24 =>
    split at k
    next => cases k
    split at k
    next => cases k
    next =>
      cases k
      exact ⟨Nat.pos_of_ne_zero (fun z => none24 (.inl z)), Nat.le_of_not_lt (fun z => none24 (.inr z))⟩

theorem arises_of_heardAs {chars : List Byte} {h : Heard} {s : State} (on : loaded s = true) (k : HeardAs chars h s) :
    arises (.noticeHeard chars) s = true := Bool.and_eq_true_iff.mpr ⟨on, k.1⟩

theorem effect_heardPeer {chars : List Byte} {h : Heard} {s : State} (on : active s = true) (k : HeardAs chars h s)
    (other : h.station ≠ (setting s).station) : effect (.noticeHeard chars) (beginEvent s) = heardPeer h (beginEvent s) := by
  have on' : active (beginEvent s) = true := on
  have other' : h.station ≠ (setting (beginEvent s)).station := other
  simp [effect, noticeCompleted, k.2, heardValid, on', other']

theorem effect_heardDuplicate {chars : List Byte} {h : Heard} {s : State} (on : active s = true) (k : HeardAs chars h s)
    (mine : h.station = (setting s).station) : effect (.noticeHeard chars) (beginEvent s) = heardDuplicate h (beginEvent s) := by
  have on' : active (beginEvent s) = true := on
  have mine' : h.station = (setting (beginEvent s)).station := mine
  simp [effect, noticeCompleted, k.2, heardValid, on', mine']

/-- The state in which the block of the kind takes the notice. -/
def heardBefore (h : Heard) (s : State) : State := writePeer h (hearSender h.station h.role (lineAfterHeard s))

theorem ptb_heardPeer (h : Heard) (s : State) : (heardPeer h s).ptb = summed (heardBefore h s) := by
  unfold heardPeer; rw [ptb_handOn, ptb_peersChanged]; rfl

/-- What the record becomes: what the kind and the role say (R64 to R67). -/
def written (h : Heard) (p : Peer) : Peer :=
  match h.role, h.content with
  | .tower, .report level g stop => reportRecord level g stop p
  | .tower, .alarm code set => alarmRecord code set p
  | .tower, .stop on cause => stopRecord on cause p
  | .tower, .trip => tripRecord p
  | .supply, .supply slots pumps honoured => supplyRecord slots pumps honoured p
  | _, _ => p

theorem peerAt_writePeer {h : Heard} (inside : 1 ≤ h.station ∧ h.station ≤ 24) (s : State) :
    peerAt h.station (writePeer h s) = written h (peerAt h.station s) := by
  obtain ⟨u, n, role, content⟩ := h
  cases role <;> cases content <;> first
    | rfl
    | exact peerAt_setPeer_same inside _ _

theorem peerAt_writePeer_ne {h : Heard} {n : Nat} (ne : n ≠ h.station) (s : State) : peerAt n (writePeer h s) = peerAt n s := by
  unfold writePeer
  dsimp only
  split <;> (try split) <;> first
    | rfl
    | exact peerAt_setPeer_ne (Ne.symm ne) _ _

/-- The line after the block of the kind: a ROLLCALL is followed by the answer wait, no other kind moves it (R43, R56). -/
theorem line_claimHeard (r : Resource) (refresh : Bool) (n a u : Nat) (s : State) :
    (wire (claimHeard r refresh n a u s)).1 = (wire s).1 := by
  have entered : ∀ (e : Option Holding) (t : State), (wire (setEntry r n e t)).1 = (wire t).1 := by
    intro e t; simp [wire]
  have acted : ∀ {x y : State}, beside x = beside y → (wire x).1 = (wire y).1 := fun h => congrArg Prod.fst (wire_of_beside h)
  unfold claimHeard
  split
  · unfold removeEntry
    split
    · rfl
    · exact entered none s
  · split
    · exact entered _ s
    · refine Eq.trans (b := (wire (enterInitial r n a u s)).1) (acted ?_) (entered _ s)
      unfold initialHeard
      dsimp only
      split <;> simp

theorem lineState_handOn (h : Heard) (s : State) :
    (handOn h s).lnu.state = if isRollcall h.content then .answerWait else s.lnu.state := by
  obtain ⟨u, n, role, content⟩ := h
  have keeps : ∀ {t : State}, (wire t).1 = (wire s).1 → t.lnu.state = s.lnu.state :=
    fun {t} e => (congrArg Line.state e : (wire t).1.state = (wire s).1.state)
  cases content with
  | claim r a refresh => exact keeps (line_claimHeard r refresh n a u s)
  | release r =>
    refine keeps ?_
    show (wire (removeEntry r n s)).1 = _
    unfold removeEntry
    split
    · rfl
    · simp [wire]
  | tariff night e => exact keeps (congrArg Prod.fst (wire_tariffHeard night e s))
  | supply a b c =>
    refine keeps ?_
    show (wire (if role = .supply then examineConfirmation s else s)).1 = _
    split <;> simp
  | ack target bits faults =>
    refine keeps ?_
    show (wire (if role = .gateway then takeAck target bits faults s else s)).1 = _
    split <;> simp
  | report | alarm | stop | rollcall | trip => rfl

theorem lineState_heardPeer (h : Heard) (s : State) :
    (heardPeer h s).lnu.state = if isRollcall h.content then .answerWait else .gap := by
  unfold heardPeer
  rw [lineState_handOn, lineState_of_wire (wire_peersChanged _), lineState_of_wire (wire_writePeer _ _),
    lineState_of_wire (wire_hearSender _ _ _)]
  rfl

end Sys2Proof.Machine

namespace Sys2Proof.Proofs
open Sys2Proof Sys2Proof.Machine

/-- Settles O36: the record is the LOST one, both entries go, and the figures are those of the records. -/
theorem peerLostIsForgotten : Obligations.PeerLostIsForgotten := by
  intro n s on heard silence
  have inside := inside_of_peerAt heard
  have a : arises (.peerLost n) s = true := arises_and on (by simp [silent, heard, silence])
  refine ⟨_, exec_of_arises a, ?_⟩
  obtain ⟨t, sums, table, line, forgotten⟩ := ptb_losePeer n (beginEvent s)
  have peers : (event (effect (.peerLost n)) (contactMoved (.peerLost n) s)).ptb = summed t := (ptb_event _ _).trans sums
  have records : (event (effect (.peerLost n)) (contactMoved (.peerLost n) s)).ptb.records =
      (setPeer n (lostPeer (peerAt n (beginEvent s))) (beginEvent s)).ptb.records := by
    exact (congrArg Peers.records peers).trans ((records_summed t).trans (congrArg Peers.records table))
  obtain ⟨gone, rest⟩ := others_forgotten n (setPeer n (lostPeer (peerAt n (beginEvent s))) (beginEvent s))
  rw [← forgotten] at gone rest
  have entries : othersOf (event (effect (.peerLost n)) (contactMoved (.peerLost n) s)) = othersOf t :=
    others_of_wire ((wire_event _ _).trans line)
  refine ⟨?_, fun m ne => ?_, peersSummed_of_summed peers, fun r => ?_, fun r m ne => ?_,
    msu_taken a (by simp) (by simp) (by simp), ilu_taken rfl s⟩
  · rw [peerAt_of_records records, peerAt_setPeer_same inside]; rfl
  · rw [peerAt_of_records records, peerAt_setPeer_ne (Ne.symm ne)]; rfl
  · rw [entries]; exact gone r
  · rw [entries, rest r m ne]
    exact congrFun (congrFun (others_of_wire (wire_setPeer _ _ _)) r) m

/-- Settles O32: the record is the written one, and the figures are those of the records. -/
theorem peerNoticeWritesRecord : Obligations.PeerNoticeWritesRecord := by
  intro chars h s on heard other
  have a := arises_of_heardAs (loaded_of_active on) heard
  have inside := station_of_readNotice heard.2
  refine ⟨_, exec_of_arises a, ?_⟩
  generalize taken : event (effect (.noticeHeard chars)) (contactMoved (.noticeHeard chars) s) = t
  have peers : t.ptb = summed (heardBefore h (beginEvent s)) := by
    rw [← taken, ptb_event]
    exact (congrArg State.ptb (effect_heardPeer on heard other)).trans (ptb_heardPeer h _)
  have records : t.ptb.records = (heardBefore h (beginEvent s)).ptb.records := (congrArg Peers.records peers).trans (records_summed _)
  have line : t.lnu.state = if isRollcall h.content then .answerWait else .gap := by
    rw [← taken, lineState_of_wire (wire_event _ _)]
    exact (congrArg (fun x : State => x.lnu.state) (effect_heardPeer on heard other)).trans (lineState_heardPeer h _)
  obtain ⟨_, _, _, pins, _⟩ := commandsKeepOtherBlocks _ _ _ (taken ▸ exec_of_arises a) (by simp) (by simp) (by simp)
  refine ⟨?_, ⟨rfl, rfl, rfl⟩, fun n ne => ?_, peersSummed_of_summed peers, line, ?_, pins (by simp)⟩
  · rw [peerAt_of_records records]
    refine (peerAt_writePeer inside _).trans ((congrArg (written h) (peerAt_setPeer_same inside _ _)).trans ?_)
    obtain ⟨u, n, role, content⟩ := h
    cases role with
    | gateway => rfl
    | supply => cases content <;> rfl
    | tower =>
      cases content with
      | report level g stop =>
        have spill : ∀ p : Peer, (if g = 5 then p.spill else false) = (p.spill && g == 5) := by
          intro p; by_cases five : g = 5 <;> simp [five]
        simp only [written, reportRecord, spill]
        rfl
      | alarm code set =>
        have alarm : ∀ p : Peer, (if set = true then true else p.alarm) = (p.alarm || set) := by
          intro p; cases set <;> simp
        simp only [written, alarmRecord, alarm]
        rfl
      | _ => rfl
  · rw [peerAt_of_records records]
    exact (peerAt_writePeer_ne ne _).trans (peerAt_setPeer_ne (Ne.symm ne) _ _)
  · rw [← taken]; exact msu_taken a (by simp) (by simp) (by simp)

end Sys2Proof.Proofs
end

section
/-! PROOFS. What the queue does to an own claim, and the CLAIM and RELEASE notices heard: entries, yields and objections. -/

namespace Sys2Proof.Machine

/-! ### What the queue does to an own claim (R55, R92) -/

/-- An own claim with its entry. -/
def standing (r : Resource) (s : State) : OwnClaim × Option Holding := (own r s, entryAt r (setting s).station s)

/-- What the drops of the queue can make of a claim: it waits again, its raise waits again, or it is lost with its entry. -/
inductive Sinks (x : OwnClaim × Option Holding) : OwnClaim × Option Holding → Prop where
  | refl : Sinks x x
  | waits {c : OwnClaim} {e : Option Holding} : Sinks x (c, e) → c.state = .announcing → Sinks x ({ c with state := .waiting }, e)
  | raiseWaits {c : OwnClaim} {e : Option Holding} {y : Raise} : Sinks x (c, e) → c.raise = some y → y.phase = .announcing →
      Sinks x ({ c with raise := some { y with phase := .waiting } }, e)
  | lost {c : OwnClaim} {e : Option Holding} : Sinks x (c, e) → c.state = .held → Sinks x (lostRecord c, none)

section
variable {r r' : Resource} {s t : State} {x : OwnClaim × Option Holding}

theorem own_of_standing (h : standing r t = standing r s) : own r t = own r s := congrArg Prod.fst h

theorem standing_of_side (settings : setting t = setting s) (h : side r t = side r s) : standing r t = standing r s := by
  unfold standing
  rw [own_of_side h, entryAt_of_side h, settings]

theorem standing_of_clu (settings : setting t = setting s) (h : t.clu = s.clu) (r : Resource) : standing r t = standing r s :=
  standing_of_side settings (side_of_clu h r)

theorem setting_setOwn (r : Resource) (c : OwnClaim) (s : State) : setting (setOwn r c s) = setting s := by cases r <;> rfl

theorem standing_setOwn_ne (h : r' ≠ r) (c : OwnClaim) (s : State) : standing r (setOwn r' c s) = standing r s :=
  standing_of_side (setting_setOwn r' c s) (side_setOwn_ne h c s)

theorem standing_setOwn (r : Resource) (c : OwnClaim) (s : State) :
    standing r (setOwn r c s) = (c, entryAt r (setting s).station s) := by
  unfold standing
  rw [own_setOwn_same, setting_setOwn, entryAt_setOwn]

theorem standing_setEntry_ne (h : r' ≠ r) (n : Nat) (e : Option Holding) (s : State) :
    standing r (setEntry r' n e s) = standing r s :=
  standing_of_side (congrArg Loader.settings (station_setEntry r' n e s)) (side_setEntry_ne h n e s)

theorem standing_dropOwnEntry (r : Resource) (s : State) : standing r (dropOwnEntry r s) = (own r s, none) := by
  have station : setting (dropOwnEntry r s) = setting s := congrArg Loader.settings (station_setEntry r _ none s)
  unfold standing
  rw [station]
  unfold dropOwnEntry
  rw [own_setEntry]
  by_cases h : 1 ≤ (setting s).station ∧ (setting s).station ≤ 24
  · rw [entryAt_setEntry_same h]
  · unfold entryAt; rw [dif_neg h]

theorem sinks_of_standing (e : standing r t = standing r s) (h : Sinks x (standing r s)) : Sinks x (standing r t) := by
  rw [e]; exact h

theorem sinks_claimBackToWaiting (r' : Resource) (h : Sinks x (standing r s)) :
    Sinks x (standing r (claimBackToWaiting r' s)) := by
  by_cases same : r' = r
  · subst same
    unfold claimBackToWaiting
    dsimp only
    split
    next announcing => rw [standing_setOwn]; exact h.waits announcing
    next =>
      split
      next y raised =>
        split
        next announcing => rw [standing_setOwn]; exact h.raiseWaits raised announcing
        next => exact h
      next => exact h
  · unfold claimBackToWaiting
    dsimp only
    (repeat' split) <;> simpa [standing_setOwn_ne same] using h

/-- A held claim given up is lost, and the other claim goes as the RELEASE lets it. -/
theorem sinks_giveUp {release : State → State}
    (keeps : ∀ {t}, Sinks x (standing r t) → Sinks x (standing r (release t))) (r' : Resource)
    (held : (own r' s).state = .held) (h : Sinks x (standing r s)) : Sinks x (standing r (giveUp release r' s)) := by
  unfold giveUp
  have told : ∀ t, standing r (emit (.reexamine r') (tellLost r' t)) = standing r t := by intro t; cases r' <;> rfl
  refine sinks_of_standing (told _) (keeps ?_)
  by_cases same : r' = r
  · subst same
    rw [standing_dropOwnEntry, own_setOwn_same]
    exact Sinks.lost (e := entryAt r' (setting s).station s) h held
  · refine sinks_of_standing (standing_setEntry_ne same _ none _) (sinks_of_standing (standing_setOwn_ne same _ s) h)

theorem sinks_dropNotice {release : Resource → State → State}
    (keeps : ∀ {r' t}, Sinks x (standing r t) → Sinks x (standing r (release r' t))) (item : Outgoing)
    (h : Sinks x (standing r s)) : Sinks x (standing r (dropNotice release item s)) := by
  have noted : Sinks x (standing r (noteOccurrence s)) := sinks_of_standing (standing_of_clu rfl rfl r) h
  unfold dropNotice tellDropped
  split
  next => exact sinks_of_standing (standing_of_clu rfl rfl r) noted
  next r' => exact sinks_claimBackToWaiting r' noted
  next r' =>
    split
    next held => exact sinks_giveUp keeps r' held noted
    next => exact noted
  next q =>
    have settings : setting (emit (.questionDropped q) (markIncompleteFor q (noteOccurrence s))) = setting (noteOccurrence s) := by
      unfold markIncompleteFor setIncomplete setIncompleteTimer
      split
      next r' => cases r' <;> rfl
      next => rfl
    exact sinks_of_standing (standing_of_side settings
      ((side_of_clu (s := markIncompleteFor q (noteOccurrence s)) rfl r).trans (side_markIncompleteFor q _))) noted
  all_goals exact noted

theorem sinks_queueOver (item : Outgoing) (u : Nat) (e : QueueEntry) (h : Sinks x (standing r s)) :
    Sinks x (standing r (queueOver item u e s)) := by
  unfold queueOver; (repeat' split) <;> exact sinks_of_standing (standing_of_clu rfl rfl r) h

theorem sinks_queueNew {release : Resource → State → State}
    (keeps : ∀ {r' t}, Sinks x (standing r t) → Sinks x (standing r (release r' t))) (item : Outgoing) (u : Nat)
    (h : Sinks x (standing r s)) : Sinks x (standing r (queueNew release item u s)) := by
  unfold queueNew
  split
  · exact sinks_of_standing (standing_of_clu rfl rfl r) h
  · split
    · exact sinks_dropNotice keeps item h
    · split
      · exact sinks_dropNotice keeps _ (sinks_of_standing (standing_of_clu rfl rfl r) h)
      · exact sinks_dropNotice keeps item h

theorem sinks_claimRefused (r' : Resource) (refresh : Bool) (h : Sinks x (standing r s)) :
    Sinks x (standing r (claimRefused r' refresh s)) := by
  unfold claimRefused
  (repeat' split) <;> first
    | exact h
    | exact sinks_claimBackToWaiting r' h

theorem sinks_queueWith {release : Resource → State → State}
    (keeps : ∀ {r' t}, Sinks x (standing r t) → Sinks x (standing r (release r' t))) (item : Outgoing) (u : Nat)
    (h : Sinks x (standing r s)) : Sinks x (standing r (queueWith release item u s)) := by
  have placed : Sinks x (standing r (match entryUnder (keyOf item) s.lnu.queue with
      | some e => queueOver item u e s
      | none => queueNew release item u s)) := by
    split
    next e _ => exact sinks_queueOver item u e h
    next => exact sinks_queueNew keeps item u h
  unfold queueWith
  split
  · split
    · split
      · exact sinks_claimRefused _ _ h
      · exact placed
    · exact placed
  · exact h

theorem sinks_queueRelease (n : Nat) (r' : Resource) (h : Sinks x (standing r s)) :
    Sinks x (standing r (queueRelease n r' s)) := by
  induction n generalizing r' s with
  | zero => exact h
  | succ n ih => exact sinks_queueWith (fun k => ih _ k) _ _ h

theorem sinks_queueNotice (item : Outgoing) (u : Nat) (h : Sinks x (standing r s)) :
    Sinks x (standing r (queueNotice item u s)) := sinks_queueWith (fun k => sinks_queueRelease 2 _ k) item u h

end

/-! ### Who yields (R95, R97) -/

/-- Two holders of which neither comes first are of one station. -/
theorem precedes_total {a b : Nat × Nat × Nat} (h : a.1 ≠ b.1) (n : precedes a b = false) : precedes b a = true := by
  simp only [precedes, Bool.or_eq_false_iff, Bool.and_eq_false_iff, decide_eq_false_iff_not, beq_eq_false_iff_ne, Bool.or_eq_true,
    Bool.and_eq_true, decide_eq_true_eq, beq_iff_eq] at n ⊢
  omega

theorem precedes_irrefl (a : Nat × Nat × Nat) : precedes a a = false := by simp [precedes]

theorem precedes_trans {a b c : Nat × Nat × Nat} (h : precedes a b = true) (k : precedes b c = true) : precedes a c = true := by
  simp only [precedes, Bool.or_eq_true, Bool.and_eq_true, decide_eq_true_eq, beq_iff_eq] at h k ⊢
  omega

theorem insertYield_perm (x : Nat × Nat × Nat) (l : List (Nat × Nat × Nat)) : (insertYield x l).Perm (x :: l) := by
  induction l with
  | nil => exact List.Perm.refl _
  | cons y ys ih =>
    unfold insertYield
    split
    · exact (ih.cons y).trans (List.Perm.swap x y ys)
    · exact List.Perm.refl _

theorem sortYield_perm (l : List (Nat × Nat × Nat)) : (sortYield l).Perm l := by
  induction l with
  | nil => exact List.Perm.refl _
  | cons x xs ih => exact (insertYield_perm x _).trans (ih.cons x)

/-- No holder stands before one that comes first. -/
def YieldSorted (l : List (Nat × Nat × Nat)) : Prop := l.Pairwise (fun a b => precedes b a = false)

theorem insertYield_sorted {x : Nat × Nat × Nat} {l : List (Nat × Nat × Nat)} (h : YieldSorted l)
    (distinct : ∀ y ∈ l, y.1 ≠ x.1) : YieldSorted (insertYield x l) := by
  induction l with
  | nil => exact List.pairwise_singleton _ _
  | cons y ys ih =>
    obtain ⟨front, rest⟩ := List.pairwise_cons.mp h
    unfold insertYield
    split
    next first =>
      refine List.pairwise_cons.mpr ⟨fun z mz => ?_, ih rest fun z mz => distinct z (List.mem_cons_of_mem _ mz)⟩
      rcases List.mem_cons.mp ((insertYield_perm x ys).mem_iff.mp mz) with same | mem
      · subst same
        exact Bool.eq_false_iff.mpr fun back => Bool.eq_false_iff.mp (precedes_irrefl y) (precedes_trans first back)
      · exact front z mem
    next late =>
      have ahead : precedes x y = true :=
        precedes_total (distinct y List.mem_cons_self) (Bool.eq_false_iff.mpr late)
      refine List.pairwise_cons.mpr ⟨fun z mz => ?_, h⟩
      refine Bool.eq_false_iff.mpr fun back => ?_
      rcases List.mem_cons.mp mz with same | mem
      · exact late (same ▸ back)
      · exact Bool.eq_false_iff.mp (front z mem) (precedes_trans back ahead)

theorem sortYield_sorted {l : List (Nat × Nat × Nat)} (h : l.Pairwise (fun a b => a.1 ≠ b.1)) : YieldSorted (sortYield l) := by
  induction l with
  | nil => exact List.Pairwise.nil
  | cons x xs ih =>
    obtain ⟨front, rest⟩ := List.pairwise_cons.mp h
    exact insertYield_sorted (ih rest) fun y my => (front y ((sortYield_perm xs).mem_iff.mp my)).symm

/-- The amounts of the holders that come before one of a station and urgency. -/
def beforeSum (l : List (Nat × Nat × Nat)) (me u : Nat) : Nat :=
  ((l.filter (fun c => decide (c.2.1 < u ∨ c.2.1 = u ∧ me < c.1))).map (fun c => c.2.2)).sum

theorem precedes_iff (c : Nat × Nat × Nat) (me u a : Nat) :
    decide (c.2.1 < u ∨ c.2.1 = u ∧ me < c.1) = precedes c (me, u, a) := by
  rw [Bool.eq_iff_iff]; simp [precedes]

/-- In a sorted list a holder yields exactly where the amounts before it have not reached the excess. -/
theorem mem_takeYielders {l : List (Nat × Nat × Nat)} (sorted : YieldSorted l) (distinct : l.Pairwise (fun a b => a.1 ≠ b.1))
    (me excess : Nat) : me ∈ takeYielders excess l ↔ ∃ u a, (me, u, a) ∈ l ∧ beforeSum l me u < excess := by
  induction l generalizing excess with
  | nil => simp [takeYielders]
  | cons x xs ih =>
    obtain ⟨n, v, b⟩ := x
    obtain ⟨front, rest⟩ := List.pairwise_cons.mp sorted
    obtain ⟨alone, others⟩ := List.pairwise_cons.mp distinct
    have first : beforeSum ((n, v, b) :: xs) n v = 0 := by
      unfold beforeSum
      rw [List.filter_eq_nil_iff.mpr]
      · rfl
      · intro y my
        rw [precedes_iff y n v b, Bool.not_eq_true]
        rcases List.mem_cons.mp my with same | mem
        · rw [same]; exact precedes_irrefl _
        · exact front y mem
    have later : ∀ u a, (me, u, a) ∈ xs → beforeSum ((n, v, b) :: xs) me u = b + beforeSum xs me u := by
      intro u a mem
      have ahead : precedes (n, v, b) (me, u, a) = true := precedes_total (alone _ mem).symm (front _ mem)
      have kept := ahead
      rw [← precedes_iff (n, v, b) me u a] at kept
      unfold beforeSum
      rw [List.filter_cons, if_pos kept, List.map_cons, List.sum_cons]
    unfold takeYielders
    split
    next zero => subst zero; simp
    next some =>
      rw [List.mem_cons, ih rest others]
      constructor
      · rintro (same | ⟨u, a, mem, less⟩)
        · subst same
          exact ⟨v, b, List.mem_cons_self, by omega⟩
        · exact ⟨u, a, List.mem_cons_of_mem _ mem, by rw [later u a mem]; omega⟩
      · rintro ⟨u, a, mem, less⟩
        rcases List.mem_cons.mp mem with same | mem
        · exact .inl (congrArg Prod.fst same)
        · refine .inr ⟨u, a, mem, ?_⟩
          rw [later u a mem] at less
          omega

/-- The yielders of R95 and R97 as the statements describe them. -/
theorem yields_iff {l : List (Nat × Nat × Nat)} (distinct : l.Pairwise (fun a b => a.1 ≠ b.1)) (me excess : Nat) :
    (takeYielders excess (sortYield l)).contains me = true ↔ MustYield l me excess := by
  have perm := sortYield_perm l
  have apart : (sortYield l).Pairwise (fun a b => a.1 ≠ b.1) := perm.symm.pairwise distinct (fun h => h.symm)
  have sums : ∀ u, beforeSum (sortYield l) me u = beforeSum l me u := fun u => ((perm.filter _).map _).sum_eq
  rw [List.contains_iff_mem, mem_takeYielders (sortYield_sorted distinct) apart]
  unfold MustYield
  refine exists_congr fun u => exists_congr fun a => and_congr perm.mem_iff ?_
  rw [sums]
  rfl

/-- The entries of a resource are of different stations. -/
theorem entriesOf_distinct (r : Resource) (s : State) : (entriesOf r s).Pairwise (fun a b => a.1 ≠ b.1) := by
  have places : ∀ (l : List (Option Holding)) (k : Nat), (l.zipIdx k).Pairwise (fun p q => p.2 < q.2) := by
    intro l
    induction l with
    | nil => intro k; exact List.Pairwise.nil
    | cons x xs ih =>
      intro k
      rw [List.zipIdx_cons]
      refine List.pairwise_cons.mpr ⟨fun p mp => ?_, ih (k + 1)⟩
      exact Nat.lt_of_succ_le (List.le_snd_of_mem_zipIdx mp)
  unfold entriesOf
  refine List.Pairwise.filterMap _ ?_ (places _ 0)
  intro p q less x hx y hy
  simp only [Option.map_eq_some_iff] at hx hy
  obtain ⟨_, _, rfl⟩ := hx
  obtain ⟨_, _, rfl⟩ := hy
  simp only [ne_eq]
  omega

/-! ### The own claim at a CLAIM heard (R94, R95, R97) -/

section
variable {r r' : Resource} {s t : State}

/-- What the queue and a loss make of a claim never begins to settle. -/
theorem settling_of_sinks {x y : OwnClaim × Option Holding} (h : Sinks x y)
    (settles : y.1.state = .settling ∨ y.1.raise.map Raise.phase = some .settling) :
    x.1.state = .settling ∨ x.1.raise.map Raise.phase = some .settling := by
  induction h with
  | refl => exact settles
  | waits _ _ ih =>
    rcases settles with state | raise
    · cases state
    · exact ih (.inr raise)
  | raiseWaits _ _ _ ih =>
    rcases settles with state | raise
    · exact ih (.inl state)
    · cases raise
  | lost => rcases settles with state | raise <;> contradiction

theorem ownSettling_iff : ownSettling r s = true ↔ (own r s).state = .settling ∨ (own r s).raise.map Raise.phase = some .settling := by
  unfold ownSettling; rw [Bool.or_eq_true, beq_iff_eq, beq_iff_eq]

theorem ownSettling_loseOwn (releases : Bool) (h : ownSettling r (loseOwn r' releases s) = true) : ownSettling r s = true := by
  rw [ownSettling_iff] at h ⊢
  by_cases same : r' = r
  · subst same
    rw [own_loseOwn] at h
    rcases h with state | raise <;> contradiction
  · have before : standing r (dropOwnEntry r' (setOwn r' (lostRecord (own r' s)) s)) = standing r s :=
      (standing_setEntry_ne same _ none _).trans (standing_setOwn_ne same _ s)
    have sunk : Sinks (standing r s) (standing r (loseOwn r' releases s)) := by
      have told : ∀ t, standing r (emit (.reexamine r') (tellLost r' t)) = standing r t := by intro t; cases r' <;> rfl
      refine sinks_of_standing (told _) ?_
      dsimp only
      split
      · exact sinks_queueNotice _ _ (sinks_of_standing before .refl)
      · exact sinks_of_standing before .refl
    exact settling_of_sinks sunk h

theorem clu_setFill_relief (calm : holdsRequest s.flc.state = false) (new : FillState) (n : holdsRequest new = false) :
    (setFill new s).clu = s.clu := by
  unfold setFill
  dsimp only
  split
  · rfl
  · split
    next => cases n
    next => rfl
    next => rfl
    next => rw [calm]; rfl

@[simp] theorem clu_reliefStart (s : State) : (reliefStart s).clu = s.clu := by
  have begins : holdsRequest s.flc.state = false → (setFill (.fill .relief) s).clu = s.clu := fun calm => clu_setFill_relief calm _ rfl
  unfold reliefStart
  split
  next rest => split; exacts [begins (by rw [rest]; rfl), rfl]
  next wait => split; exacts [begins (by rw [wait]; rfl), rfl]
  next blocked => split; exacts [begins (by rw [blocked]; rfl), rfl]
  next => rfl

@[simp] theorem clu_reliefEnd (s : State) : (reliefEnd s).clu = s.clu := by
  unfold reliefEnd
  split
  next relief => exact clu_setFill_relief (by rw [relief.1]; rfl) _ (by unfold afterFill; split <;> rfl)
  next => rfl

@[simp] theorem clu_updateSummary (s : State) : (updateSummary s).clu = s.clu := by
  unfold updateSummary; dsimp only; (repeat' split) <;> simp [handField, emit, changeSeen]

/-- A changed capacity never makes the own claim settle, and one that does not fall leaves the claims alone (R97). -/
theorem ownSettling_peersChanged (r : Resource) (s : State) :
    (ownSettling r (peersChanged s) = true → ownSettling r s = true) ∧
    (s.ptb.capacity ≤ capacityNow s → ownSettling r (peersChanged s) = ownSettling r s) := by
  have summary : ∀ t, ownSettling r (updateSummary t) = ownSettling r t := by
    intro t
    have same : own r (updateSummary t) = own r t := own_of_side (side_of_clu (clu_updateSummary t) r)
    unfold ownSettling
    rw [same]
  unfold peersChanged
  rw [summary]
  unfold updateCapacity takeCapacity
  dsimp only
  split
  · exact ⟨id, fun _ => rfl⟩
  · split
    next falls =>
      refine ⟨fun h => ?_, fun rises => absurd falls (Nat.not_lt.mpr rises)⟩
      unfold yieldOwn at h
      split at h
      · have lost := ownSettling_loseOwn (r := r) (r' := .supply) true (s := { s with ptb := { s.ptb with capacity := capacityNow s } }) h
        exact lost
      · exact h
    next => exact ⟨id, fun _ => rfl⟩

end

/-! ### A CLAIM or RELEASE heard (R76, R78 to R80) -/

/-- The held amount that an entry carries on into a raise (R78). -/
def heldOf (e : Holding) : Option Nat :=
  match e.share with
  | .held m => some m
  | .settling _ m _ _ => m

section
variable {r : Resource} {s t : State} {n a u : Nat}

theorem enterInitial_eq (r : Resource) (n a u : Nat) (s : State) : enterInitial r n a u s = setEntry r n (some {
    share := .settling a ((entryAt r n s).bind heldOf) (setting s).tSettle (ownSettling r s), urgency := u, age := 0 }) s := by
  unfold enterInitial
  dsimp only
  split
  next k => rw [k]; rfl
  next k => rw [k]; rfl
  next k => rw [k]; rfl

theorem othersOf_initialHeard (r : Resource) (n a u : Nat) (s : State) :
    othersOf (initialHeard r n a u s) = othersOf (enterInitial r n a u s) := by
  have same : beside (initialHeard r n a u s) = beside (enterInitial r n a u s) := by
    unfold initialHeard; dsimp only; split <;> simp
  exact others_of_wire (wire_of_beside same)

/-- A CLAIM heard acts on its sender's entry of the resource, and on no other. -/
theorem othersOf_claimHeard (other : n ≠ (setting s).station) (inside : 1 ≤ n ∧ n ≤ 24) (refresh : Bool) :
    (a = 0 → othersOf (claimHeard r refresh n a u s) r n = none) ∧
    (a ≠ 0 → refresh = true →
      othersOf (claimHeard r refresh n a u s) r n = some { share := .held a, urgency := u, age := 0 }) ∧
    (a ≠ 0 → refresh = false → othersOf (claimHeard r refresh n a u s) r n = some {
      share := .settling a ((othersOf s r n).bind heldOf) (setting s).tSettle (ownSettling r s), urgency := u, age := 0 }) ∧
    ∀ r' m, (r', m) ≠ (r, n) → othersOf (claimHeard r refresh n a u s) r' m = othersOf s r' m := by
  unfold claimHeard
  by_cases zero : a = 0
  · rw [if_pos zero]
    obtain ⟨gone, rest⟩ := othersOf_removeEntry r n s
    exact ⟨fun _ => gone, fun k => absurd zero k, fun k => absurd zero k, rest⟩
  · rw [if_neg zero]
    cases refresh with
    | true =>
      obtain ⟨written, rest⟩ := othersOf_setEntry other inside r (some { share := .held a, urgency := u, age := 0 })
      exact ⟨fun k => absurd k zero, fun _ _ => written, fun _ k => (by cases k), rest⟩
    | false =>
      rw [if_neg (by decide), othersOf_initialHeard, enterInitial_eq, ← othersOf_of_ne r other]
      obtain ⟨written, rest⟩ := othersOf_setEntry other inside r (some {
        share := .settling a ((othersOf s r n).bind heldOf) (setting s).tSettle (ownSettling r s), urgency := u, age := 0 })
      exact ⟨fun k => absurd k zero, fun _ k => (by cases k), fun _ _ => written, rest⟩

theorem wire_heardBefore (h : Heard) (s : State) : (wire (peersChanged (heardBefore h s))).2 = othersOf s := by
  rw [wire_peersChanged]
  unfold heardBefore
  rw [wire_writePeer, wire_hearSender]
  rfl

theorem ilu_heardBefore (h : Heard) (s : State) : (peersChanged (heardBefore h s)).ilu = s.ilu := by
  unfold heardBefore; simp

theorem setting_heardBefore (h : Heard) (s : State) : setting (peersChanged (heardBefore h s)) = setting s := by
  have kept : steady (peersChanged (heardBefore h s)) = steady s := by unfold heardBefore; simp
  exact setting_of_steady kept

theorem clu_heardBefore (h : Heard) (s : State) : (heardBefore h s).clu = s.clu := by
  have peer : ∀ (n : Nat) (p : Peer) (t : State), (setPeer n p t).clu = t.clu := by intro n p t; unfold setPeer; split <;> rfl
  unfold heardBefore writePeer hearSender
  dsimp only
  split <;> (try split) <;> simp only [peer] <;> rfl

theorem capacity_heardBefore (h : Heard) (s : State) : (heardBefore h s).ptb.capacity = s.ptb.capacity := by
  have peer : ∀ (n : Nat) (p : Peer) (t : State), (setPeer n p t).ptb.capacity = t.ptb.capacity := by
    intro n p t; unfold setPeer; split <;> rfl
  unfold heardBefore writePeer hearSender
  dsimp only
  split <;> (try split) <;> simp only [peer] <;> rfl

end

/-! ### Yield and objection (R94, R95, R97) -/

section
variable {r : Resource} {s : State}

theorem capacityOf_setEntry (r r' : Resource) (n : Nat) (e : Option Holding) (s : State) :
    capacityOf r (setEntry r' n e s) = capacityOf r s := by
  cases r with
  | supply => exact congrArg Peers.capacity (ptb_setEntry r' n e s)
  | load => exact congrArg (fun l : Loader => l.settings.budget) (station_setEntry r' n e s)

/-- What an initial CLAIM at urgency 6 or 7 makes the own claim do. -/
theorem initialHeard_preempts (n a u : Nat) (high : 6 ≤ u) (s : State) :
    let entered := enterInitial r n a u s
    let others := ((entriesOf r entered).filter (fun e => e.1 != n && decide (e.2.urgency < 6))).map
      (fun e => (e.1, e.2.urgency, yieldPart e.2.share))
    let yields := MustYield others (setting s).station (tableSum r entered - capacityOf r s)
    (yields → initialHeard r n a u s = emit (.reexamine r) (loseOwn r true entered)) ∧
    (¬ yields → initialHeard r n a u s = emit (.reexamine r) entered) := by
  intro entered others yields
  have capacity : capacityOf r entered = capacityOf r s := by
    show capacityOf r (enterInitial r n a u s) = _
    rw [enterInitial_eq]; exact capacityOf_setEntry _ _ _ _ _
  have station : (setting entered).station = (setting s).station := by
    show (setting (enterInitial r n a u s)).station = _
    rw [enterInitial_eq]; exact congrArg (fun l : Loader => l.settings.station) (station_setEntry _ _ _ _)
  have distinct : others.Pairwise (fun a b => a.1 ≠ b.1) := ((entriesOf_distinct r entered).filter _).map _ (fun _ _ ne => ne)
  have mine : (preemptYielders r n entered).contains (setting entered).station = true ↔ yields := by
    rw [station]
    refine Iff.trans ?_ (yields_iff distinct _ _)
    unfold preemptYielders
    rw [capacity]
  unfold initialHeard
  dsimp only
  rw [if_pos high]
  unfold yieldOwn
  exact ⟨fun y => by rw [if_pos (mine.mpr y)], fun y => by rw [if_neg (fun k => y (mine.mp k))]⟩

/-- What an initial CLAIM below urgency 6 makes the own claim do. -/
theorem initialHeard_objects (n a u : Nat) (low : u < 6) (s : State) :
    let entered := enterInitial r n a u s
    let objects := (own r s).state = .held ∧ (∀ y, (own r s).raise = some y → y.phase = .waiting) ∧
      (∀ e, entryUnder (.side r) s.lnu.queue = some e → isClaim e.item = false) ∧ capacityOf r s < objectionSum r n entered
    (objects → initialHeard r n a u s = emit (.reexamine r) (queueNotice (.claim r true) (own r s).urgency entered)) ∧
    (¬ objects → initialHeard r n a u s = emit (.reexamine r) entered) := by
  intro entered objects
  have entered_eq := enterInitial_eq r n a u s
  have capacity : capacityOf r entered = capacityOf r s := (congrArg _ entered_eq).trans (capacityOf_setEntry _ _ _ _ _)
  have claim : own r entered = own r s := (congrArg _ entered_eq).trans (own_setEntry _ _ _ _ _)
  have queue : entered.lnu.queue = s.lnu.queue := (congrArg (fun t : State => t.lnu.queue) entered_eq).trans
    (congrArg Line.queue (setEntry_lnu _ _ _ _))
  have raise : (match (own r s).raise with | some x => x.phase == .waiting | none => true) = true ↔
      ∀ y, (own r s).raise = some y → y.phase = .waiting := by
    cases (own r s).raise <;> simp
  have unclaimed : claimQueued r entered = false ↔ ∀ e, entryUnder (.side r) s.lnu.queue = some e → isClaim e.item = false := by
    unfold claimQueued
    rw [queue]
    cases entryUnder (.side r) s.lnu.queue <;> simp
  have acts : object r n entered =
      if objects then queueNotice (.claim r true) (own r s).urgency entered else entered := by
    unfold object
    dsimp only
    rw [claim, capacity]
    refine if_congr ?_ rfl rfl
    rw [Bool.and_eq_true, Bool.and_eq_true, Bool.and_eq_true, beq_iff_eq, Bool.not_eq_true', decide_eq_true_eq, unclaimed]
    exact ⟨fun ⟨⟨⟨x, y⟩, z⟩, w⟩ => ⟨x, raise.mp y, z, w⟩, fun ⟨x, y, z, w⟩ => ⟨⟨⟨x, raise.mpr y⟩, z⟩, w⟩⟩
  unfold initialHeard
  dsimp only
  rw [if_neg (Nat.not_le.mpr low)]
  show (objects → emit _ (object r n entered) = _) ∧ (¬ objects → emit _ (object r n entered) = _)
  rw [acts]
  exact ⟨fun y => by rw [if_pos y], fun y => by rw [if_neg y]⟩

/-- What a fall of the SUPPLY capacity makes the own claim do (R97). -/
theorem takeCapacity_falls {before : Nat} (falls : s.ptb.capacity < before) :
    let yields := MustYield ((heldEntries .supply s).filter (fun e => decide (e.2.1 < 6))) (setting s).station
      (((heldEntries .supply s).map (fun e => e.2.2)).sum - s.ptb.capacity)
    (yields → takeCapacity before s = emit (.reexamine .supply) (loseOwn .supply true s)) ∧
    (¬ yields → takeCapacity before s = emit (.reexamine .supply) s) := by
  intro yields
  have distinct : (heldEntries .supply s).Pairwise (fun a b => a.1 ≠ b.1) := by
    unfold heldEntries
    refine List.Pairwise.filterMap _ ?_ (entriesOf_distinct .supply s)
    intro p q ne x hx y hy
    split at hx
    next =>
      split at hy
      next => cases hx; cases hy; exact ne
      next => cases hy
    next => cases hx
  have mine : (capacityYielders s).contains (setting s).station = true ↔ yields :=
    yields_iff (distinct.filter _) _ _
  unfold takeCapacity
  rw [if_neg (Nat.ne_of_lt falls), if_pos falls]
  unfold yieldOwn
  exact ⟨fun y => by rw [if_pos (mine.mpr y)], fun y => by rw [if_neg (fun k => y (mine.mp k))]⟩

/-- The RELEASE of a lost claim is queued where there is room and nothing of the claim stands in the queue. -/
theorem queue_loseOwn (on : active s = true) (room : s.lnu.queue.length < 8)
    (fresh : ∀ e ∈ s.lnu.queue, keyOf e.item ≠ .side r) :
    (loseOwn r true s).lnu.queue = s.lnu.queue ++ [newEntry (.release r) 5 s.lnu.nextAge] := by
  have told : ∀ t, (emit (.reexamine r) (tellLost r t)).lnu = t.lnu := by intro t; cases r <;> rfl
  have line : (dropOwnEntry r (setOwn r (lostRecord (own r s)) s)).lnu = s.lnu :=
    (setEntry_lnu _ _ _ _).trans (by cases r <;> rfl)
  have still : active (dropOwnEntry r (setOwn r (lostRecord (own r s)) s)) = true :=
    (active_of_steady (by simp)).trans on
  unfold loseOwn giveUp
  rw [told]
  dsimp only
  rw [if_pos rfl, queueNotice_enters still (fun claim => by cases claim) (by rw [line]; exact room) (by rw [line]; exact fresh)]
  unfold enqueue
  rw [line]

end

end Sys2Proof.Machine
namespace Sys2Proof.Proofs
open Sys2Proof Sys2Proof.Machine

/-- Settles O33: the sender's entry is written, and the own claim acts by R94, R95 or R97. -/
theorem claimNoticeWritesEntry : Obligations.ClaimNoticeWritesEntry := by
  intro chars h r s on heard other
  have a := arises_of_heardAs (loaded_of_active on) heard
  have inside := station_of_readNotice heard.2
  have taken := effect_heardPeer on heard other
  have answer := exec_of_arises a
  let t := event (effect (.noticeHeard chars)) (contactMoved (.noticeHeard chars) s)
  let x := peersChanged (heardBefore h (beginEvent s))
  have before : othersOf x = othersOf s := wire_heardBefore _ _
  have settings : setting x = setting s := setting_heardBefore _ _
  have apart : h.station ≠ (setting x).station := by rw [settings]; exact other
  have measured : t.msu = s.msu := msu_taken a (by simp) (by simp) (by simp)
  have entries : othersOf t = othersOf (handOn h x) := (others_of_wire (wire_event _ _)).trans (congrArg othersOf taken)
  have inputs : t.ilu = (handOn h x).ilu := (ilu_event _ _).trans (congrArg State.ilu taken)
  refine ⟨fun amount refresh claim => ⟨t, answer, ?_⟩, fun release => ⟨t, answer, ?_⟩, fun amount refresh claim => ⟨?_, fun y => ?_⟩,
    fun before y falls => ?_, fun y => ⟨?_, entryAt_loseOwn r true y, queue_loseOwn⟩⟩
  · have handed : handOn h x = claimHeard r refresh h.station amount h.urgency x := by unfold handOn; rw [claim]
    have held : heldOf = fun e : Holding => match e.share with | .held m => some m | .settling _ m _ _ => m := by
      funext e; unfold heldOf; cases e.share <;> rfl
    have claims : ownSettling r (heardBefore h (beginEvent s)) = ownSettling r s := by
      unfold ownSettling
      rw [own_of_side (side_of_clu (s := beginEvent s) (clu_heardBefore h _) r)]
      cases r <;> rfl
    have capacity : t.ptb.capacity = capacityNow (heardBefore h (beginEvent s)) :=
      congrArg Peers.capacity ((ptb_event _ _).trans ((congrArg State.ptb taken).trans (ptb_heardPeer h _)))
    obtain ⟨calmer, same⟩ := ownSettling_peersChanged r (heardBefore h (beginEvent s))
    rw [claims, capacity_heardBefore] at same
    rw [claims] at calmer
    obtain ⟨zero, renews, enters, rest⟩ := othersOf_claimHeard (r := r) (a := amount) (u := h.urgency) apart inside refresh
    beta_reduce
    rw [entries, inputs, handed]
    refine ⟨zero, renews, fun some initial => ⟨ownSettling r x, fun calm => ?_, fun rises => ?_, ?_⟩, fun r' n ne => ?_, measured, ?_⟩
    · exact Bool.eq_false_iff.mpr fun settles => Bool.eq_false_iff.mp calm (calmer settles)
    · exact same (rises.trans_eq capacity)
    · rw [enters some initial, before, settings]
      exact congrArg (fun f => Option.some (Holding.mk
        (Share.settling amount ((othersOf s r h.station).bind f) (setting s).tSettle (ownSettling r x)) h.urgency 0)) held
    · rw [rest r' n ne, before]
    · rw [ilu_claimHeard]; exact ilu_heardBefore h _
  · have handed : handOn h x = removeEntry r h.station x := by unfold handOn; rw [release]
    obtain ⟨gone, rest⟩ := othersOf_removeEntry r h.station x
    beta_reduce
    rw [entries, inputs, handed]
    refine ⟨gone, fun r' n ne => ?_, measured, ?_⟩
    · rw [rest r' n ne, before]
    · rw [ilu_removeEntry]; exact ilu_heardBefore h _
  · exact answer.trans (congrArg _ (event_congr taken))
  · refine ⟨by unfold handOn; rw [claim], fun some initial => ?_⟩
    have first : claimHeard r refresh h.station amount h.urgency y = initialHeard r h.station amount h.urgency y := by
      unfold claimHeard; rw [if_neg some, initial]; rfl
    have amounts : yieldPart = fun e : Share => match e with | .held m => m | .settling p _ _ _ => p := by
      funext e; cases e <;> rfl
    have larger : largerPart = fun e : Share => match e with | .held m => m | .settling p m _ _ => max p (m.getD 0) := by
      funext e; cases e <;> rfl
    have preempts := fun high => initialHeard_preempts (r := r) h.station amount h.urgency high y
    have objects := fun low => initialHeard_objects (r := r) h.station amount h.urgency low y
    unfold tableSum at preempts
    unfold objectionSum at objects
    rw [amounts, larger] at preempts objects
    rw [first]
    exact ⟨preempts, objects⟩
  · exact takeCapacity_falls falls
  · rw [own_loseOwn]; rfl

end Sys2Proof.Proofs
end

section
/-! PROOFS. The few works of the hand-ons of an event on the mode, the questions, the fill state and the stages, and what they keep. -/

namespace Sys2Proof.Machine

/-- What the works are on: the mode, the incomplete flags and questions, the fill state and the stages. -/
structure Tally where
  mode : StationMode
  claims : Claims
  fill : FillState
  stages : Vector Stage 4

/-- That part of a state; the own claims and the entries are left out. -/
def tally (s : State) : Tally :=
  { mode := s.sld.mode
    claims := { s.clu with ownSupply := .atReset, ownLoad := .atReset, supplyTable := .replicate 24 none, loadTable := .replicate 24 none }
    fill := s.flc.state
    stages := s.odu.stages }

/-- WAIT, CLAIM and FILL for the tariff: what a day ends (R111). -/
def forTariff (f : FillState) : Prop := f = .wait ∨ f = .claim .tariff ∨ f = .fill .tariff

/-- The states that the hand-ons of an event lead to from a state. -/
inductive Works (s : State) : State → Prop where
  | refl : Works s s
  /-- Anything else. -/
  | still {t u : State} : Works s t → tally u = tally t → quiet u = quiet t → Works s u
  /-- A resource is marked incomplete. -/
  | mark {t : State} (r : Resource) : Works s t → Works s (setIncomplete r t)
  /-- The questions move on. -/
  | ask {t : State} (q : List Question) (f : Option Question) (a b : Bool) : Works s t →
      (t.clu.answeredSupply = true → a = true) → (t.clu.answeredLoad = true → b = true) → Works s
      { t with clu := { t.clu with questions := q, inFlight := f, answeredSupply := a, answeredLoad := b } }
  /-- The joining ends. -/
  | join {t : State} : Works s t → t.sld.mode = .joining → t.clu.answeredSupply = true → t.clu.answeredLoad = true →
      Works s { t with sld := { t.sld with mode := .joined }, clu := { t.clu with answer := none, listening := none } }
  /-- The fill state moves: by day into none that is for the tariff. -/
  | fill {t u : State} : Works s t → tally u = { tally t with fill := u.flc.state } → quiet u = quiet t →
      (forTariff u.flc.state → t.flc.night = true ∨ forTariff t.flc.state) → Works s u
  /-- A channel moves; a FAILED one stays so, and no other becomes so. -/
  | stage {t : State} (k : Fin 4) (x : Stage) : Works s t → (x.state = .failed ↔ (stageAt k t).state = .failed) →
      Works s (setStage k x t)

section
variable {s t : State}

theorem works_of_still {u : State} (same : tally u = tally t) (calm : quiet u = quiet t) (w : Works s t) : Works s u := w.still same calm

@[simp] theorem works_emit (h : HandOn) (w : Works s t) : Works s (emit h t) := w.still rfl rfl
@[simp] theorem works_handField (f : KeyField) (w : Works s t) : Works s (handField f t) := w.still rfl rfl
@[simp] theorem works_setOwn (r : Resource) (c : OwnClaim) (w : Works s t) : Works s (setOwn r c t) :=
  w.still (by cases r <;> rfl) (by simp)
@[simp] theorem works_setIncomplete (r : Resource) (w : Works s t) : Works s (setIncomplete r t) := w.mark r

theorem tally_setEntry (r : Resource) (n : Nat) (e : Option Holding) (t : State) : tally (setEntry r n e t) = tally t := by
  unfold setEntry; split
  · cases r <;> rfl
  · rfl

theorem works_setEntry {u : State} (r : Resource) (e : Option Holding) (settings : setting t = setting u) (w : Works s t) :
    Works s (setEntry r (setting u).station e t) := by
  rw [← settings]
  exact w.still (tally_setEntry _ _ _ _) (quiet_setOwnEntry _ _ _)

@[simp] theorem works_setOwnEntry (r : Resource) (e : Option Holding) (w : Works s t) :
    Works s (setEntry r (setting t).station e t) := works_setEntry r e rfl w

/-! ### The queue -/

@[simp] theorem works_noteOccurrence (w : Works s t) : Works s (noteOccurrence t) := w.still rfl rfl
@[simp] theorem works_countSkipped (w : Works s t) : Works s (countSkipped t) := w.still rfl rfl
@[simp] theorem works_reportDropped (w : Works s t) : Works s (reportDropped t) := w.still rfl rfl
@[simp] theorem works_changeSeen (w : Works s t) : Works s (changeSeen t) := w.still rfl rfl
@[simp] theorem works_enqueue (item : Outgoing) (u : Nat) (w : Works s t) : Works s (enqueue item u t) := w.still rfl rfl
@[simp] theorem works_tellLost (r : Resource) (w : Works s t) : Works s (tellLost r t) := by cases r <;> exact w.still rfl rfl
@[simp] theorem works_tellRaiseWithdrawn (r : Resource) (w : Works s t) : Works s (tellRaiseWithdrawn r t) := by
  cases r <;> exact w.still rfl rfl

@[simp] theorem works_claimBackToWaiting (r : Resource) (w : Works s t) : Works s (claimBackToWaiting r t) := by
  unfold claimBackToWaiting; dsimp only; (repeat' split) <;> simp [w]

theorem works_giveUp {release : State → State} (h : ∀ t, Works s t → Works s (release t)) (r : Resource) (w : Works s t) :
    Works s (giveUp release r t) := by
  unfold giveUp dropOwnEntry
  exact works_emit _ (works_tellLost _ (h _ (works_setOwnEntry _ _ (works_setOwn _ _ w))))

@[simp] theorem works_markIncompleteFor (q : Question) (w : Works s t) : Works s (markIncompleteFor q t) := by
  unfold markIncompleteFor; split <;> simp [w]

theorem works_dropNotice {release : Resource → State → State} (h : ∀ r t, Works s t → Works s (release r t)) (item : Outgoing)
    (w : Works s t) : Works s (dropNotice release item t) := by
  have noted : Works s (noteOccurrence t) := works_noteOccurrence w
  unfold dropNotice tellDropped
  split
  next => exact works_reportDropped noted
  next r => exact works_claimBackToWaiting r noted
  next r => split; exacts [works_giveUp (h r) r noted, noted]
  next q => exact works_emit _ (works_markIncompleteFor q noted)
  all_goals exact noted

@[simp] theorem works_claimRefused (r : Resource) (refresh : Bool) (w : Works s t) : Works s (claimRefused r refresh t) := by
  unfold claimRefused; (repeat' split) <;> simp [w]

@[simp] theorem works_queueOver (item : Outgoing) (u : Nat) (e : QueueEntry) (w : Works s t) : Works s (queueOver item u e t) := by
  unfold queueOver; (repeat' split) <;> exact w.still rfl rfl

theorem works_queueNew {release : Resource → State → State} (h : ∀ r t, Works s t → Works s (release r t)) (item : Outgoing)
    (u : Nat) (w : Works s t) : Works s (queueNew release item u t) := by
  unfold queueNew
  (repeat' split) <;> first
    | exact works_enqueue _ _ w
    | exact works_dropNotice h _ w
    | exact works_dropNotice h _ (w.still rfl rfl)

theorem works_queueWith {release : Resource → State → State} (h : ∀ r t, Works s t → Works s (release r t)) (item : Outgoing)
    (u : Nat) (w : Works s t) : Works s (queueWith release item u t) := by
  unfold queueWith; (repeat' split) <;> simp [w, works_queueNew h]

theorem works_queueRelease (n : Nat) (r : Resource) (w : Works s t) : Works s (queueRelease n r t) := by
  induction n generalizing r t with
  | zero => exact w
  | succ n ih => exact works_queueWith (fun r _ k => ih r k) _ _ w

@[simp] theorem works_queueNotice (item : Outgoing) (u : Nat) (w : Works s t) : Works s (queueNotice item u t) :=
  works_queueWith (fun r _ k => works_queueRelease 2 r k) item u w

@[simp] theorem works_dueEvent (w : Works s t) : Works s (dueEvent t) := by
  unfold dueEvent
  dsimp only
  split
  · exact w.still rfl rfl
  · exact works_queueNotice _ _ (w.still rfl rfl)

/-! ### The own claims -/

@[simp] theorem works_announce (r : Resource) (w : Works s t) : Works s (announce r t) := by
  unfold announce; dsimp only; (repeat' split) <;> simp (maxDischargeDepth := 30) [w]

@[simp] theorem works_loseOwn (r : Resource) (releases : Bool) (w : Works s t) : Works s (loseOwn r releases t) :=
  works_giveUp (fun u k => by split <;> simp [k]) r w

@[simp] theorem works_withdrawRaise (r : Resource) (w : Works s t) : Works s (withdrawRaise r t) := by
  unfold withdrawRaise; dsimp only; (repeat' split) <;> simp (maxDischargeDepth := 30) [w, works_setEntry, setting_setOwn]

@[simp] theorem works_settleCheck (r : Resource) (w : Works s t) : Works s (settleCheck r t) := by
  unfold settleCheck; dsimp only; (repeat' split) <;> simp (maxDischargeDepth := 30) [w]

@[simp] theorem works_reexamineNow (r : Resource) (w : Works s t) : Works s (reexamineNow r t) := by
  unfold reexamineNow; simp (maxDischargeDepth := 30) [w]

@[simp] theorem works_ownEntryUrgency (r : Resource) (u : Nat) (w : Works s t) : Works s (ownEntryUrgency r u t) := by
  unfold ownEntryUrgency; (repeat' split) <;> simp (maxDischargeDepth := 30) [w]

@[simp] theorem works_changeUrgency (r : Resource) (u : Nat) (w : Works s t) : Works s (changeUrgency r u t) := by
  unfold changeUrgency; dsimp only; (repeat' split) <;> simp (maxDischargeDepth := 30) [w]

@[simp] theorem works_withdrawOwn (r : Resource) (w : Works s t) : Works s (withdrawOwn r t) := by
  unfold withdrawOwn dropOwnEntry; (repeat' split) <;> simp (maxDischargeDepth := 30) [w]

@[simp] theorem works_askFresh (r : Resource) (a u : Nat) (w : Works s t) : Works s (askFresh r a u t) := by
  unfold askFresh; simp (maxDischargeDepth := 30) [w]

@[simp] theorem works_lowerOwn (r : Resource) (a : Nat) (w : Works s t) : Works s (lowerOwn r a t) := by
  unfold lowerOwn; dsimp only; simp (maxDischargeDepth := 30) [w, works_setEntry, setting_setOwn]

@[simp] theorem works_raiseOwn (r : Resource) (a : Nat) (w : Works s t) : Works s (raiseOwn r a t) := by
  unfold raiseOwn; dsimp only; (repeat' split) <;> simp (maxDischargeDepth := 30) [w, works_setEntry, setting_setOwn]

@[simp] theorem works_askAmount (r : Resource) (a : Nat) (w : Works s t) : Works s (askAmount r a t) := by
  unfold askAmount; dsimp only; (repeat' split) <;> simp (maxDischargeDepth := 30) [w]

@[simp] theorem works_askOwn (r : Resource) (a u : Nat) (w : Works s t) : Works s (askOwn r a u t) := by
  unfold askOwn; (repeat' split) <;> simp (maxDischargeDepth := 30) [w]

/-! ### The fill controller -/

theorem not_forTariff_rest : ¬ forTariff .rest := by simp [forTariff]
theorem not_forTariff_blocked : ¬ forTariff .blocked := by simp [forTariff]
theorem not_forTariff_relief : ¬ forTariff (.fill .relief) := by simp [forTariff]

theorem works_setFill {new : FillState} (calm : forTariff new → t.flc.night = true ∨ forTariff t.flc.state) (w : Works s t) :
    Works s (setFill new t) := by
  have moved : Works s (moveFill new t) := w.fill rfl (quiet_moveFill new t) calm
  unfold setFill
  dsimp only
  split
  · exact w
  · (repeat' split) <;> simp [moved]

@[simp] theorem works_setFill_rest (w : Works s t) : Works s (setFill .rest t) :=
  works_setFill (fun f => absurd f not_forTariff_rest) w
@[simp] theorem works_setFill_blocked (w : Works s t) : Works s (setFill .blocked t) :=
  works_setFill (fun f => absurd f not_forTariff_blocked) w
@[simp] theorem works_setFill_relief (w : Works s t) : Works s (setFill (.fill .relief) t) :=
  works_setFill (fun f => absurd f not_forTariff_relief) w

@[simp] theorem works_reliefStart (w : Works s t) : Works s (reliefStart t) := by
  unfold reliefStart; (repeat' split) <;> simp [w]

theorem afterFill_cases (t : State) : afterFill t = .rest ∨ afterFill t = .blocked := by
  unfold afterFill; split
  · exact .inl rfl
  · exact .inr rfl

@[simp] theorem works_reliefEnd (w : Works s t) : Works s (reliefEnd t) := by
  unfold reliefEnd
  split
  · rcases afterFill_cases t with rest | blocked
    · rw [rest]; exact works_setFill_rest w
    · rw [blocked]; exact works_setFill_blocked w
  · exact w

theorem night_of_restRow (h : forTariff (restRow t)) : t.flc.night = true := by
  unfold restRow at h
  split at h
  · exact absurd h not_forTariff_relief
  · split at h
    next night => simp only [Bool.and_eq_true] at night; exact night.1.1
    next =>
      split at h
      · simp [forTariff] at h
      · split at h
        next night => simp only [Bool.and_eq_true] at night; exact night.1
        next => exact absurd h not_forTariff_rest

@[simp] theorem works_planStep (w : Works s t) : Works s (planStep t) := by
  have row : Works s (setFill (restRow t) t) := works_setFill (fun f => .inl (night_of_restRow f)) w
  unfold planStep; (repeat' split) <;> simp [w, row]

@[simp] theorem works_handUrgency (w : Works s t) : Works s (handUrgency t) := by
  unfold handUrgency; split <;> simp [w]

@[simp] theorem works_replan (handsSlack : Bool) (w : Works s t) : Works s (replan handsSlack t) :=
  w.still (by unfold replan; dsimp only; split <;> rfl) (quiet_replan handsSlack t)

@[simp] theorem works_planAndStep (handsSlack : Bool) (w : Works s t) : Works s (planAndStep handsSlack t) :=
  works_planStep (works_handUrgency (works_replan handsSlack w))

@[simp] theorem works_takeCauses (w : Works s t) : Works s (takeCauses t) := by
  have kept : Works s { t with flc := { t.flc with causes := causesNow t } } := w.still rfl rfl
  unfold takeCauses; dsimp only; (repeat' split) <;> simp [kept]

@[simp] theorem works_fillFollows (w : Works s t) : Works s (fillFollows t) := by
  unfold fillFollows; split <;> simp [w]

@[simp] theorem works_fillGranted (w : Works s t) : Works s (fillGranted t) := by
  unfold fillGranted
  split
  next claim => exact works_setFill (fun _ => .inr (.inr (.inl claim))) w
  next => exact works_setFill (fun f => by simp [forTariff] at f) w
  next => exact w

@[simp] theorem works_fillLost (w : Works s t) : Works s (fillLost t) := by
  unfold fillLost
  split
  next fill => exact works_setFill (fun _ => .inr (.inr (.inr fill))) w
  next => exact works_setFill (fun f => by simp [forTariff] at f) w
  next => exact w

@[simp] theorem works_fillOrders (w : Works s t) : Works s (fillOrders t) := by
  have permitted : Works s (applyPermits t) := by unfold applyPermits; dsimp only; split <;> simp [w]
  unfold fillOrders; simp [permitted]

/-! ### The frost controller -/

theorem works_setStage {k : Fin 4} {x : Stage} (stays : x.state = .failed ↔ (stageAt k t).state = .failed) (w : Works s t) :
    Works s (setStage k x t) := w.stage k x stays

@[simp] theorem works_commandStage (k : Fin 4) (on : Bool) (w : Works s t) : Works s (commandStage k on t) := by
  have moved : ∀ {x : Stage}, x.state ≠ .failed → (stageAt k t).state ≠ .failed → Works s (moveStage k x t) := fun m n =>
    works_emit _ (works_setStage ⟨fun f => absurd f m, fun f => absurd f n⟩ w)
  have kept : ∀ b, Works s (setStage k { stageAt k t with command := b } t) := fun b => works_setStage Iff.rfl w
  unfold commandStage
  dsimp only
  split
  · exact w
  · split
    · split
      next off => exact moved (by simp) (by rw [off]; decide)
      next dropping => exact moved (by simp) (by rw [dropping]; decide)
      next => exact kept true
    · split
      next proving => split <;> exact moved (by simp) (by rw [proving]; decide)
      next on => exact moved (by simp) (by rw [on]; decide)
      next => exact kept false

theorem works_foldl {α : Type} (f : State → α → State) (h : ∀ t k, Works s t → Works s (f t k)) (l : List α) (w : Works s t) :
    Works s (l.foldl f t) := by
  induction l generalizing t with
  | nil => exact w
  | cons k l ih => exact ih (h _ _ w)

@[simp] theorem works_standingWishes (w : Works s t) : Works s (standingWishes t) :=
  w.still (by unfold standingWishes; (repeat' split) <;> rfl) (quiet_standingWishes t)
@[simp] theorem works_selectNow (w : Works s t) : Works s (selectNow t) := w.still rfl (quiet_selectNow t)
@[simp] theorem works_updateFrostState (w : Works s t) : Works s (updateFrostState t) :=
  w.still (by unfold updateFrostState; dsimp only; split <;> rfl) (quiet_updateFrostState t)
@[simp] theorem works_judgeStarved (w : Works s t) : Works s (judgeStarved t) :=
  w.still (by unfold judgeStarved; dsimp only; split <;> rfl) (quiet_judgeStarved t)

@[simp] theorem works_dropStages (w : Works s t) : Works s (dropStages t) := by
  unfold dropStages
  exact works_foldl _ (fun u k x => by split <;> simp [x]) _ w

@[simp] theorem works_requestLoad (w : Works s t) : Works s (requestLoad t) := by
  have asked : ∀ a, Works s { t with frc := { t.frc with asked := a } } := fun a => w.still rfl rfl
  unfold requestLoad; dsimp only; (repeat' split) <;> simp [w, asked]

@[simp] theorem works_energiseNext (w : Works s t) : Works s (energiseNext t) := by
  unfold energiseNext; (repeat' split) <;> simp [w]

@[simp] theorem works_frostEvaluate (w : Works s t) : Works s (frostEvaluate t) := by
  unfold frostEvaluate; split <;> simp (maxDischargeDepth := 30) [w]

/-! ### The situation table and the questions -/

@[simp] theorem works_takeKey (key : KeyBits) (w : Works s t) : Works s (takeKey key t) :=
  w.still (by unfold takeKey situationChange evaluateSituation; dsimp only; (repeat' split) <;> rfl) (quiet_takeKey key t)
@[simp] theorem works_reportOrders (w : Works s t) : Works s (reportOrders t) := by
  unfold reportOrders
  split
  · exact works_dueEvent (w.still rfl rfl)
  · exact w

@[simp] theorem works_askNext (w : Works s t) : Works s (askNext t) := by
  unfold askNext
  (repeat' split) <;> first
    | exact w
    | exact works_queueNotice _ _ (w.ask _ _ _ _ id id)

@[simp] theorem works_markAnswered (q : Question) (w : Works s t) : Works s (markAnswered q t) := by
  unfold markAnswered
  split
  · exact w.ask _ _ _ _ (fun _ => rfl) id
  · exact w.ask _ _ _ _ id (fun _ => rfl)
  · exact w

@[simp] theorem works_joinIfAnswered (w : Works s t) : Works s (joinIfAnswered t) := by
  unfold joinIfAnswered
  split
  next answered =>
    obtain ⟨joining, supply, load⟩ := answered
    unfold becomeJoined
    exact works_fillFollows (works_emit _ (works_emit _ (works_emit _ (works_handField _ (w.join joining supply load)))))
  next => exact w

@[simp] theorem works_questionDone (q : Question) (w : Works s t) : Works s (questionDone q t) := by
  unfold questionDone
  exact works_joinIfAnswered (works_askNext (works_markAnswered q (w.ask _ _ _ _ id id)))

/-! ### The cascade -/

@[simp] theorem works_takeHandOn (h : HandOn) (w : Works s t) : Works s (takeHandOn h t) := by
  cases h with
  | questionDropped q =>
    show Works s (questionWasDropped q t)
    unfold questionWasDropped
    split <;> simp [w]
  | orders => exact works_reportOrders (works_frostEvaluate (works_fillOrders w))
  | _ => simp [takeHandOn, takeField, takeSlack, w]

theorem works_follow (w : Works s t) : Works s (follow t) := w.still rfl rfl

theorem works_takeHandOns (n : Nat) (w : Works s t) : Works s (takeHandOns n t) := by
  induction n generalizing t with
  | zero => exact w
  | succ n ih =>
    unfold takeHandOns
    split
    · exact w
    · exact ih (works_follow (works_takeHandOn _ (w.still rfl rfl)))

/-- What an event's own effect leads to is handed on by works alone. -/
theorem works_event (f : State → State) (s : State) : Works (f (beginEvent s)) (event f s) :=
  works_takeHandOns _ (works_follow .refl)

/-! ### What the works keep -/

theorem quiet_of_works (w : Works s t) : quiet t = quiet s := by
  induction w with
  | refl => rfl
  | still _ _ calm ih => exact calm.trans ih
  | mark r _ ih => exact (quiet_setIncomplete r _).trans ih
  | ask _ _ _ _ _ _ _ ih => exact ih
  | join _ _ _ _ ih => exact ih
  | fill _ _ calm _ ih => exact calm.trans ih
  | stage k x _ _ ih => exact (quiet_setStage k x _).trans ih

theorem claimRound_of_quiet (h : quiet t = quiet s) : claimRound t = claimRound s :=
  congrArg (fun q : Quiet => q.settings.tRefresh + q.settings.tSettle) h

section
variable {f : FillState}

theorem incomplete_of_tally (r : Resource) (h : tally t = { tally s with fill := f }) : incomplete r t = incomplete r s := by
  cases r with
  | supply => exact congrArg (fun x : Tally => x.claims.incompleteSupply) h
  | load => exact congrArg (fun x : Tally => x.claims.incompleteLoad) h

theorem mode_of_tally (h : tally t = { tally s with fill := f }) : t.sld.mode = s.sld.mode := congrArg Tally.mode h
theorem fillState_of_tally (h : tally t = tally s) : t.flc.state = s.flc.state := congrArg Tally.fill h
theorem stageAt_of_tally (k : Fin 4) (h : tally t = { tally s with fill := f }) : stageAt k t = stageAt k s :=
  congrArg (fun x : Tally => x.stages[k]) h
theorem night_of_quiet (h : quiet t = quiet s) : t.flc.night = s.flc.night := congrArg Quiet.night h

end

theorem incomplete_setIncomplete (r r' : Resource) (s : State) :
    incomplete r (setIncomplete r' s) = if r' = r then some (claimRound s) else incomplete r s := by cases r <;> cases r' <;> rfl

/-- A mark made in an event stands at its end (R99). -/
theorem incomplete_of_works (w : Works s t) (r : Resource) :
    incomplete r t = incomplete r s ∨ incomplete r t = some (claimRound s) := by
  induction w with
  | refl => exact .inl rfl
  | still _ same _ ih => rw [incomplete_of_tally r same]; exact ih
  | mark r' w ih =>
    rw [incomplete_setIncomplete]
    split
    · exact .inr (congrArg some (claimRound_of_quiet (quiet_of_works w)))
    · exact ih
  | ask _ _ _ _ _ _ _ ih => cases r <;> exact ih
  | join _ _ _ _ ih => cases r <;> exact ih
  | fill _ same _ _ ih => rw [incomplete_of_tally r same]; exact ih
  | stage k x _ _ ih => cases r <;> exact ih

theorem marked_of_works (w : Works s t) {r : Resource} (h : incomplete r s = some (claimRound s)) :
    incomplete r t = some (claimRound s) := (incomplete_of_works w r).elim (fun k => k.trans h) id

/-- A JOINED station stays so, and a JOINING one is JOINING or JOINED. -/
theorem mode_of_works (w : Works s t) : t.sld.mode = s.sld.mode ∨ s.sld.mode = .joining ∧ t.sld.mode = .joined := by
  induction w with
  | refl => exact .inl rfl
  | still _ same _ ih => rw [mode_of_tally same]; exact ih
  | mark r _ ih => cases r <;> exact ih
  | ask _ _ _ _ _ _ _ ih => exact ih
  | join _ joining _ _ ih =>
    rcases ih with same | ⟨_, joined⟩
    · exact .inr ⟨same.symm.trans joining, rfl⟩
    · rw [joining] at joined; cases joined
  | fill _ same _ _ ih => rw [mode_of_tally same]; exact ih
  | stage k x _ _ ih => exact ih

/-- By day no state for the tariff is entered (R108, R111). -/
theorem not_forTariff_of_works (w : Works s t) (day : s.flc.night = false) (calm : ¬ forTariff s.flc.state) :
    ¬ forTariff t.flc.state := by
  induction w with
  | refl => exact calm
  | still _ same _ ih => rw [fillState_of_tally same]; exact ih
  | mark r _ ih => cases r <;> exact ih
  | ask _ _ _ _ _ _ _ ih => exact ih
  | join _ _ _ _ ih => exact ih
  | fill w _ _ enters ih =>
    intro f
    rcases enters f with night | was
    · rw [night_of_quiet (quiet_of_works w), day] at night
      cases night
    · exact ih was
  | stage k x _ _ ih => exact ih

/-- A FAILED channel stays so until its health is restored, and none becomes so but by a failure (R35). -/
theorem failed_iff_of_works (w : Works s t) (k : Fin 4) : (stageAt k t).state = .failed ↔ (stageAt k s).state = .failed := by
  induction w with
  | refl => exact Iff.rfl
  | still _ same _ ih => rw [stageAt_of_tally k same]; exact ih
  | mark r _ ih => cases r <;> exact ih
  | ask _ _ _ _ _ _ _ ih => exact ih
  | join _ _ _ _ ih => exact ih
  | fill _ same _ _ ih => rw [stageAt_of_tally k same]; exact ih
  | stage j x _ stays ih =>
    by_cases same : j = k
    · subst same; rw [stageAt_setStage_same]; exact stays.trans ih
    · rw [stageAt_setStage_ne same]; exact ih

theorem failed_of_works (w : Works s t) {k : Fin 4} (h : (stageAt k s).state = .failed) : (stageAt k t).state = .failed :=
  (failed_iff_of_works w k).mpr h

theorem failureSignal_of_works (w : Works s t) (k : Fin 4) : failureSignal k t = failureSignal k s := by
  unfold failureSignal
  rw [Bool.eq_iff_iff, beq_iff_eq, beq_iff_eq]
  exact failed_iff_of_works w k

end

end Sys2Proof.Machine
end

section
/-! PROOFS. The window of a roll call, the line fault and the end of the joining. -/

namespace Sys2Proof.Machine

section
variable {f : State → State} {r : Resource} {s t u : State}

theorem works_of_event (w : Works u (f (beginEvent s))) : Works u (event f s) := works_takeHandOns _ (works_follow w)

/-- A mark made by an event's own effect stands at its end (R99). -/
theorem marked_of_event (w : Works u (f (beginEvent s))) (h : incomplete r u = some (claimRound u)) :
    incomplete r (event f s) = some (claimRound u) := marked_of_works (works_of_event w) h

theorem lineState_of_quiet (h : quiet t = quiet s) : t.lnu.state = s.lnu.state := congrArg (fun q : Quiet => q.line.state) h

/-! ### Conditions and the fault set (R182, R183) -/

theorem conditionPresent_of_quiet (c : FaultCode) (h : quiet t = quiet s) : conditionPresent c t = conditionPresent c s :=
  congrArg (fun q : Quiet => q.ftu.condition[faultIndex c]) h
theorem inFaultSet_of_quiet (c : FaultCode) (h : quiet t = quiet s) : inFaultSet c t = inFaultSet c s :=
  congrArg (fun q : Quiet => q.ftu.inSet[faultIndex c]) h
theorem faultAcked_of_quiet (c : FaultCode) (h : quiet t = quiet s) : faultAcked c t = faultAcked c s :=
  congrArg (fun q : Quiet => q.ftu.acked[faultIndex c]) h

theorem raised_of_quiet {c : FaultCode} (h : quiet t = quiet u) (k : Raised c s u) : Raised c s t := by
  unfold Raised
  rw [conditionPresent_of_quiet c h, inFaultSet_of_quiet c h]
  exact k

theorem ended_of_quiet {c : FaultCode} (h : quiet t = quiet u) (k : Ended c s u) : Ended c s t := by
  unfold Ended
  rw [conditionPresent_of_quiet c h, inFaultSet_of_quiet c h]
  exact k

theorem announceHold_degrade {c : FaultCode} (h : isHold c = false) (s : State) : announceHold c s = s := by
  cases c <;> first
    | rfl
    | cases h

/-- A DEGRADE condition raised moves the fault unit alone. -/
theorem raiseCondition_degrade {c : FaultCode} (h : isHold c = false) (s : State) :
    ∃ f, raiseCondition c s = { s with ftu := f } ∧ Raised c s { s with ftu := f } := by
  unfold raiseCondition
  split
  next present => exact ⟨s.ftu, rfl, present, fun k => absurd present (by simp [k])⟩
  next =>
    dsimp only
    split
    next standing => exact ⟨_, rfl, getElem_put_same _ _ _, fun _ => standing⟩
    next =>
      unfold enterFault
      dsimp only
      rw [h, Bool.false_and, Bool.false_and, if_neg (by decide), announceHold_degrade h]
      exact ⟨_, rfl, getElem_put_same _ _ _, fun _ => getElem_put_same _ _ _⟩

/-- A DEGRADE condition that ends moves the fault unit alone. -/
theorem clearCondition_degrade {c : FaultCode} (h : isHold c = false) (s : State) :
    ∃ f, clearCondition c s = { s with ftu := f } ∧ Ended c s { s with ftu := f } := by
  unfold clearCondition
  split
  next =>
    dsimp only
    split
    next =>
      unfold leaveFault
      rw [announceHold_degrade h]
      exact ⟨_, rfl, getElem_put_same _ _ _, fun _ => getElem_put_same _ _ _⟩
    next stays =>
      rw [h, Bool.not_false, Bool.true_or, Bool.and_true, Bool.not_eq_true] at stays
      exact ⟨_, rfl, getElem_put_same _ _ _, fun _ => stays⟩
  next absent => exact ⟨s.ftu, rfl, Bool.eq_false_iff.mpr absent, fun k => absurd k absent⟩

/-! ### The line fault (R51, R71, R100) -/

theorem works_askAfterFault (w : Works s t) : Works s (askAfterFault t) := by
  unfold askAfterFault
  split
  · split
    · exact w
    · exact works_askNext (w.ask _ _ _ _ id id)
  · exact w

/-! ### The window (R57, R58) -/

/-- The state in which a window is judged. -/
def windowEnded (c : RollCall) (samples : WindowSamples) (s : State) : State :=
  keepSamples (windowRead samples c s) { s with lnu := { s.lnu with state := .gap } }

theorem endWindow_of_context {c : RollCall} (h : s.lnu.rollCall = some c) (samples : WindowSamples) :
    endWindow samples s = judgeWindow c (windowRead samples c s) (windowEnded c samples s) := by
  have read : readWindow samples s = windowRead samples c s := by unfold readWindow; rw [h]; rfl
  unfold endWindow windowEnded
  dsimp only
  rw [read]
  simp only [h]

theorem mirrored_iff {w : WindowSamples} : mirrored w = true ↔ w.extractLsb' 0 24 = w.extractLsb' 24 24 := by
  unfold mirrored; exact beq_iff_eq

/-- What the judged window's own question adds is made of works. -/
theorem judgeWindow_of_garbled {c : RollCall} {w : WindowSamples} (h : w.extractLsb' 0 24 ≠ w.extractLsb' 24 24) :
    Works (markIncompleteFor c.question (noteOccurrence s)) (judgeWindow c w s) := by
  unfold judgeWindow
  dsimp only
  rw [if_neg (mt mirrored_iff.mp h)]
  split
  · exact works_questionDone _ .refl
  · exact .refl

theorem judgeWindow_of_valid {c : RollCall} {w : WindowSamples} (h : w.extractLsb' 0 24 = w.extractLsb' 24 24) :
    Works (giveResult c.question w s) (judgeWindow c w s) := by
  unfold judgeWindow
  dsimp only
  rw [if_pos (mirrored_iff.mpr h)]
  split
  · exact works_questionDone _ .refl
  · exact .refl

theorem incomplete_markIncompleteFor (s : State) : incomplete r (markIncompleteFor (.hold r) s) = some (claimRound s) := by
  unfold markIncompleteFor; cases r <;> rfl

theorem claimRound_setIncomplete (r : Resource) (s : State) : claimRound (setIncomplete r s) = claimRound s := by cases r <;> rfl

/-! ### A valid HOLD result (R98) -/

/-- The table that a valid HOLD result leaves. -/
def reconciledTable (r : Resource) (w : WindowSamples) (s : State) : Vector (Option Holding) 24 :=
  Vector.ofFn (fun (i : Fin 24) =>
    if i.val + 1 = (setting s).station then (claimTable r s)[i]
    else reconcileEntry (answered w (i.val + 1)) (claimTable r s)[i])

/-- Some other station answered without an entry here. -/
def holderUnknown (r : Resource) (w : WindowSamples) (s : State) : Bool :=
  (List.range 24).any (fun i => i + 1 != (setting s).station && answered w (i + 1) && (entryAt r (i + 1) s).isNone)

theorem reconcile_eq (r : Resource) (w : WindowSamples) (s : State) :
    reconcile r w s =
      (let s1 := if reconciledTable r w s = claimTable r s then s else emit (.reexamine r) (setTable r (reconciledTable r w s) s)
       if holderUnknown r w s then setIncomplete r s1 else s1) := rfl

theorem claimTable_reconcile (r : Resource) (w : WindowSamples) (s : State) :
    claimTable r (reconcile r w s) = reconciledTable r w s := by
  have kept : ∀ t, claimTable r (setIncomplete r t) = claimTable r t := by intro t; cases r <;> rfl
  have table : claimTable r (if reconciledTable r w s = claimTable r s then s
      else emit (.reexamine r) (setTable r (reconciledTable r w s) s)) = reconciledTable r w s := by
    split
    next same => exact same.symm
    next => cases r <;> rfl
  rw [reconcile_eq]
  dsimp only
  split
  · rw [kept, table]
  · exact table

theorem side_setTable_ne {r' : Resource} (ne : r ≠ r') (x : Vector (Option Holding) 24) (s : State) :
    side r' (setTable r x s) = side r' s := by
  cases r <;> cases r' <;> first
    | exact absurd rfl ne
    | rfl

theorem side_setIncomplete (r r' : Resource) (s : State) : side r' (setIncomplete r s) = side r' s := by
  cases r <;> cases r' <;> rfl

theorem side_reconcile_ne {r' : Resource} (ne : r ≠ r') (w : WindowSamples) (s : State) : side r' (reconcile r w s) = side r' s := by
  have table : side r' (if reconciledTable r w s = claimTable r s then s
      else emit (.reexamine r) (setTable r (reconciledTable r w s) s)) = side r' s := by
    split
    · rfl
    · exact (side_emit _ _ _).trans (side_setTable_ne ne _ s)
  rw [reconcile_eq]
  dsimp only
  split
  · rw [side_setIncomplete, table]
  · exact table

theorem setting_reconcile (r : Resource) (w : WindowSamples) (s : State) : setting (reconcile r w s) = setting s :=
  setting_of_steady (by simp)

theorem othersOf_reconcile (r : Resource) (w : WindowSamples) (s : State) {n : Nat} (low : 1 ≤ n) (high : n ≤ 24) :
    othersOf (reconcile r w s) r n = reconcileEntry (answered w n) (othersOf s r n) := by
  unfold othersOf
  rw [setting_reconcile]
  split
  · rfl
  next other =>
    unfold entryAt
    rw [dif_pos ⟨low, high⟩, dif_pos ⟨low, high⟩, claimTable_reconcile]
    unfold reconciledTable
    rw [Vector.getElem_ofFn]
    have place : n - 1 + 1 = n := by omega
    simp only [place, if_neg other]
    rfl

theorem incomplete_reconcile (r : Resource) {w : WindowSamples} {s : State} {n : Nat} (low : 1 ≤ n) (high : n ≤ 24)
    (other : n ≠ (setting s).station) (yes : w.toNat.testBit (n - 1) = true) (unknown : othersOf s r n = none) :
    incomplete r (reconcile r w s) = some (claimRound s) := by
  have found : holderUnknown r w s = true := by
    rw [othersOf_of_ne r other] at unknown
    refine List.any_eq_true.mpr ⟨n - 1, List.mem_range.mpr (by omega), ?_⟩
    have place : n - 1 + 1 = n := by omega
    simp [place, other, answered, yes, unknown]
  have round : ∀ x, claimRound (emit (.reexamine r) (setTable r x s)) = claimRound s := by intro x; cases r <;> rfl
  rw [reconcile_eq, found]
  dsimp only
  rw [if_pos rfl, incomplete_setIncomplete, if_pos rfl]
  split
  · rfl
  · rw [round]

/-- The blocks that a reconcile leaves alone. -/
theorem blocks_reconcile (r : Resource) (w : WindowSamples) (s : State) :
    (reconcile r w s).lnu = s.lnu ∧ (reconcile r w s).ogu = s.ogu ∧ (reconcile r w s).msu = s.msu := by
  rw [reconcile_eq]
  dsimp only [setIncomplete]
  (repeat' split) <;> simp

/-! ### A valid STOPPING or ALARM result (R69, R70) -/

theorem records_mapTowers (f : Bool → Peer → Peer) (w : WindowSamples) (s : State) (i : Fin 24) :
    (mapTowers f w s).ptb.records[i] =
      if s.ptb.records[i].state = .heard ∧ s.ptb.records[i].role = some .tower ∧ i.val + 1 ≠ (setting s).station then
        f (w.toNat.testBit i.val) s.ptb.records[i]
      else s.ptb.records[i] := by
  have place : answered w (i.val + 1) = w.toNat.testBit i.val := by simp [answered]
  have tower : isHeardTower s (i.val + 1) s.ptb.records[i] = true ↔
      s.ptb.records[i].state = .heard ∧ s.ptb.records[i].role = some .tower ∧ i.val + 1 ≠ (setting s).station := by
    simp [isHeardTower, and_assoc]
  unfold mapTowers
  simp only [Fin.getElem_fin, Vector.getElem_ofFn, place]
  exact if_congr tower rfl rfl

/-- A roll-call result moves the records alone. -/
theorem mapTowers_eq (f : Bool → Peer → Peer) (w : WindowSamples) (s : State) :
    ∃ x, mapTowers f w s = { s with ptb := { s.ptb with records := x } } := ⟨_, rfl⟩

theorem alarmResult_eq (u : Nat) (w : WindowSamples) (s : State) :
    alarmResult u w s = mapTowers (fun yes p => { p with alarm := yes || (p.alarm && !decide (u ≤ 4)) }) w s := by
  unfold alarmResult
  refine congrArg (fun g => mapTowers g w s) (funext fun yes => funext fun p => ?_)
  cases yes <;> by_cases low : u ≤ 4 <;> simp [low]

/-! ### The end of the joining (R101) -/

/-- A JOINING station with its joining ended. -/
def joinedNow (s : State) : State :=
  { s with sld := { s.sld with mode := .joined }, clu := { s.clu with answer := none, listening := none } }

theorem works_becomeJoined (s : State) : Works (joinedNow s) (becomeJoined s) := by
  unfold becomeJoined
  exact works_fillFollows (works_emit _ (works_emit _ (works_emit _ (works_handField _ .refl))))

/-- The resources whose question is unanswered are marked. -/
def unansweredMarked (s : State) : State :=
  let s1 := if s.clu.answeredSupply then s else setIncomplete .supply s
  if s1.clu.answeredLoad then s1 else setIncomplete .load s1

theorem unansweredMarked_marks (s : State) :
    quiet (unansweredMarked s) = quiet s ∧
    (s.clu.answeredSupply = false → incomplete .supply (unansweredMarked s) = some (claimRound s)) ∧
    (s.clu.answeredLoad = false → incomplete .load (unansweredMarked s) = some (claimRound s)) := by
  let s1 := if s.clu.answeredSupply then s else setIncomplete .supply s
  have answered : s1.clu.answeredLoad = s.clu.answeredLoad := by
    dsimp only [s1]; split <;> rfl
  have round : claimRound s1 = claimRound s := by dsimp only [s1]; split <;> rfl
  have ends : unansweredMarked s = if s.clu.answeredLoad then s1 else setIncomplete .load s1 := by
    rw [← answered]; rfl
  refine ⟨?_, fun unanswered => ?_, fun unanswered => ?_⟩
  · unfold unansweredMarked; dsimp only; (repeat' split) <;> simp
  · have first : s1 = setIncomplete .supply s := if_neg (by rw [unanswered]; decide)
    rw [ends, first]
    split
    · rw [incomplete_setIncomplete, if_pos rfl]
    · rw [incomplete_setIncomplete, if_neg (by decide), incomplete_setIncomplete, if_pos rfl]
  · rw [ends, unanswered, if_neg (by decide), incomplete_setIncomplete, if_pos rfl, round]

end

end Sys2Proof.Machine

namespace Sys2Proof.Proofs
open Sys2Proof Sys2Proof.Machine

/-- Settles O29: a garbled window is a NOTE and a mark, a valid one the reconciled table; the question's end is made of works. -/
theorem holdWindowJudged : Obligations.HoldWindowJudged := by
  intro samples c s on window context
  have a : arises (.windowEnd samples) s = true := arises_and on (by simp [window])
  let base := windowEnded c samples (beginEvent s)
  let read := windowRead samples c s
  have judged : effect (.windowEnd samples) (beginEvent s) = judgeWindow c read base :=
    endWindow_of_context (s := beginEvent s) context samples
  have answer : exec (.windowEnd samples) s = .next (event (effect (.windowEnd samples)) s) := exec_of_arises a
  have ended : base.lnu.state = .gap ∧ base.ptb = s.ptb ∧ othersOf base = othersOf s ∧ base.msu = s.msu ∧ base.ilu = s.ilu ∧
      base.ogu = s.ogu := ⟨rfl, rfl, rfl, rfl, rfl, rfl⟩
  obtain ⟨gap, peers, others, measure, inputs, demand⟩ := ended
  refine ⟨fun garbled => ⟨_, answer, ?_⟩, fun r question valid => ⟨_, answer, ?_⟩⟩
  · have works : Works (markIncompleteFor c.question (noteOccurrence base)) (effect (.windowEnd samples) (beginEvent s)) := by
      rw [judged]; exact judgeWindow_of_garbled garbled
    have calm := quiet_of_works (works_of_event works)
    rw [quiet_markIncompleteFor, quiet_noteOccurrence] at calm
    refine ⟨(lineState_of_quiet calm).trans gap, (ptb_of_quiet calm).trans peers, (others_of_quiet calm).trans others,
      (msu_of_quiet calm).trans measure, (ilu_of_quiet calm).trans inputs, (ogu_of_quiet calm).trans demand,
      fun r question => ?_⟩
    rw [question] at works
    have marked := marked_of_event works ((incomplete_markIncompleteFor _).trans (congrArg some (claimRound_setIncomplete r _).symm))
    exact marked.trans (congrArg some (claimRound_setIncomplete r _))
  · have works : Works (reconcile r read base) (effect (.windowEnd samples) (beginEvent s)) := by
      have given : giveResult c.question read base = reconcile r read base := by rw [question]; rfl
      rw [judged, ← given]; exact judgeWindow_of_valid valid
    have calm := quiet_of_works (works_of_event works)
    obtain ⟨line, guard, measured⟩ := blocks_reconcile r read base
    refine ⟨fun n low high => ?_, fun r' n ne => ?_, fun n low high other yes unknown => ?_,
      (lineState_of_quiet calm).trans ((congrArg Line.state line).trans gap), ?_,
      (msu_of_quiet calm).trans (measured.trans measure), ?_, (ogu_of_quiet calm).trans (guard.trans demand)⟩
    · rw [others_of_quiet calm, othersOf_reconcile r read base low high, others]
      rfl
    · rw [others_of_quiet calm]
      have kept := entryAt_of_side (side_reconcile_ne (Ne.symm ne) read base) n
      unfold othersOf
      rw [setting_reconcile, kept]
      rfl
    · have round : claimRound (reconcile r read base) = claimRound base := by
        unfold claimRound; rw [setting_reconcile]
      exact marked_of_event works (round ▸ incomplete_reconcile r low high other yes (others ▸ unknown)) |>.trans (congrArg some round)
    · exact (ptb_of_quiet calm).trans ((ptb_reconcile r read base).trans peers)
    · exact ilu_taken (c := .windowEnd samples) rfl s

/-- Settles O30: the records of the towers heard take their answers. -/
theorem rollCallWritesTowers : Obligations.RollCallWritesTowers := by
  intro samples c s on window context read valid f asked
  have a : arises (.windowEnd samples) s = true := arises_and on (by simp [window])
  let base := windowEnded c samples (beginEvent s)
  have judged : effect (.windowEnd samples) (beginEvent s) = judgeWindow c read base :=
    endWindow_of_context (s := beginEvent s) context samples
  have answer : exec (.windowEnd samples) s = .next (event (effect (.windowEnd samples)) s) := exec_of_arises a
  have given : giveResult c.question read base = mapTowers f read base := by
    rcases asked with ⟨question, rfl⟩ | ⟨u, question, rfl⟩
    · rw [question]; rfl
    · rw [question]; exact alarmResult_eq u read base
  have works : Works (mapTowers f read base) (effect (.windowEnd samples) (beginEvent s)) := by
    rw [judged, ← given]; exact judgeWindow_of_valid valid
  have calm := quiet_of_works (works_of_event works)
  have records := records_mapTowers f read base
  obtain ⟨x, written⟩ := mapTowers_eq f read base
  rw [written] at calm records
  have peers := ptb_of_quiet calm
  refine ⟨_, answer, fun i => ?_, (congrArg Peers.capacity peers :), (congrArg Peers.anySpill peers :),
    (congrArg Peers.supplyAbsent peers :), (congrArg Peers.alone peers :), (others_of_quiet calm :), (lineState_of_quiet calm :),
    (msu_of_quiet calm :), ilu_taken rfl s⟩
  exact (congrArg (fun p : Peers => p.records[i]) peers).trans (records i)

/-- Settles O28: LINE_ISOLATED is raised and cleared, and the marks made at the end stand. -/
theorem lineFaultBeginsAndEnds : Obligations.LineFaultBeginsAndEnds := by
  refine fun s on => ⟨fun noWindow sound => ?_, fun fault => ?_⟩
  · have a : arises .lineFaultEntry s = true := arises_and (arises_and on (by simpa using noWindow)) (by simpa using sound)
    have answer : exec .lineFaultEntry s = .next (event (effect .lineFaultEntry) s) := exec_of_arises a
    let cut := { abandonSending (beginEvent s) with lnu := { (abandonSending (beginEvent s)).lnu with
      state := .lineFault, dominantRun := 65, recessive := 0, slot := 0, heldOff := false
      parser := .atReset, rollCall := none } }
    obtain ⟨f, raised, stands⟩ := raiseCondition_degrade (c := .lineIsolated) rfl cut
    have taken : effect .lineFaultEntry (beginEvent s) = emit .frostEvaluate { cut with ftu := f } := congrArg (emit _) raised
    have calm : quiet (event (effect .lineFaultEntry) s) = quiet { cut with ftu := f } :=
      (quiet_event _ _).trans ((congrArg quiet taken).trans (quiet_emit _ _))
    have line : { (event (effect .lineFaultEntry) s).lnu with queue := [], nextAge := 0 } =
        { cut.lnu with queue := [], nextAge := 0 } := congrArg Quiet.line calm
    exact ⟨_, answer, congrArg Line.state line, congrArg Line.onLine line, congrArg Line.rollCall line, congrArg Line.parser line,
      (congrArg Line.dupTimer line :), (congrArg Line.errors line :), raised_of_quiet calm stands, (msu_of_quiet calm :), (ilu_of_quiet calm :),
      (ptb_of_quiet calm :), (ogu_of_quiet calm :)⟩
  · have a : arises .lineFaultExit s = true := arises_and on (by simp [fault])
    have answer : exec .lineFaultExit s = .next (event (effect .lineFaultExit) s) := exec_of_arises a
    let back := { beginEvent s with lnu := { s.lnu with state := .quiet, slot := 0, dominantRun := 0, recessive := 16 } }
    obtain ⟨f, cleared, absent⟩ := clearCondition_degrade (c := .lineIsolated) rfl back
    let marked := setIncomplete .load (setIncomplete .supply { back with ftu := f })
    have works : Works marked (effect .lineFaultExit (beginEvent s)) := by
      have taken : effect .lineFaultExit (beginEvent s) = emit .frostEvaluate (askAfterFault marked) :=
        congrArg (fun x => emit .frostEvaluate (askAfterFault (setIncomplete .load (setIncomplete .supply x)))) cleared
      rw [taken]
      exact works_emit _ (works_askAfterFault .refl)
    have calm : quiet (event (effect .lineFaultExit) s) = quiet { back with ftu := f } :=
      (quiet_of_works (works_of_event works)).trans ((quiet_setIncomplete _ _).trans (quiet_setIncomplete _ _))
    have supply : incomplete .supply marked = some (claimRound marked) := rfl
    have load : incomplete .load marked = some (claimRound marked) := rfl
    have line : { (event (effect .lineFaultExit) s).lnu with queue := [], nextAge := 0 } =
        { back.lnu with queue := [], nextAge := 0 } := congrArg Quiet.line calm
    exact ⟨_, answer, congrArg Line.state line, congrArg Line.slot line, ended_of_quiet calm absent,
      (marked_of_event works supply :), (marked_of_event works load :), (others_of_quiet calm :), (msu_of_quiet calm :),
      (ilu_of_quiet calm :), (ptb_of_quiet calm :), (ogu_of_quiet calm :)⟩

/-- Settles O41: the first question enters the queue; and the marks of the answer timer and the mode stand at the event's end. -/
theorem joiningTimers : Obligations.JoiningTimers := by
  refine ⟨fun s rested on due idle room fresh => ?_, fun s on due joining => ?_⟩
  · have a : arises .listeningTimerExpiry s = true := arises_and on (runOut_iff.mpr due)
    refine exec_of_rested a ?_ ⟨rested.1, rested.2⟩
    show endListening (beginEvent s) = _
    unfold endListening askNext
    simp only [show (beginEvent s).clu.inFlight = none from idle]
    exact queueNotice_enters (item := .rollcall (.hold .supply)) on (fun claim => by cases claim) room fresh
  · have a : arises .answerTimerExpiry s = true := arises_and (arises_and on (runOut_iff.mpr due)) (by simp [joining])
    have answer : exec .answerTimerExpiry s = .next (event (effect .answerTimerExpiry) s) := exec_of_arises a
    let marked := unansweredMarked (beginEvent s)
    have works : Works (joinedNow marked) (event (effect .answerTimerExpiry) s) := works_of_event (works_becomeJoined marked)
    obtain ⟨calm, supply, load⟩ := unansweredMarked_marks (beginEvent s)
    have round : claimRound (joinedNow marked) = claimRound s := claimRound_of_quiet (s := s) (t := marked) calm
    refine ⟨_, answer, ?_, (quiet_of_works works).trans calm, fun open_ => ?_, fun open_ => ?_⟩
    · rcases mode_of_works works with same | ⟨before, _⟩
      · exact same
      · cases before
    · exact (marked_of_works works ((supply open_).trans (congrArg some round.symm))).trans (congrArg some round)
    · exact (marked_of_works works ((load open_).trans (congrArg some round.symm))).trans (congrArg some round)

end Sys2Proof.Proofs
end

section
/-! PROOFS. A duplicate station, the inlet that does not open, the tariff period, and what UNCONFIGURED makes of seconds and notices. -/

namespace Sys2Proof.Machine

section
variable {s t : State}

theorem quiet_of_beside (h : beside t = beside s) : quiet t = quiet s :=
  congrArg (fun b : Beside => { quiet b.state with others := b.others }) h

/-! ### The duplicate station (R44, R100) -/

/-- The line after a notice with this station's own number. -/
def duplicateHeard (h : Heard) (s : State) : State :=
  { lineAfterHeard s with lnu := { (lineAfterHeard s).lnu with
    dupTimer := some 0
    state := if isRollcall h.content then .answerWait else .gap
    rollCall := if isRollcall h.content then none else s.lnu.rollCall } }

/-- A duplicate raises DUP_STATION; the release of the own claims leaves the rest alone. -/
theorem quiet_heardDuplicate (h : Heard) (s : State) :
    ∃ f, quiet (heardDuplicate h s) = quiet { duplicateHeard h s with ftu := f } ∧
      Raised .dupStation s { duplicateHeard h s with ftu := f } := by
  obtain ⟨f, raised, stands⟩ := raiseCondition_degrade (c := .dupStation) rfl (duplicateHeard h s)
  have begins : heardDuplicate h s =
      if dupPresent (duplicateHeard h s) then duplicateHeard h s else beginDuplicate (duplicateHeard h s) := rfl
  rw [begins]
  split
  next present => exact ⟨s.ftu, rfl, present, fun absent => absurd absent (Bool.not_eq_false _ ▸ present)⟩
  next =>
    refine ⟨f, quiet_of_beside ?_, stands⟩
    unfold beginDuplicate
    rw [beside_releaseForDuplicate, beside_releaseForDuplicate, raised]

/-! ### A fill state entered (R107) -/

/-- What asking and withdrawing leave is what the controller itself moved. -/
theorem flc_setFill {new : FillState} (ne : s.flc.state ≠ new) : (setFill new s).flc = (moveFill new s).flc := by
  unfold setFill
  dsimp only
  rw [if_neg ne]
  split
  · split; exacts [rfl, flc_of_beside (beside_askOwn _ _ _ _)]
  · rfl
  · rfl
  · split; exacts [flc_of_beside (beside_withdrawOwn _ _), rfl]

@[simp] theorem state_setFill (new : FillState) (s : State) : (setFill new s).flc.state = new := by
  by_cases same : s.flc.state = new
  · unfold setFill; rw [if_pos same]; exact same
  · rw [flc_setFill same]; rfl

/-! ### The tariff period (R73 to R75, R111) -/

theorem quiet_dayEndsTariff (s : State) : quiet (dayEndsTariff s) = quiet s := by
  unfold dayEndsTariff; split <;> simp

theorem quiet_tariffChange (s : State) : quiet (tariffChange s) = quiet s := by
  unfold tariffChange; dsimp only; split <;> simp [quiet_dayEndsTariff]

theorem quiet_takePeriod (night : Bool) (e : Nat) (s : State) : quiet (takePeriod night e s) = quiet (setPeriod night e s) := by
  unfold takePeriod; split
  · rfl
  · exact quiet_tariffChange _

/-- The tariff period with its counts and the shortfall of the last night. -/
def periodOf (s : State) : Bool × Nat × Nat × Bool × Int :=
  (s.flc.night, s.flc.elapsed, s.flc.silence, s.flc.nightTimeoutDue, s.flc.shortfall)

theorem periodOf_of_quiet (h : quiet t = quiet s) : periodOf t = periodOf s :=
  congrArg (fun q : Quiet => (q.night, q.elapsed, q.silence, q.timeoutDue, q.shortfall)) h

/-- What a period taken leaves: the period, its elapsed minutes and the shortfall of a night that ends (R75, R111). -/
theorem periodOf_takePeriod (night : Bool) (e : Nat) (s : State) :
    periodOf (takePeriod night e s) = (night, e, s.flc.silence, s.flc.nightTimeoutDue,
      if s.flc.night = true ∧ night = false then max 0 (s.flc.plan.vTgt - s.msu.volume) else s.flc.shortfall) := by
  rw [periodOf_of_quiet (quiet_takePeriod night e s)]
  unfold setPeriod periodOf
  split
  next same => rw [if_neg (by rintro ⟨on, off⟩; rw [same, off] at on; cases on), same]
  next other =>
    cases was : s.flc.night <;> cases night <;> simp_all [handField, emit]

/-- A source's contact sets the period; elsewhere it does nothing to it (R73). -/
theorem periodOf_tariffContact (now : Bool) (s : State) :
    periodOf (tariffContact now s) = if (setting s).tariffSource then (now, 0, s.flc.silence, s.flc.nightTimeoutDue,
      if s.flc.night = true ∧ now = false then max 0 (s.flc.plan.vTgt - s.msu.volume) else s.flc.shortfall) else periodOf s := by
  unfold tariffContact
  split
  · rw [periodOf_of_quiet (quiet_queueNotice _ _ _), periodOf_takePeriod]
  · rfl

/-- The period of a station that is no source is that of the TARIFF heard (R74). -/
theorem periodOf_tariffHeard (night : Bool) (e : Nat) (s : State) :
    periodOf (tariffHeard night e s) = if (setting s).tariffSource then periodOf s
      else (night, if night then e else 0, 0, s.flc.nightTimeoutDue,
        if s.flc.night = true ∧ night = false then max 0 (s.flc.plan.vTgt - s.msu.volume) else s.flc.shortfall) := by
  unfold tariffHeard
  split
  · rfl
  · exact periodOf_takePeriod _ _ _

/-- With the night what it wanted ends (R111). -/
theorem not_forTariff_dayEndsTariff (s : State) : ¬ forTariff (dayEndsTariff s).flc.state := by
  unfold dayEndsTariff
  split
  · rw [state_setFill]; exact not_forTariff_rest
  · rw [state_setFill]; exact not_forTariff_rest
  · rw [state_setFill]; exact not_forTariff_rest
  next wait claim fill => rintro (h | h | h); exacts [wait h, claim h, fill h]

/-- By day no state for the tariff stands at the end of a tariff change (R111). -/
theorem not_forTariff_tariffChange (day : s.flc.night = false) : ¬ forTariff (tariffChange s).flc.state := by
  have night : (replan true s).flc.night = false := (night_of_quiet (quiet_replan true s)).trans day
  unfold tariffChange
  dsimp only
  rw [night, if_neg (by decide)]
  refine not_forTariff_of_works (works_planStep (works_handUrgency .refl)) ?_ (not_forTariff_dayEndsTariff _)
  exact (night_of_quiet (quiet_dayEndsTariff _)).trans night

/-! ### What a notice heard leaves before the block of its kind takes it -/

/-- The quiet part without the peer table. -/
def unpeered (s : State) : Quiet := { quiet s with ptb := .atReset, line := .atReset }

theorem unpeered_of_quiet (h : quiet t = quiet s) : unpeered t = unpeered s :=
  congrArg (fun q : Quiet => { q with ptb := .atReset, line := .atReset }) h

theorem periodOf_of_unpeered (h : unpeered t = unpeered s) : periodOf t = periodOf s :=
  congrArg (fun q : Quiet => (q.night, q.elapsed, q.silence, q.timeoutDue, q.shortfall)) h

theorem unpeered_heardBefore (h : Heard) (s : State) : unpeered (peersChanged (heardBefore h s)) = unpeered s := by
  have peer : ∀ (n : Nat) (p : Peer) (t : State), unpeered (setPeer n p t) = unpeered t := by
    intro n p t; unfold setPeer; split <;> rfl
  have capacity : ∀ t : State, unpeered (updateCapacity t) = unpeered t := by
    intro t; exact (unpeered_of_quiet (quiet_of_beside (beside_takeCapacity t.ptb.capacity _))).trans rfl
  have summary : ∀ t : State, unpeered (updateSummary t) = unpeered t := by
    intro t
    let bits := { t with ptb := { t.ptb with anySpill := anySpillNow t, supplyAbsent := supplyAbsentNow t, alone := aloneNow t } }
    refine Eq.trans (b := unpeered bits) (unpeered_of_quiet ?_) rfl
    unfold updateSummary
    simp only [apply_ite quiet, quiet_reliefEnd, quiet_reliefStart, quiet_handField, quiet_changeSeen, ite_self]
    rfl
  unfold peersChanged
  rw [summary, capacity]
  unfold heardBefore writePeer hearSender
  dsimp only
  split <;> (try split) <;> simp only [peer] <;> rfl

/-- With nothing on the line and nothing SENDING there is nothing to abandon. -/
theorem abandonSending_of_idle (kept : s.lnu.queue.map backToWaiting = s.lnu.queue) (idle : s.lnu.onLine = none) :
    abandonSending s = s := by
  unfold abandonSending; rw [kept, ← idle]

end

end Sys2Proof.Machine

namespace Sys2Proof.Proofs
open Sys2Proof Sys2Proof.Machine

/-- Settles O19: the period is taken, and what the works of the event leave of the fill state is not for the tariff by day. -/
theorem tariffPeriodChanges : Obligations.TariffPeriodChanges := by
  refine fun s on => ⟨fun timer => ?_, fun due => ?_, fun chars h night e heard other content => ?_⟩
  · have a : arises (.inputSettled .tariff) s = true := arises_and on timer
    have answer : exec (.inputSettled .tariff) s = .next (event (effect (.inputSettled .tariff)) s) := exec_of_arises a
    generalize taken : event (effect (.inputSettled .tariff)) s = t at answer
    have period : periodOf t = if (setting s).tariffSource then (rawInput .tariff s, 0, s.flc.silence, s.flc.nightTimeoutDue,
        if s.flc.night = true ∧ rawInput .tariff s = false then max 0 (s.flc.plan.vTgt - s.msu.volume) else s.flc.shortfall)
        else periodOf s := by
      rw [← taken]
      exact (periodOf_of_quiet (quiet_event _ _)).trans
        (periodOf_tariffContact (rawInput .tariff s) (settleInput .tariff (beginEvent s)))
    have latches : t.ilu = (settleInput .tariff (beginEvent s)).ilu := by
      rw [← taken]; exact (ilu_event _ _).trans (ilu_tariffContact _ _)
    have measured : t.msu = s.msu := by rw [← taken]; exact msu_taken a (by simp) (by simp) (by simp)
    have peers : t.ptb = s.ptb := by rw [← taken]; exact ptb_taken rfl s
    refine ⟨t, answer, ?_, ?_, ?_, (congrArg Inputs.latch latches :), measured, peers⟩ <;>
      cases source : (setting s).tariffSource <;> simp_all [periodOf]
  · have a : arises .tariffNightTimeout s = true := arises_and on due
    have answer : exec .tariffNightTimeout s = .next (event (effect .tariffNightTimeout) s) := exec_of_arises a
    let s1 := { beginEvent s with flc := { s.flc with nightTimeoutDue := false } }
    have over_iff : nightIsOver s1 = true ↔
        s.flc.night = true ∧ (setting s).window ≤ s.flc.elapsed ∧ 15 ≤ s.flc.silence := by
      unfold nightIsOver
      simp only [Bool.and_eq_true, decide_eq_true_eq, and_assoc]
      rfl
    have effect_eq : effect .tariffNightTimeout (beginEvent s) =
        if nightIsOver s1 then takePeriod false 0 s1 else planAndStep true s1 := rfl
    generalize taken : event (effect .tariffNightTimeout) s = t at answer
    have calm : periodOf t = periodOf (effect .tariffNightTimeout (beginEvent s)) := by
      rw [← taken]; exact periodOf_of_quiet (quiet_event _ _)
    have period : periodOf t = if nightIsOver s1 then (false, 0, s.flc.silence, false, max 0 (s.flc.plan.vTgt - s.msu.volume))
        else (s.flc.night, s.flc.elapsed, s.flc.silence, false, s.flc.shortfall) := by
      rw [calm, effect_eq]
      split
      next isOver =>
        rw [periodOf_takePeriod, if_pos ⟨(over_iff.mp isOver).1, rfl⟩]
        rfl
      next => rw [periodOf_of_quiet (quiet_planAndStep _ _)]; rfl
    have tariff : nightIsOver s1 = true → ¬ forTariff t.flc.state := by
      intro isOver
      have night := (over_iff.mp isOver).1
      have took : effect .tariffNightTimeout (beginEvent s) = tariffChange (setPeriod false 0 s1) := by
        rw [effect_eq, if_pos isOver]
        unfold takePeriod
        rw [if_neg (by rw [show s1.flc.night = true from night]; decide)]
      have day : (setPeriod false 0 s1).flc.night = false := by
        unfold setPeriod
        rw [if_neg (by rw [show s1.flc.night = true from night]; decide)]
        rfl
      rw [← taken]
      refine not_forTariff_of_works (works_event _ _) ?_ ?_
      · rw [took]; exact (night_of_quiet (quiet_tariffChange _)).trans day
      · rw [took]; exact not_forTariff_tariffChange day
    have measured : t.msu = s.msu := by rw [← taken]; exact msu_taken a (by simp) (by simp) (by simp)
    have inputs : t.ilu = s.ilu := by rw [← taken]; exact ilu_taken (c := .tariffNightTimeout) rfl s
    have peers : t.ptb = s.ptb := by rw [← taken]; exact ptb_taken (c := .tariffNightTimeout) rfl s
    rw [← over_iff]
    cases isOver : nightIsOver s1 with
    | true =>
      rw [isOver, if_pos rfl] at period
      simp only [periodOf, Prod.mk.injEq] at period
      obtain ⟨night, elapsed, silence, done, shortfall⟩ := period
      refine ⟨t, answer, fun _ => ⟨night, elapsed, shortfall, ?_⟩, fun k => absurd rfl k, done, silence, inputs, measured, peers⟩
      intro mem
      exact tariff isOver (by simpa [forTariff] using mem)
    | false =>
      rw [isOver, if_neg (by decide)] at period
      simp only [periodOf, Prod.mk.injEq] at period
      obtain ⟨night, elapsed, silence, done, shortfall⟩ := period
      exact ⟨t, answer, fun k => (by cases k), fun _ => ⟨night, elapsed, shortfall⟩, done, silence, inputs, measured, peers⟩
  · have a := arises_of_heardAs (loaded_of_active on) heard
    have answer : exec (.noticeHeard chars) s = .next (event (effect (.noticeHeard chars)) s) := exec_of_arises a
    let x := peersChanged (heardBefore h (beginEvent s))
    have handed : effect (.noticeHeard chars) (beginEvent s) = tariffHeard night e x := by
      rw [effect_heardPeer on heard other]
      show handOn h x = _
      unfold handOn
      rw [content]
    have before : periodOf x = periodOf s := periodOf_of_unpeered (unpeered_heardBefore h (beginEvent s))
    have source : (setting x).tariffSource = (setting s).tariffSource := congrArg Settings.tariffSource (setting_heardBefore h _)
    have period : periodOf (event (effect (.noticeHeard chars)) s) = _ :=
      (periodOf_of_quiet (quiet_event _ _)).trans ((congrArg periodOf handed).trans (periodOf_tariffHeard night e x))
    have inputs : (event (effect (.noticeHeard chars)) s).ilu = s.ilu := by
      refine (ilu_event _ _).trans ((congrArg State.ilu handed).trans ?_)
      rw [ilu_tariffHeard]
      exact ilu_heardBefore h _
    refine ⟨_, answer, fun away => ?_, fun mine => ?_, msu_taken a (by simp) (by simp) (by simp), inputs⟩
    · rw [source, away, if_neg (by decide)] at period
      simp only [periodOf, Prod.mk.injEq] at period
      obtain ⟨current, minutes, silence, _⟩ := period
      exact ⟨current, minutes, silence⟩
    · rw [source, mine, if_pos rfl, before] at period
      simp only [periodOf, Prod.mk.injEq] at period
      obtain ⟨current, minutes, silence, _⟩ := period
      exact ⟨current, minutes, silence⟩

end Sys2Proof.Proofs


namespace Sys2Proof.Proofs
open Sys2Proof Sys2Proof.Machine

/-- Settles O31: DUP_STATION is raised and cleared; the own claims go, and nothing else with them. -/
theorem duplicateStation : Obligations.DuplicateStation := by
  refine fun s on => ⟨fun chars h heard mine => ?_, fun due => ?_⟩
  · have answer : exec (.noticeHeard chars) s = .next (event (effect (.noticeHeard chars)) s) :=
      exec_of_arises (arises_of_heardAs (loaded_of_active on) heard)
    obtain ⟨f, same, raised⟩ := quiet_heardDuplicate h (beginEvent s)
    have calm : quiet (event (effect (.noticeHeard chars)) s) = quiet { duplicateHeard h (beginEvent s) with ftu := f } :=
      (quiet_event _ _).trans ((congrArg quiet (effect_heardDuplicate on heard mine)).trans same)
    have line : { (event (effect (.noticeHeard chars)) s).lnu with queue := [], nextAge := 0 } =
        { (duplicateHeard h (beginEvent s)).lnu with queue := [], nextAge := 0 } := congrArg Quiet.line calm
    exact ⟨_, answer, congrArg Line.dupTimer line, raised_of_quiet calm raised, (ptb_of_quiet calm :), (others_of_quiet calm :),
      congrArg Line.state line, (msu_of_quiet calm :), (ilu_of_quiet calm :), (night_of_quiet calm :)⟩
  · have answer : exec .dupTimerExpiry s = .next (event (effect .dupTimerExpiry) s) :=
      exec_of_arises (c := .dupTimerExpiry) (arises_and on (decide_eq_true due))
    let ended := { beginEvent s with lnu := { s.lnu with dupTimer := none } }
    obtain ⟨f, cleared, absent⟩ := clearCondition_degrade (c := .dupStation) rfl ended
    have calm : quiet (event (effect .dupTimerExpiry) s) = quiet { ended with ftu := f } :=
      (quiet_event _ _).trans ((quiet_emit _ _).trans ((quiet_emit _ _).trans (congrArg quiet cleared)))
    have line : { (event (effect .dupTimerExpiry) s).lnu with queue := [], nextAge := 0 } =
        { ended.lnu with queue := [], nextAge := 0 } := congrArg Quiet.line calm
    exact ⟨_, answer, congrArg Line.dupTimer line, ended_of_quiet calm absent, (ptb_of_quiet calm :), (others_of_quiet calm :),
      (congrArg Line.state line :), (msu_of_quiet calm :), (ilu_of_quiet calm :), (ogu_of_quiet calm :)⟩

/-- Settles O43: INLET_NO_OPEN is raised and cleared, and the controller follows. -/
theorem inletOpenFailure : Obligations.InletOpenFailure := by
  refine fun s on => ⟨fun due filling position => ?_, fun due => ?_⟩
  · have answer : exec .openTimerExpiry s = .next (event (effect .openTimerExpiry) s) :=
      exec_of_arises (c := .openTimerExpiry)
        (arises_and (arises_and (arises_and on (runOut_iff.mpr due)) filling) (by simpa using position))
    let timed := { beginEvent s with flc := { s.flc with openTimer := none, clearing := some 0 } }
    obtain ⟨f, raised, stands⟩ := raiseCondition_degrade (c := .inletNoOpen) rfl timed
    have calm : quiet (event (effect .openTimerExpiry) s) = quiet { timed with ftu := f } :=
      (quiet_event _ _).trans ((quiet_fillFollows _).trans (congrArg quiet raised))
    exact ⟨_, answer, raised_of_quiet calm stands, congrArg Quiet.clearing calm, (msu_of_quiet calm :), (ilu_of_quiet calm :),
      (ptb_of_quiet calm :), (ogu_of_quiet calm :), (congrArg Quiet.position calm :)⟩
  · have answer : exec .clearingTimerExpiry s = .next (event (effect .clearingTimerExpiry) s) :=
      exec_of_arises (c := .clearingTimerExpiry) (arises_and on (decide_eq_true due))
    let timed := { beginEvent s with flc := { s.flc with clearing := none } }
    obtain ⟨f, cleared, absent⟩ := clearCondition_degrade (c := .inletNoOpen) rfl timed
    have calm : quiet (event (effect .clearingTimerExpiry) s) = quiet { timed with ftu := f } :=
      (quiet_event _ _).trans ((quiet_fillFollows _).trans (congrArg quiet cleared))
    exact ⟨_, answer, ended_of_quiet calm absent, congrArg Quiet.clearing calm, (msu_of_quiet calm :), (ilu_of_quiet calm :),
      (ptb_of_quiet calm :), (ogu_of_quiet calm :), (congrArg Quiet.position calm :)⟩

/-- Settles O35: each command is its own effect, which is a count or a line state. -/
theorem unconfiguredOnlyListens : Obligations.UnconfiguredOnlyListens := by
  intro s rested high mode
  have off : active s = false := by simp [active, mode]
  have loads : loaded s = true := by simp [loaded, high, mode]
  refine ⟨fun p w r x running => ?_, fun chars h heard => ?_, fun chars d receiving error idle waiting => ?_⟩
  · refine exec_of_rested (arises_and loads running) ?_ ⟨rested.1, rested.2⟩
    exact secondPasses_inactive (s := beginEvent s) off
  · refine exec_of_rested (arises_of_heardAs loads heard) ?_ ⟨rested.1, rested.2⟩
    have off' : active (beginEvent s) = false := off
    show noticeCompleted chars (beginEvent s) = _
    unfold noticeCompleted heardValid heardUnconfigured
    rw [heard.2]
    dsimp only
    rw [off', if_neg (by decide)]
    split <;> rfl
  · refine exec_of_rested (arises_and loads receiving) ?_ ⟨rested.1, rested.2⟩
    have off' : active (beginEvent s) = false := off
    have kept : s.lnu.queue.map backToWaiting = s.lnu.queue := by
      refine (List.map_congr_left fun e m => ?_).trans (List.map_id _)
      unfold backToWaiting
      rw [waiting e m]
      rfl
    show noticeCompleted chars (beginEvent s) = _
    unfold noticeCompleted
    rw [error]
    dsimp only
    have unsent : abandonSending (beginEvent s) = beginEvent s := abandonSending_of_idle kept idle
    unfold discardNotice
    dsimp only
    rw [unsent, off', if_neg (by decide)]
    rfl

end Sys2Proof.Proofs
end

section
/-! PROOFS. Settled inputs: the single latches, the frost group, the limit contacts, MAINT and the release of ACKIN. -/

namespace Sys2Proof.Machine

section
variable {s t : State}

/-! ### What the latches and their inputs become (R22, R23, R25) -/

theorem put_getElem {α : Type} {n : Nat} (v : Vector α n) (i : Fin n) : put v i v[i] = v := by
  refine Vector.ext fun j h => ?_
  by_cases same : i.val = j
  · subst same; exact getElem_put_same v i v[i]
  · exact getElem_put_ne v (j := ⟨j, h⟩) (fun k => same (congrArg Fin.val k)) v[i]

/-- The cause of a latch in EDGE+LEVEL mode has ended and an acknowledge has been taken (R25). -/
def clearsNow (l : Latch) (s : State) : Bool := latchSet l s && edgeLevel l s && ackTaken l s && !latchCause l s

theorem ilu_setLatch (l : Latch) (s : State) :
    (setLatch l s).ilu = { s.ilu with latch := put s.ilu.latch (latchIndex l) true } := by
  unfold setLatch
  split
  next set =>
    have same : put s.ilu.latch (latchIndex l) true = s.ilu.latch := by
      rw [← show s.ilu.latch[latchIndex l] = true from set]; exact put_getElem _ _
    rw [same]
  next => rw [ilu_announceLatch]

theorem ilu_causeEnded (l : Latch) (s : State) : (causeEnded l s).ilu = { s.ilu with
    latch := put s.ilu.latch (latchIndex l) (latchSet l s && !clearsNow l s)
    ackTaken := put s.ilu.ackTaken (latchIndex l) (ackTaken l s && !clearsNow l s) } := by
  unfold causeEnded
  show (if clearsNow l s then clearLatch l s else s).ilu = _
  cases clears : clearsNow l s with
  | true =>
    rw [if_pos rfl]
    unfold clearLatch
    rw [ilu_announceLatch]
    simp
  | false =>
    rw [if_neg (by decide)]
    simp only [Bool.not_false, Bool.and_true]
    unfold latchSet ackTaken
    rw [put_getElem, put_getElem]

theorem ilu_singleSettle (l : Latch) (now : Bool) (s : State) : (singleSettle l now s).ilu = { s.ilu with
    latch := put s.ilu.latch (latchIndex l) (if now then true else latchSet l s && !clearsNow l s)
    ackTaken := put s.ilu.ackTaken (latchIndex l) (ackTaken l s && !(!now && clearsNow l s)) } := by
  unfold singleSettle
  cases now with
  | true =>
    rw [if_pos rfl, ilu_setLatch]
    simp only [Bool.not_true, Bool.false_and, Bool.not_false, Bool.and_true, if_true]
    unfold ackTaken
    rw [put_getElem]
  | false =>
    rw [if_neg (by decide), ilu_causeEnded]
    simp

theorem ilu_frostMember (now : Bool) (s : State) :
    let clears := !latchCause .frostgrp s && latchSet .frostgrp s && edgeLevel .frostgrp s && ackTaken .frostgrp s
    (frostMember now s).ilu = { s.ilu with
      frostQuiet := if now then false else if latchCause .frostgrp s then s.ilu.frostQuiet else true
      latch := put s.ilu.latch 4 (if now then latchSet .frostgrp s || s.ilu.frostQuiet else latchSet .frostgrp s && !clears)
      ackTaken := put s.ilu.ackTaken 4 (ackTaken .frostgrp s && !(!now && clears)) } := by
  intro clears
  have latchKept : put s.ilu.latch 4 (latchSet .frostgrp s) = s.ilu.latch := put_getElem _ _
  have ackKept : put s.ilu.ackTaken 4 (ackTaken .frostgrp s) = s.ilu.ackTaken := put_getElem _ _
  unfold frostMember
  cases now with
  | true =>
    simp only [if_true, Bool.not_true, Bool.false_and, Bool.not_false, Bool.and_true, ackKept]
    cases quiet : s.ilu.frostQuiet with
    | true =>
      rw [if_pos rfl, ilu_setLatch]
      simp [latchIndex]
    | false =>
      rw [if_neg (by decide), Bool.or_false, latchKept]
  | false =>
    simp only [Bool.false_eq_true, if_false, Bool.not_false, Bool.true_and]
    cases cause : latchCause .frostgrp s with
    | true =>
      rw [if_pos rfl]
      simp [clears, cause, latchKept, ackKept]
    | false =>
      rw [if_neg (by decide), ilu_causeEnded]
      have same : clearsNow .frostgrp { s with ilu := { s.ilu with frostQuiet := true } } = clears := by
        show (latchSet .frostgrp s && edgeLevel .frostgrp s && ackTaken .frostgrp s && !latchCause .frostgrp s) = _
        simp [clears, Bool.and_comm, Bool.and_left_comm]
      rw [same]
      simp only [Bool.false_eq_true, if_false]
      rfl

/-! ### The position beside them -/

theorem position_of_latched (h : latched t = latched s) : t.odu.position = s.odu.position := congrArg Outputs.position (odu_of_latched h)
theorem position_of_watched (h : watched t = watched s) : t.odu.position = s.odu.position := congrArg Outputs.position (odu_of_watched h)

theorem position_frostJudge (s : State) : (frostJudge s).odu.position = s.odu.position := by
  unfold frostJudge
  dsimp only
  split
  · rfl
  · exact (position_of_quiet (quiet_frostEvaluate _)).trans rfl

theorem position_fillPosition (old new : Position) (s : State) : (fillPosition old new s).odu.position = s.odu.position := by
  unfold fillPosition
  split
  · dsimp only
    split
    · exact (position_of_quiet (quiet_fillFollows _)).trans ((position_of_watched (watched_clearCondition _ _)).trans rfl)
    · rfl
  · split <;> rfl

theorem position_takePosition (s : State) : (takePosition s).odu.position = positionNow s := by
  unfold takePosition
  dsimp only
  split
  next same => exact same
  next =>
    rw [position_of_quiet (quiet_fillFollows _), position_fillPosition,
      position_of_watched (watched_guardExamine _ _), position_of_watched (watched_setCondition _ _ _)]

theorem positionNow_eq (s : State) : positionNow s =
    (if debounced .inOpenFb s then (if debounced .inClosedFb s then .invalid else .opened)
      else if debounced .inClosedFb s then .closed else .travel) := by
  unfold positionNow
  cases debounced .inOpenFb s <;> cases debounced .inClosedFb s <;> rfl

/-! ### The settle of a single-input latch and of a group member -/

/-- The inputs that feed a latch alone (R22). -/
def singles : List (ContactInput × Latch) := [(.ovf, .ovf), (.hifl, .hifl), (.lofl, .lofl), (.door, .door)]

theorem handSettled_single {x : ContactInput × Latch} (h : x ∈ singles) (now : Bool) (s : State) :
    (handSettled x.1 now s).ilu = (singleSettle x.2 now s).ilu ∧ (handSettled x.1 now s).odu.position = s.odu.position := by
  have position := position_of_latched (latched_singleSettle x.2 now s)
  have follows : ∀ b, (fillFollows (guardExamine b (singleSettle x.2 now s))).ilu = (singleSettle x.2 now s).ilu ∧
      (fillFollows (guardExamine b (singleSettle x.2 now s))).odu.position = s.odu.position := fun b =>
    ⟨by rw [ilu_fillFollows, ilu_guardExamine],
      (position_of_quiet (quiet_fillFollows _)).trans ((position_of_watched (watched_guardExamine _ _)).trans position)⟩
  simp only [singles, List.mem_cons, List.not_mem_nil, or_false] at h
  rcases h with rfl | rfl | rfl | rfl
  · exact follows _
  · exact follows _
  · exact ⟨rfl, position⟩
  · exact ⟨rfl, position⟩

theorem debounced_settleInput (i : ContactInput) (s : State) : debounced i (settleInput i s) = rawInput i s :=
  getElem_put_same _ _ _

theorem latchCause_single {x : ContactInput × Latch} (h : x ∈ singles) (s : State) : latchCause x.2 s = debounced x.1 s := by
  simp only [singles, List.mem_cons, List.not_mem_nil, or_false] at h
  rcases h with rfl | rfl | rfl | rfl <;> rfl

/-- The list of the inputs is read back by the place of each. -/
theorem allInputs_at (i : ContactInput) : allInputs[(inputIndex i).val]? = some i := by
  cases i with
  | fst k => fin_cases k <;> rfl
  | hfb k => fin_cases k <;> rfl
  | _ => rfl

theorem inputIndex_injective {i j : ContactInput} (h : inputIndex i = inputIndex j) : i = j :=
  Option.some.inj (by rw [← allInputs_at, h, allInputs_at])

theorem debounced_settleInput_ne {i j : ContactInput} (h : i ≠ j) (s : State) : debounced j (settleInput i s) = debounced j s :=
  getElem_put_ne _ (fun k => h (inputIndex_injective k)) _

theorem frostCause_settleInput (k : Fin 4) (s : State) :
    latchCause .frostgrp (settleInput (.fst k) s) =
      (rawInput (.fst k) s || [0, 1, 2, 3].any (fun j : Fin 4 => j != k && debounced (.fst j) s)) := by
  have member : ∀ j, debounced (.fst j) (settleInput (.fst k) s) = if j = k then rawInput (.fst k) s else debounced (.fst j) s := by
    intro j
    split
    next same => rw [same]; exact debounced_settleInput _ _
    next other => exact debounced_settleInput_ne (by simpa using Ne.symm other) s
  unfold latchCause
  simp only [member, allStages]
  fin_cases k <;> simp [Bool.or_assoc, Bool.or_comm]

end

end Sys2Proof.Machine

namespace Sys2Proof.Proofs
open Sys2Proof Sys2Proof.Machine

/-- A settled input leaves the pins, the measurement and the peer table. -/
theorem settled_frame {i : ContactInput} {s : State} (a : arises (.inputSettled i) s = true) :
    let t := event (effect (.inputSettled i)) s
    exec (.inputSettled i) s = .next t ∧ t.pins = s.pins ∧ t.msu = s.msu ∧ t.ptb = s.ptb := by
  have answer : exec (.inputSettled i) s = .next (event (effect (.inputSettled i)) s) := exec_of_arises a
  obtain ⟨_, _, _, pins, _⟩ := commandsKeepOtherBlocks _ _ _ answer (by simp) (by simp) (by simp)
  exact ⟨answer, pins (by simp), msu_taken a (by simp) (by simp) (by simp), ptb_taken rfl s⟩

/-- Settles O14: the latch's equation, the cause being the settled input. -/
theorem singleLatchFollowsInput : Obligations.SingleLatchFollowsInput := by
  intro x mem s on timer
  have a : arises (.inputSettled x.1) s = true := arises_and on timer
  obtain ⟨answer, pins, measured, peers⟩ := settled_frame a
  obtain ⟨inputs, position⟩ := handSettled_single mem (rawInput x.1 s) (settleInput x.1 (beginEvent s))
  refine ⟨_, answer, ?_, pins, measured, peers, (position_of_quiet (quiet_event _ _)).trans position⟩
  refine (ilu_event _ _).trans (inputs.trans ((ilu_singleSettle _ _ _).trans ?_))
  have cause : latchCause x.2 (settleInput x.1 (beginEvent s)) = rawInput x.1 s :=
    (latchCause_single mem _).trans (debounced_settleInput x.1 (beginEvent s))
  have clears : clearsNow x.2 (settleInput x.1 (beginEvent s)) =
      (latchSet x.2 s && edgeLevel x.2 s && ackTaken x.2 s && !rawInput x.1 s) := by
    unfold clearsNow; rw [cause]; rfl
  rw [clears]
  show Inputs.mk _ (put s.ilu.debounced (inputIndex x.1) (rawInput x.1 s)) _
    (put s.ilu.latch _ (if rawInput x.1 s then true else latchSet x.2 s && !_)) (put s.ilu.ackTaken _ (ackTaken x.2 s && _)) _ _ = _
  cases now : rawInput x.1 s <;> simp [Bool.and_assoc]

/-- Settles O15: the group's equation, the cause being the members as they now stand. -/
theorem frostGroupOnset : Obligations.FrostGroupOnset := by
  intro k s on timer
  have a : arises (.inputSettled (.fst k)) s = true := arises_and on timer
  obtain ⟨answer, pins, measured, peers⟩ := settled_frame a
  have position := position_of_latched (latched_frostMember (rawInput (.fst k) s) (settleInput (.fst k) (beginEvent s)))
  refine ⟨_, answer, ?_, pins, measured, peers, (position_of_quiet (quiet_event _ _)).trans
    ((position_frostJudge _).trans position)⟩
  refine (ilu_event _ _).trans ((ilu_frostJudge _).trans ((ilu_frostMember _ _).trans ?_))
  have cause : latchCause .frostgrp (settleInput (.fst k) (beginEvent s)) =
      (rawInput (.fst k) s || [0, 1, 2, 3].any (fun j : Fin 4 => j != k && debounced (.fst j) s)) :=
    frostCause_settleInput k (beginEvent s)
  rw [cause]
  generalize [0, 1, 2, 3].any (fun j : Fin 4 => j != k && debounced (.fst j) s) = others
  show Inputs.mk _ (put s.ilu.debounced _ (rawInput (.fst k) s)) _
    (put s.ilu.latch 4 (if rawInput (.fst k) s then latchSet .frostgrp s || s.ilu.frostQuiet
      else latchSet .frostgrp s && !(!_ && latchSet .frostgrp s && edgeLevel .frostgrp s && ackTaken .frostgrp s)))
    (put s.ilu.ackTaken 4 (ackTaken .frostgrp s && !(!rawInput (.fst k) s &&
      (!_ && latchSet .frostgrp s && edgeLevel .frostgrp s && ackTaken .frostgrp s))))
    (if rawInput (.fst k) s then false else if _ then s.ilu.frostQuiet else true) _ = _
  cases now : rawInput (.fst k) s <;> cases others <;> simp [Bool.and_assoc]

/-- Settles O16: the position is decoded from both contacts, and nothing that follows decodes it again. -/
theorem positionFromContacts : Obligations.PositionFromContacts := by
  intro s on i mem timer
  have a : arises (.inputSettled i) s = true := arises_and on timer
  obtain ⟨answer, pins, measured, peers⟩ := settled_frame a
  have handed : handSettled i (rawInput i s) (settleInput i (beginEvent s)) = takePosition (settleInput i (beginEvent s)) := by
    simp only [List.mem_cons, List.not_mem_nil, or_false] at mem
    rcases mem with rfl | rfl <;> rfl
  have kept (j : ContactInput) : debounced j (settleInput i (beginEvent s)) = if i = j then rawInput i s else debounced j s := by
    split
    next same => rw [← same]; exact debounced_settleInput i (beginEvent s)
    next other => exact debounced_settleInput_ne other (beginEvent s)
  refine ⟨_, answer, ?_, ?_, measured, peers, pins⟩
  · refine (position_of_quiet (quiet_event _ _)).trans ((congrArg (fun t : State => t.odu.position) handed).trans ?_)
    rw [position_takePosition, positionNow_eq, kept, kept]
  · refine (ilu_event _ _).trans ((congrArg State.ilu handed).trans ((ilu_takePosition _).trans rfl))

/-- Settles O18: the inlet follows MAINT by the law of the outputs; a release of ACKIN hands nothing on. -/
theorem maintAndAckRelease : Obligations.MaintAndAckRelease := by
  intro s on
  refine ⟨fun timer => ?_, fun rested timer released => ?_⟩
  · have a : arises (.inputSettled .maint) s = true := arises_and on timer
    obtain ⟨answer, pins, measured, peers⟩ := settled_frame a
    have inputs : (event (effect (.inputSettled .maint)) s).ilu = (settleInput .maint s).ilu :=
      (ilu_event _ _).trans (ilu_fillFollows _)
    refine ⟨_, answer, inputs, fun protect => ?_, measured, peers, pins, (position_of_quiet (quiet_event _ _)).trans
      ((position_of_quiet (quiet_fillFollows _)).trans rfl)⟩
    have settled : debounced .maint (event (effect (.inputSettled .maint)) s) = true :=
      (congrArg (fun i : Inputs => i.debounced[inputIndex .maint]) inputs).trans
        ((debounced_settleInput .maint s).trans protect)
    rw [(outputsFollow_event _ _).1, inletWanted, settled]
    simp
  · have a : arises (.inputSettled .ackin) s = true := arises_and on timer
    refine exec_of_rested a ?_ ⟨rested.1, ?_, rested.2.2.1, rested.2.2.2⟩
    show inputSettles .ackin (beginEvent s) = _
    have released : rawInput .ackin (beginEvent s) = false := released
    unfold inputSettles handSettled
    rw [released]
    unfold settleInput
    rw [released]
    rfl
    · have maint : (put s.ilu.debounced (inputIndex .ackin) false)[inputIndex .maint] = debounced .maint s :=
        getElem_put_ne _ (by decide) _
      have inlet := rested.2.1
      unfold inletWanted at inlet ⊢
      rw [← maint] at inlet
      exact inlet

end Sys2Proof.Proofs
end

section
/-! PROOFS. Conditions of the fault unit beside the others, stage failures, and the stages' agreement with STAGE_FAIL. -/

namespace Sys2Proof.Machine

/-! ### The flags of the fault codes -/

/-- The condition, set and acknowledged flags of a code (R182 to R184). -/
def codeFlags (c : FaultCode) (s : State) : Bool × Bool × Bool := (conditionPresent c s, inFaultSet c s, faultAcked c s)

/-- The flags of every code. -/
def faultFlags (s : State) : Vector Bool 13 × Vector Bool 13 × Vector Bool 13 × Vector Bool 4 :=
  (s.ftu.condition, s.ftu.inSet, s.ftu.acked, s.ftu.stageMask)

/-- The states that settings of conditions lead to from a state, those of which `P` says so. -/
inductive Judges (P : Bool → FaultCode → Prop) (s : State) : State → Prop where
  | refl : Judges P s s
  /-- Anything that leaves the flags. -/
  | still {t u : State} : Judges P s t → faultFlags u = faultFlags t → Judges P s u
  /-- A condition follows a test. -/
  | set {t : State} (present : Bool) (c : FaultCode) : Judges P s t → P present c → Judges P s (setCondition c present t)

section
variable {P : Bool → FaultCode → Prop} {s t : State} {c : FaultCode}

theorem codeFlags_of_faultFlags (c : FaultCode) (h : faultFlags t = faultFlags s) : codeFlags c t = codeFlags c s :=
  congrArg (fun v : Vector Bool 13 × Vector Bool 13 × Vector Bool 13 × Vector Bool 4 =>
    (v.1[faultIndex c], v.2.1[faultIndex c], v.2.2.1[faultIndex c])) h

theorem stageMask_of_faultFlags (h : faultFlags t = faultFlags s) : t.ftu.stageMask = s.ftu.stageMask :=
  congrArg (fun v : Vector Bool 13 × Vector Bool 13 × Vector Bool 13 × Vector Bool 4 => v.2.2.2) h

theorem faultFlags_of_quiet (h : quiet t = quiet s) : faultFlags t = faultFlags s :=
  congrArg (fun q : Quiet => (q.ftu.condition, q.ftu.inSet, q.ftu.acked, q.ftu.stageMask)) h

theorem faultFlags_of_beside (h : beside t = beside s) : faultFlags t = faultFlags s :=
  congrArg (fun b : Beside => (b.state.ftu.condition, b.state.ftu.inSet, b.state.ftu.acked, b.state.ftu.stageMask)) h

theorem faultFlags_of_latched (h : latched t = latched s) : faultFlags t = faultFlags s :=
  congrArg (fun b : Beside => (b.state.ftu.condition, b.state.ftu.inSet, b.state.ftu.acked, b.state.ftu.stageMask)) h

@[simp] theorem faultFlags_queueNotice (item : Outgoing) (u : Nat) (s : State) : faultFlags (queueNotice item u s) = faultFlags s :=
  faultFlags_of_beside (beside_queueNotice item u s)

theorem faultIndex_injective {c d : FaultCode} (h : faultIndex c = faultIndex d) : c = d := by
  cases c <;> cases d <;> first
    | rfl
    | cases h

/-! ### The STOP demand and safe hold leave the flags -/

@[simp] theorem faultFlags_announceStop (s : State) : faultFlags (announceStop s) = faultFlags s := by
  unfold announceStop; dsimp only; simp; rfl

@[simp] theorem faultFlags_stopOn (cause : StopCause) (s : State) : faultFlags (stopOn cause s) = faultFlags s := by
  unfold stopOn; dsimp only
  (repeat' split) <;> first
    | rfl
    | (rw [faultFlags_announceStop]; rfl)

@[simp] theorem faultFlags_stopOff (s : State) : faultFlags (stopOff s) = faultFlags s := by
  unfold stopOff
  (repeat' split) <;> first
    | rfl
    | (rw [faultFlags_announceStop]; rfl)

@[simp] theorem faultFlags_announceHold (c : FaultCode) (s : State) : faultFlags (announceHold c s) = faultFlags s := by
  unfold announceHold; split <;> simp

@[simp] theorem faultFlags_enterSafeHold (s : State) : faultFlags (enterSafeHold s) = faultFlags s := by
  have demand : ∀ t, faultFlags (stopForSafeHold t) = faultFlags t := by
    intro t; unfold stopForSafeHold
    split
    · exact faultFlags_stopOn _ _
    · rw [faultFlags_announceStop]; rfl
  unfold enterSafeHold
  rw [demand]
  exact (faultFlags_queueNotice .trip 7 _).trans rfl

/-! ### What a setting does to the code's own flags and to the others -/

theorem codeFlags_enterFault (c d : FaultCode) (s : State) :
    codeFlags d (enterFault c s) = if d = c then (conditionPresent c s, true, false) else codeFlags d s := by
  have flags : faultFlags (enterFault c s) = faultFlags { s with ftu := { s.ftu with
      inSet := put s.ftu.inSet (faultIndex c) true, acked := put s.ftu.acked (faultIndex c) false } } := by
    unfold enterFault; dsimp only
    split
    · rw [faultFlags_enterSafeHold, faultFlags_announceHold]; rfl
    · rw [faultFlags_announceHold]; rfl
  rw [codeFlags_of_faultFlags d flags]
  split
  next same => subst same; exact Prod.ext rfl (Prod.ext (getElem_put_same _ _ _) (getElem_put_same _ _ _))
  next other =>
    have place : faultIndex c ≠ faultIndex d := fun k => other (faultIndex_injective k).symm
    exact Prod.ext rfl (Prod.ext (getElem_put_ne _ place _) (getElem_put_ne _ place _))

theorem codeFlags_leaveFault (c d : FaultCode) (s : State) :
    codeFlags d (leaveFault c s) = if d = c then (conditionPresent c s, false, false) else codeFlags d s := by
  unfold leaveFault
  rw [codeFlags_of_faultFlags d (faultFlags_announceHold _ _)]
  by_cases same : d = c
  · rw [if_pos same]; subst same
    exact Prod.ext rfl (Prod.ext (getElem_put_same _ _ _) (getElem_put_same _ _ _))
  · rw [if_neg same]
    have place : faultIndex c ≠ faultIndex d := fun k => same (faultIndex_injective k).symm
    exact Prod.ext rfl (Prod.ext (getElem_put_ne _ place _) (getElem_put_ne _ place _))

/-- The condition flag of a code written. -/
def setPresent (c : FaultCode) (present : Bool) (s : State) : State :=
  { s with ftu := { s.ftu with condition := put s.ftu.condition (faultIndex c) present } }

theorem codeFlags_setPresent (c d : FaultCode) (present : Bool) (s : State) :
    codeFlags d (setPresent c present s) = if d = c then (present, inFaultSet c s, faultAcked c s) else codeFlags d s := by
  split
  next same => subst same; exact Prod.ext (getElem_put_same _ _ _) rfl
  next other => exact Prod.ext (getElem_put_ne _ (fun k => other (faultIndex_injective k).symm) _) rfl

theorem codeFlags_raiseCondition (c d : FaultCode) (s : State) :
    codeFlags d (raiseCondition c s) =
      if d = c ∧ conditionPresent c s = false then (true, true, inFaultSet c s && faultAcked c s) else codeFlags d s := by
  unfold raiseCondition
  cases present : conditionPresent c s with
  | true => simp
  | false =>
    show codeFlags d (if inFaultSet c s then setPresent c true s else enterFault c (setPresent c true s)) = _
    cases standing : inFaultSet c s with
    | true => rw [if_pos rfl, codeFlags_setPresent]; simp [standing]
    | false =>
      rw [if_neg (by decide), codeFlags_enterFault, codeFlags_setPresent]
      have raised : conditionPresent c (setPresent c true s) = true := getElem_put_same _ _ _
      rw [raised]
      by_cases same : d = c <;> simp [same]

theorem codeFlags_clearCondition (c d : FaultCode) (s : State) :
    codeFlags d (clearCondition c s) =
      if d = c ∧ conditionPresent c s = true then
        (if inFaultSet c s && (!isHold c || faultAcked c s) then (false, false, false) else (false, inFaultSet c s, faultAcked c s))
      else codeFlags d s := by
  unfold clearCondition
  cases present : conditionPresent c s with
  | false => simp
  | true =>
    show codeFlags d (if _ then leaveFault c (setPresent c false s) else setPresent c false s) = _
    split
    · rw [codeFlags_leaveFault, codeFlags_setPresent]
      have ended : conditionPresent c (setPresent c false s) = false := getElem_put_same _ _ _
      rw [ended]
      by_cases same : d = c <;> simp [same]
    · rw [codeFlags_setPresent]
      by_cases same : d = c <;> simp [same]

theorem codeFlags_setCondition_ne {d : FaultCode} (h : d ≠ c) (present : Bool) (s : State) :
    codeFlags d (setCondition c present s) = codeFlags d s := by
  unfold setCondition
  split
  · rw [codeFlags_raiseCondition]; simp [h]
  · rw [codeFlags_clearCondition]; simp [h]

theorem stageMask_raiseCondition (c : FaultCode) (s : State) : (raiseCondition c s).ftu.stageMask = s.ftu.stageMask := by
  unfold raiseCondition enterFault
  dsimp only
  (repeat' split) <;> first
    | rfl
    | exact (stageMask_of_faultFlags (faultFlags_announceHold _ _)).trans rfl
    | exact (stageMask_of_faultFlags ((faultFlags_enterSafeHold _).trans (faultFlags_announceHold _ _))).trans rfl

theorem stageMask_clearCondition (h : c ≠ .stageFail) (s : State) : (clearCondition c s).ftu.stageMask = s.ftu.stageMask := by
  unfold clearCondition leaveFault
  simp only [if_neg h]
  split
  · split
    · exact (stageMask_of_faultFlags (faultFlags_announceHold _ _)).trans rfl
    · rfl
  · rfl

/-! ### What the settings of an event's own effect keep -/

theorem codeFlags_of_judges (j : Judges P s t) {d : FaultCode} (h : ∀ b, ¬ P b d) : codeFlags d t = codeFlags d s := by
  induction j with
  | refl => rfl
  | still _ same ih => exact (codeFlags_of_faultFlags d same).trans ih
  | set b c _ p ih => exact (codeFlags_setCondition_ne (by rintro rfl; exact h b p) b _).trans ih

theorem stageMask_of_judges (j : Judges P s t) (h : ∀ b, ¬ P b .stageFail) : t.ftu.stageMask = s.ftu.stageMask := by
  induction j with
  | refl => rfl
  | still _ same ih => exact (stageMask_of_faultFlags same).trans ih
  | set b c _ p ih =>
    refine Eq.trans ?_ ih
    unfold setCondition
    split
    · exact stageMask_raiseCondition _ _
    · exact stageMask_clearCondition (fun k => h b (k ▸ p)) _

theorem judges_clearCondition (h : P false c) (j : Judges P s t) : Judges P s (clearCondition c t) := j.set false c h
theorem judges_raiseCondition (h : P true c) (j : Judges P s t) : Judges P s (raiseCondition c t) := j.set true c h

/-! ### The guard -/

theorem judges_setGuard (g : GuardState) (j : Judges P s t) : Judges P s (setGuard g t) := j.still rfl
theorem judges_stopOn (cause : StopCause) (j : Judges P s t) : Judges P s (stopOn cause t) := j.still (faultFlags_stopOn _ _)

theorem judges_endDemand (h : P false .stopUnconfirmed) (j : Judges P s t) : Judges P s (endDemand t) := by
  unfold endDemand
  (repeat' split) <;> first
    | exact j
    | exact judges_clearCondition h (j.still (faultFlags_stopOff _))

theorem judges_announceSpill (j : Judges P s t) : Judges P s (announceSpill t) :=
  j.still ((faultFlags_queueNotice (.alarm .spill) 7 _).trans rfl)

theorem judges_enterSpill (j : Judges P s t) : Judges P s (enterSpill t) :=
  judges_announceSpill (judges_stopOn _ (judges_setGuard _ (j.still rfl)))

theorem judges_calmUrgency (j : Judges P s t) : Judges P s (calmUrgency t) := by
  unfold calmUrgency; (repeat' split) <;> exact j.still rfl

theorem judges_holdToWatch (h : ∀ c, isHold c = true → P false c) (j : Judges P s t) : Judges P s (holdToWatch t) := by
  unfold holdToWatch
  dsimp only
  refine judges_endDemand (h _ rfl) ?_
  cases t.ogu.hold with
  | none => exact j.still rfl
  | stuck => exact judges_clearCondition (h _ rfl) (j.still rfl)
  | leak => exact judges_clearCondition (h _ rfl) (j.still rfl)

theorem judges_leaveSpill (h : P false .stopUnconfirmed) (j : Judges P s t) : Judges P s (leaveSpill t) := by
  have announced : Judges P s (announceSpill t) := judges_announceSpill j
  unfold leaveSpill
  dsimp only
  split
  · exact judges_stopOn _ (judges_calmUrgency (judges_setGuard _ announced))
  · exact judges_stopOn _ (judges_calmUrgency (judges_setGuard _ announced))
  · split
    · exact judges_endDemand h (announced.still rfl)
    · exact judges_calmUrgency (announced.still rfl)

theorem judges_guardMove (h : ∀ c, isHold c = true → P false c) {ovfOnset : Bool} {u : State}
    (moved : guardMove ovfOnset t = some u) (j : Judges P s t) : Judges P s u := by
  unfold guardMove at moved
  split at moved
  · cases moved; exact judges_enterSpill j
  · split at moved <;> split at moved <;> cases moved
    · split <;> exact j.still rfl
    · exact judges_endDemand (h _ rfl) (j.still rfl)
    · exact j.still rfl
    · exact judges_holdToWatch h j
    · exact judges_holdToWatch h j
    · exact judges_leaveSpill (h _ rfl) j

theorem judges_guardPass (h : ∀ c, isHold c = true → P false c) (n : Nat) (j : Judges P s t) : Judges P s (guardPass n t) := by
  induction n generalizing t with
  | zero => exact j
  | succ n ih =>
    unfold guardPass
    split
    next => exact j
    next moved => exact ih (judges_guardMove h moved j)

theorem judges_guardExamine (h : ∀ c, isHold c = true → P false c) (ovfOnset : Bool) (j : Judges P s t) :
    Judges P s (guardExamine ovfOnset t) := by
  unfold guardExamine
  split
  next => exact j
  next moved => exact judges_guardPass h _ (judges_guardMove h moved j)

/-! ### Stage failures (R36, R156) -/

/-- A failed channel. -/
def failedStage : Stage := { command := false, state := .failed, timer := none }

theorem ilu_tripMemberActive (s : State) : (tripMemberActive s).ilu = { s.ilu with
    tripQuiet := false, latch := put s.ilu.latch 5 (latchSet .tripgrp s || s.ilu.tripQuiet) } := by
  unfold tripMemberActive
  dsimp only
  cases quiet : s.ilu.tripQuiet with
  | true =>
    rw [if_pos rfl, ilu_setLatch]
    simp [latchIndex]
  | false =>
    rw [if_neg (by decide), Bool.or_false]
    have kept : put s.ilu.latch 5 (latchSet .tripgrp s) = s.ilu.latch := put_getElem _ _
    rw [kept]

section
variable (k : Fin 4) (s : State)

/-- The state in which a failure report raises STAGE_FAIL. -/
def failing : State :=
  let t := tripMemberActive (setStage k failedStage s)
  setFailed (put t.frc.failed k true) t

theorem failStage_eq : failStage k s = emit .frostEvaluate (raiseCondition .stageFail (failing k s)) := rfl

theorem frc_failing : (failing k s).frc = { s.frc with failed := put s.frc.failed k true } := by
  have kept : (tripMemberActive (setStage k failedStage s)).frc = s.frc :=
    (frc_of_latched (latched_tripMemberActive _) :)
  unfold failing setFailed
  dsimp only
  rw [kept]

theorem odu_failing : (failing k s).odu = (setStage k failedStage s).odu :=
  (odu_of_latched (latched_tripMemberActive _) :)

theorem frc_failStage : (failStage k s).frc = { s.frc with failed := put s.frc.failed k true } :=
  (frc_of_watched (watched_raiseCondition _ _) : _ = (failing k s).frc).trans (frc_failing k s)

theorem odu_failStage : (failStage k s).odu = (setStage k failedStage s).odu :=
  (odu_of_watched (watched_raiseCondition _ _) : _ = (failing k s).odu).trans (odu_failing k s)

theorem stageMask_failStage : (failStage k s).ftu.stageMask = put s.frc.failed k true :=
  (stageMask_raiseCondition .stageFail (failing k s)).trans (congrArg Frost.failed (frc_failing k s))

theorem ilu_failStage : (failStage k s).ilu = { s.ilu with
    tripQuiet := false, latch := put s.ilu.latch 5 (latchSet .tripgrp s || s.ilu.tripQuiet) } :=
  (ilu_raiseCondition .stageFail (failing k s)).trans (ilu_tripMemberActive (setStage k failedStage s))

theorem codeFlags_failing (c : FaultCode) : codeFlags c (failing k s) = codeFlags c s :=
  (codeFlags_of_faultFlags c (faultFlags_of_latched (latched_tripMemberActive (setStage k failedStage s))) :)

theorem codeFlags_failStage (c : FaultCode) : codeFlags c (failStage k s) =
    if c = .stageFail ∧ conditionPresent .stageFail s = false then
      (true, true, inFaultSet .stageFail s && faultAcked .stageFail s) else codeFlags c s := by
  refine (codeFlags_raiseCondition .stageFail c (failing k s)).trans ?_
  have same := codeFlags_failing k s .stageFail
  have present : conditionPresent .stageFail (failing k s) = conditionPresent .stageFail s := congrArg Prod.fst same
  have standing : inFaultSet .stageFail (failing k s) = inFaultSet .stageFail s := congrArg (fun x : Bool × Bool × Bool => x.2.1) same
  have acked : faultAcked .stageFail (failing k s) = faultAcked .stageFail s := congrArg (fun x : Bool × Bool × Bool => x.2.2) same
  rw [present, standing, acked, codeFlags_failing]

theorem stageAt_failStage (j : Fin 4) : stageAt j (failStage k s) = if j = k then failedStage else stageAt j s := by
  unfold stageAt
  rw [odu_failStage]
  split
  next same => rw [same]; exact stageAt_setStage_same _ _ _
  next other => exact stageAt_setStage_ne (Ne.symm other) _ _

theorem conditionPresent_failStage : conditionPresent .stageFail (failStage k s) = true := by
  have flags := congrArg Prod.fst (codeFlags_failStage k s .stageFail)
  refine flags.trans ?_
  cases present : conditionPresent .stageFail s with
  | true => simp [codeFlags, present]
  | false => simp

theorem inFaultSet_failStage : inFaultSet .stageFail (failStage k s) =
    (!conditionPresent .stageFail s || inFaultSet .stageFail s) := by
  have flags := congrArg (fun x : Bool × Bool × Bool => x.2.1) (codeFlags_failStage k s .stageFail)
  refine flags.trans ?_
  cases present : conditionPresent .stageFail s with
  | true => simp [codeFlags]
  | false => simp

theorem raised_failStage : Raised .stageFail s (failStage k s) :=
  ⟨conditionPresent_failStage k s, fun absent => by rw [inFaultSet_failStage, absent]; rfl⟩

end

theorem anySet_iff {n : Nat} {v : Vector Bool n} : anySet v = true ↔ ∃ j : Fin n, v[j] = true := by
  unfold anySet
  simp only [List.any_eq_true, Vector.mem_toList_iff, id]
  constructor
  · rintro ⟨x, mem, yes⟩
    obtain ⟨j, bound, at_j⟩ := Vector.getElem_of_mem mem
    exact ⟨⟨j, bound⟩, at_j.trans yes⟩
  · exact fun ⟨j, yes⟩ => ⟨_, Vector.getElem_mem j.isLt, yes⟩

theorem anySet_put {n : Nat} (v : Vector Bool n) (j : Fin n) : anySet (put v j true) = true :=
  anySet_iff.mpr ⟨j, getElem_put_same _ _ _⟩

/-- A failure report keeps the failed-stage set, the channels, STAGE_FAIL and the quiet flag agreed (R36, R156, R183). -/
theorem stagesAgree_failStage (k : Fin 4) (agree : StagesAgree s) : StagesAgree (failStage k s) := by
  obtain ⟨signals, present, standing, mask, quiet⟩ := agree
  have failed : (failStage k s).frc.failed = put s.frc.failed k true := congrArg Frost.failed (frc_failStage k s)
  have any : anySet (failStage k s).frc.failed = true := by rw [failed]; exact anySet_put _ _
  refine ⟨fun j => ?_, ?_, ?_, ?_, ?_⟩
  · have signal : failureSignal j (failStage k s) = ((if j = k then failedStage else stageAt j s).state == .failed) :=
      congrArg (fun x : Stage => x.state == .failed) (stageAt_failStage k s j)
    rw [signal, failed]
    split
    next same => subst same; exact getElem_put_same _ _ _
    next other => rw [getElem_put_ne _ (Ne.symm other)]; exact signals j
  · rw [any, conditionPresent_failStage]
  · rw [any, inFaultSet_failStage, standing, present]; cases anySet s.frc.failed <;> rfl
  · rw [failed]; exact stageMask_failStage k s
  · rw [any, congrArg Inputs.tripQuiet (ilu_failStage k s)]; rfl

/-! ### The channel's table (R35) -/

/-- The proof timer finds a failure. -/
def proofFails (k : Fin 4) (s : State) : Prop :=
  (stageAt k s).state = .proving ∧ feedback k s = false ∨ (stageAt k s).state = .dropping ∧ feedback k s = true

/-- The settle of HFBk finds a failure. -/
def feedbackFails (k : Fin 4) (now : Bool) (s : State) : Prop :=
  stagePresent k s = true ∧ ((stageAt k s).state = .off ∧ now = true ∨ (stageAt k s).state = .on ∧ now = false)

theorem proofExpires_of_fails {k : Fin 4} (h : proofFails k s) : proofExpires k s = failStage k s := by
  unfold proofExpires
  rcases h with ⟨state, fb⟩ | ⟨state, fb⟩ <;> simp [state, fb]

theorem quiet_proofExpires {k : Fin 4} (h : ¬ proofFails k s) : quiet (proofExpires k s) = quiet s := by
  unfold proofExpires
  unfold proofFails at h
  dsimp only
  cases state : (stageAt k s).state with
  | proving => cases fb : feedback k s <;> first | rfl | exact absurd (.inl ⟨state, fb⟩) h
  | dropping => cases fb : feedback k s <;> first | rfl | exact absurd (.inr ⟨state, fb⟩) h
  | _ => rfl

theorem feedbackSettles_of_fails {k : Fin 4} {now : Bool} (h : feedbackFails k now s) : feedbackSettles k now s = failStage k s := by
  unfold feedbackSettles
  obtain ⟨present, ⟨state, fb⟩ | ⟨state, fb⟩⟩ := h <;> simp [present, state, fb]

theorem quiet_feedbackSettles {k : Fin 4} {now : Bool} (h : ¬ feedbackFails k now s) : quiet (feedbackSettles k now s) = quiet s := by
  unfold feedbackSettles
  unfold feedbackFails at h
  dsimp only
  split
  next present =>
    cases state : (stageAt k s).state with
    | off => cases now <;> first | rfl | exact absurd ⟨present, .inl ⟨state, rfl⟩⟩ h
    | on => cases now <;> first | rfl | exact absurd ⟨present, .inr ⟨state, rfl⟩⟩ h
    | dropping => cases now <;> rfl
    | _ => rfl
  next => rfl

theorem stageAt_moveStage (k : Fin 4) (x : Stage) (s : State) : stageAt k (moveStage k x s) = x := stageAt_setStage_same k x s

end

end Sys2Proof.Machine

namespace Sys2Proof.Proofs
open Sys2Proof Sys2Proof.Machine

/-- What an event whose own effect is a failure report, or is none, leaves (R36, R156). -/
theorem failure_verdict {f : State → State} {k : Fin 4} {s u : State} (fails : Prop)
    (failure : fails → f (beginEvent s) = failStage k u) (calm : ¬ fails → quiet (f (beginEvent s)) = quiet u)
    (start : quiet u = { quiet s with ilu := u.ilu }) (latches : u.ilu.tripQuiet = s.ilu.tripQuiet ∧ u.ilu.latch = s.ilu.latch) :
    let t := event f s
    (fails → t.frc.failed = put s.frc.failed k true ∧ t.ftu.stageMask = put s.frc.failed k true ∧ Raised .stageFail s t ∧
      t.ilu.tripQuiet = false ∧ (s.ilu.tripQuiet = true → latchSet .tripgrp t = true) ∧
      (stageAt k t).state = .failed ∧ heatRelay k t = false) ∧
    (¬ fails → t.frc.failed = s.frc.failed ∧ t.ftu.inSet = s.ftu.inSet ∧ t.ilu.latch = s.ilu.latch) := by
  intro t
  have after : quiet t = quiet (f (beginEvent s)) := quiet_event _ _
  refine ⟨fun yes => ?_, fun no => ?_⟩
  · have report := failure yes
    have settled : quiet t = quiet (failStage k u) := by rw [after, report]
    have ilu : t.ilu = (failStage k u).ilu := congrArg Quiet.ilu settled
    have failed : u.frc.failed = s.frc.failed := congrArg Quiet.failed start
    have state : (stageAt k t).state = .failed := by
      refine failed_of_works (works_event f s) ?_
      rw [report, stageAt_failStage, if_pos rfl]; rfl
    refine ⟨?_, ?_, ?_, ?_, fun quietNow => ?_, state, ?_⟩
    · rw [← failed]; exact (congrArg Quiet.failed settled).trans (congrArg Frost.failed (frc_failStage k u))
    · rw [← failed]; exact (congrArg (fun q : Quiet => q.ftu.stageMask) settled).trans (stageMask_failStage k u)
    · have raised : Raised .stageFail u t := raised_of_quiet settled (raised_failStage k u)
      have same : conditionPresent .stageFail u = conditionPresent .stageFail s :=
        congrArg (fun q : Quiet => q.ftu.condition[faultIndex .stageFail]) start
      unfold Raised; rw [← same]; exact raised
    · rw [ilu, ilu_failStage]
    · unfold latchSet
      rw [ilu, ilu_failStage, latches.1, quietNow, Bool.or_true]
      exact getElem_put_same _ _ _
    · unfold heatRelay; rw [state]; rfl
  · have settled : quiet t = quiet u := after.trans (calm no)
    exact ⟨(congrArg Quiet.failed settled).trans (congrArg Quiet.failed start),
      (congrArg (fun q : Quiet => q.ftu.inSet) settled).trans (congrArg (fun q : Quiet => q.ftu.inSet) start),
      (congrArg (fun q : Quiet => q.ilu.latch) settled).trans latches.2⟩

/-- Settles O20: the table of R35 by the channel's state and the feedback; each failure is one failure report. -/
theorem stageFailureReports : Obligations.StageFailureReports := by
  intro k s on x failed verdict
  refine ⟨fun running => ?_, fun running => ?_⟩
  · have a : arises (.proofTimerExpiry k) s = true := arises_and on running
    have answer : exec (.proofTimerExpiry k) s = .next (event (proofExpires k) s) := exec_of_arises a
    have position : (event (proofExpires k) s).odu.position = s.odu.position :=
      (position_of_quiet (quiet_event _ _)).trans ((position_of_aloof (aloof_proofExpires k _) :).trans rfl)
    obtain ⟨failure, calm⟩ := failure_verdict (f := proofExpires k) (u := beginEvent s) (proofFails k s)
      (fun yes => proofExpires_of_fails (s := beginEvent s) yes) (fun no => quiet_proofExpires (s := beginEvent s) no) rfl ⟨rfl, rfl⟩
    refine ⟨answer, ?_, _, answer, failure, calm, msu_taken a (by simp) (by simp) (by simp), ptb_taken (c := .proofTimerExpiry k) rfl s, position⟩
    unfold proofExpires
    cases state : (stageAt k s).state with
    | proving => cases fb : feedback k s <;> simp [x, failed, state, stageAt_moveStage, stageAt_failStage, failedStage]
    | dropping => cases fb : feedback k s <;> simp [x, failed, state, stageAt_moveStage, stageAt_failStage, failedStage]
    | _ => simp [x, state]
  · have a : arises (.inputSettled (.hfb k)) s = true := arises_and on running
    obtain ⟨answer, pins, measured, peers⟩ := settled_frame a
    have position : (event (inputSettles (.hfb k)) s).odu.position = s.odu.position :=
      (position_of_quiet (quiet_event _ _)).trans ((position_of_aloof (aloof_feedbackSettles k _ _) :).trans rfl)
    obtain ⟨failure, calm⟩ := failure_verdict (f := inputSettles (.hfb k)) (u := settleInput (.hfb k) (beginEvent s))
      (feedbackFails k (rawInput (.hfb k) s) s)
      (fun yes => feedbackSettles_of_fails (s := settleInput (.hfb k) (beginEvent s)) yes)
      (fun no => quiet_feedbackSettles (s := settleInput (.hfb k) (beginEvent s)) no) rfl ⟨rfl, rfl⟩
    refine ⟨answer, ?_, _, answer, failure, calm, measured, peers, position⟩
    show stageAt k (feedbackSettles k (rawInput (.hfb k) s) (settleInput (.hfb k) s)) = _
    unfold feedbackSettles
    have same : stageAt k (settleInput (.hfb k) s) = stageAt k s := rfl
    have here : stagePresent k (settleInput (.hfb k) s) = stagePresent k s := rfl
    rw [same, here]
    split
    next =>
      cases state : (stageAt k s).state with
      | proving => simp [x, state, same]
      | failed => simp [x, state, same]
      | _ => cases now : rawInput (.hfb k) s <;> simp [x, failed, state, same, stageAt_moveStage, stageAt_failStage, failedStage]
    next => exact same

end Sys2Proof.Proofs
end

section
/-! PROOFS. Acknowledge: what reaches the latches, the failed stages and the HOLD faults. -/

namespace Sys2Proof.Machine

section
variable {s t u : State} {l : Latch}

/-! ### One latch (R24, R25) -/

theorem ilu_ackLatch (l : Latch) (s : State) : (ackLatch l s).ilu = { s.ilu with
    latch := put s.ilu.latch (latchIndex l) (latchSet l s && edgeLevel l s && latchCause l s)
    ackTaken := put s.ilu.ackTaken (latchIndex l)
      (if latchSet l s then edgeLevel l s && latchCause l s else ackTaken l s) } := by
  unfold ackLatch
  cases set : latchSet l s with
  | false =>
    have latchKept : put s.ilu.latch (latchIndex l) false = s.ilu.latch := by rw [← set]; exact put_getElem _ _
    have ackKept : put s.ilu.ackTaken (latchIndex l) (ackTaken l s) = s.ilu.ackTaken := put_getElem _ _
    simp [latchKept, ackKept]
  | true =>
    have latchKept : put s.ilu.latch (latchIndex l) true = s.ilu.latch := by rw [← set]; exact put_getElem _ _
    cases acts : edgeLevel l s && latchCause l s with
    | true => simp [acts, latchKept]
    | false =>
      rw [if_pos rfl, if_neg (by simp)]
      unfold clearLatch
      rw [ilu_announceLatch]
      simp [acts]

theorem latchIndex_injective {l m : Latch} (h : latchIndex l = latchIndex m) : l = m := by
  cases l <;> cases m <;> first
    | rfl
    | cases h

theorem latchSet_ackLatch (m : Latch) : latchSet l (ackLatch m s) =
    if l = m then latchSet m s && edgeLevel m s && latchCause m s else latchSet l s := by
  unfold latchSet
  rw [ilu_ackLatch]
  by_cases same : l = m
  · rw [if_pos same]; subst same; exact getElem_put_same _ _ _
  · rw [if_neg same]; exact getElem_put_ne _ (fun k => same (latchIndex_injective k).symm) _

theorem ackTaken_ackLatch (m : Latch) : ackTaken l (ackLatch m s) =
    if l = m then (if latchSet m s then edgeLevel m s && latchCause m s else ackTaken m s) else ackTaken l s := by
  unfold ackTaken
  rw [ilu_ackLatch]
  by_cases same : l = m
  · rw [if_pos same]; subst same; exact getElem_put_same _ _ _
  · rw [if_neg same]; exact getElem_put_ne _ (fun k => same (latchIndex_injective k).symm) _

theorem edgeLevel_ackLatch (m : Latch) : edgeLevel l (ackLatch m s) = edgeLevel l s :=
  congrArg (fun x : Settings => x.edgeLevel[latchIndex l]) (setting_of_steady (by simp))

theorem latchCause_of_inputs (inputs : t.ilu.debounced = s.ilu.debounced) (stages : t.odu.stages = s.odu.stages) :
    latchCause l t = latchCause l s := by
  cases l <;> simp only [latchCause, debounced, failureSignal, stageAt, inputs, stages]

theorem latchCause_ackLatch (m : Latch) : latchCause l (ackLatch m s) = latchCause l s :=
  latchCause_of_inputs (by rw [ilu_ackLatch]) (congrArg Outputs.stages (odu_of_latched (latched_ackLatch m s)))

/-! ### The latches of a list (R28, R29) -/

/-- The latches that an acknowledge names act, one after the other. -/
def ackEach (ls : List Latch) (s : State) : State := ls.foldl (fun t l => ackLatch l t) s

theorem ackLatches_eq (ls : List Latch) (s : State) :
    ackLatches ls s = if ls.contains .tripgrp then stageHealth (ackEach ls s) else ackEach ls s := rfl

theorem latched_ackEach (ls : List Latch) (s : State) : latched (ackEach ls s) = latched s := by
  induction ls generalizing s with
  | nil => rfl
  | cons m ls ih => exact (ih _).trans (latched_ackLatch m s)

theorem edgeLevel_ackEach (ls : List Latch) (s : State) : edgeLevel l (ackEach ls s) = edgeLevel l s := by
  induction ls generalizing s with
  | nil => rfl
  | cons m ls ih => exact (ih _).trans (edgeLevel_ackLatch m)

theorem latchCause_ackEach (ls : List Latch) (s : State) : latchCause l (ackEach ls s) = latchCause l s := by
  induction ls generalizing s with
  | nil => rfl
  | cons m ls ih => exact (ih _).trans (latchCause_ackLatch m)

theorem ilu_ackEach (ls : List Latch) (s : State) : (ackEach ls s).ilu = { s.ilu with
    latch := (ackEach ls s).ilu.latch, ackTaken := (ackEach ls s).ilu.ackTaken } := by
  induction ls generalizing s with
  | nil => rfl
  | cons m ls ih =>
    refine (ih (ackLatch m s)).trans ?_
    rw [ilu_ackLatch]
    rfl

theorem latchSet_ackEach (ls : List Latch) (s : State) : latchSet l (ackEach ls s) =
    if l ∈ ls then latchSet l s && edgeLevel l s && latchCause l s else latchSet l s := by
  induction ls generalizing s with
  | nil => rfl
  | cons m ls ih =>
    refine (ih (ackLatch m s)).trans ?_
    rw [latchSet_ackLatch, edgeLevel_ackLatch, latchCause_ackLatch]
    by_cases same : l = m
    · subst same
      cases latchSet l s <;> cases edgeLevel l s <;> cases latchCause l s <;> simp
    · simp [same]

/-- A latch still SET after it was reached has its acknowledge taken (R25). -/
theorem ackTaken_ackEach {ls : List Latch} {s : State} (mem : l ∈ ls) (set : latchSet l (ackEach ls s) = true) :
    ackTaken l (ackEach ls s) = true := by
  have kept : ∀ (ls : List Latch) (s : State), (latchSet l s = true → ackTaken l s = true) →
      latchSet l (ackEach ls s) = true → ackTaken l (ackEach ls s) = true := by
    intro ls
    induction ls with
    | nil => exact fun s h => h
    | cons m ls ih =>
      refine fun s h => ih (ackLatch m s) ?_
      rw [latchSet_ackLatch, ackTaken_ackLatch]
      by_cases same : l = m
      · subst same
        cases latchSet l s <;> simp
      · simpa [same] using h
  induction ls generalizing s with
  | nil => cases mem
  | cons m ls ih =>
    rcases List.mem_cons.mp mem with rfl | later
    · refine kept ls (ackLatch l s) ?_ set
      rw [latchSet_ackLatch, ackTaken_ackLatch]
      cases latchSet l s <;> simp
    · exact ih later set

/-! ### The stage health event (R157) -/

/-- What the stage health event leaves: the inputs but TRIPGRP's own, and the flags of the other codes. -/
def apart (s : State) : Inputs × (FaultCode → Bool × Bool × Bool) :=
  ({ s.ilu with latch := put s.ilu.latch 5 false, ackTaken := put s.ilu.ackTaken 5 false, tripQuiet := false },
    fun c => if c = .stageFail then (false, false, false) else codeFlags c s)

theorem apart_of_eq (inputs : t.ilu = s.ilu) (flags : ∀ c ≠ .stageFail, codeFlags c t = codeFlags c s) : apart t = apart s := by
  unfold apart
  rw [inputs]
  refine Prod.ext rfl (funext fun c => ?_)
  by_cases same : c = .stageFail
  · simp [same]
  · simp [same, flags c same]

theorem apart_clearLatch (s : State) (flags : ∀ c, codeFlags c t = codeFlags c s) {l a : Bool} {q : Bool}
    (inputs : t.ilu = { s.ilu with latch := put s.ilu.latch 5 l, ackTaken := put s.ilu.ackTaken 5 a, tripQuiet := q }) :
    apart t = apart s := by
  unfold apart
  rw [inputs]
  simp only [put_put, flags]

theorem apart_failStage (k : Fin 4) (s : State) : apart (failStage k s) = apart s := by
  have kept : put s.ilu.ackTaken 5 (ackTaken .tripgrp s) = s.ilu.ackTaken := put_getElem _ _
  unfold apart
  rw [ilu_failStage]
  simp only [put_put]
  refine Prod.ext rfl (funext fun c => ?_)
  by_cases same : c = .stageFail
  · simp [same]
  · simp [same, codeFlags_failStage]

/-- The failed-stage set is emptied with its condition and mask (R157). -/
def setEmptied (s : State) : State := clearCondition .stageFail (setFailed (Vector.replicate 4 false) s)

/-- Every failed channel is OFF. -/
def restored (s : State) : State := allStages.foldl (fun t k => restoreStage k t) (setEmptied s)

/-- Those whose feedback is ACTIVE fail again (log 20). -/
def failedAgain (was : Vector Bool 4) (ks : List (Fin 4)) (s : State) : State :=
  ks.foldl (fun t k => if was[k] && feedback k t then failStage k t else t) s

theorem stageHealth_eq (s : State) : stageHealth s =
    if anySet s.frc.failed then emit .frostEvaluate (failedAgain s.frc.failed allStages (tripMembersInactive (restored s))) else s := rfl

theorem restoreStage_cases (k : Fin 4) (s : State) :
    (restoreStage k s).frc = s.frc ∧ (restoreStage k s).ftu = s.ftu ∧ (restoreStage k s).ilu = s.ilu ∧
      (restoreStage k s).sld = s.sld ∧ failureSignal k (restoreStage k s) = false ∧
      ∀ j, failureSignal j s = false → failureSignal j (restoreStage k s) = false := by
  unfold restoreStage
  split
  next =>
    refine ⟨rfl, rfl, rfl, rfl, ?_, fun j healthy => ?_⟩
    · exact congrArg (fun x : Stage => x.state == .failed) (stageAt_moveStage k _ s)
    · by_cases same : k = j
      · subst same; exact congrArg (fun x : Stage => x.state == .failed) (stageAt_moveStage k _ s)
      · exact (congrArg (fun x : Stage => x.state == .failed) (stageAt_setStage_ne same _ s)).trans healthy
  next healthy => exact ⟨rfl, rfl, rfl, rfl, Bool.eq_false_iff.mpr healthy, fun _ h => h⟩

theorem restoreEach_spec (ks : List (Fin 4)) (s : State) :
    let t := ks.foldl (fun t k => restoreStage k t) s
    t.frc = s.frc ∧ t.ftu = s.ftu ∧ t.ilu = s.ilu ∧ t.sld = s.sld ∧ (∀ k ∈ ks, failureSignal k t = false) ∧
      ∀ j, failureSignal j s = false → failureSignal j t = false := by
  induction ks generalizing s with
  | nil => exact ⟨rfl, rfl, rfl, rfl, fun _ h => (by cases h), fun _ h => h⟩
  | cons k ks ih =>
    obtain ⟨frc, ftu, ilu, sld, restored, healthy⟩ := restoreStage_cases k s
    obtain ⟨frc', ftu', ilu', sld', restored', healthy'⟩ := ih (restoreStage k s)
    refine ⟨frc'.trans frc, ftu'.trans ftu, ilu'.trans ilu, sld'.trans sld, fun j mem => ?_, fun j h => healthy' j (healthy j h)⟩
    rcases List.mem_cons.mp mem with rfl | later
    · exact healthy' _ restored
    · exact restored' j later

theorem codeFlags_setEmptied (c : FaultCode) (s : State) (standing : conditionPresent .stageFail s = inFaultSet .stageFail s) :
    (c ≠ .stageFail → codeFlags c (setEmptied s) = codeFlags c s) ∧
    conditionPresent .stageFail (setEmptied s) = false ∧ inFaultSet .stageFail (setEmptied s) = false := by
  have flags : ∀ d, codeFlags d (setEmptied s) = _ := fun d => codeFlags_clearCondition .stageFail d (setFailed (Vector.replicate 4 false) s)
  have present : conditionPresent .stageFail (setFailed (Vector.replicate 4 false) s) = inFaultSet .stageFail s := standing
  have same : inFaultSet .stageFail (setFailed (Vector.replicate 4 false) s) = inFaultSet .stageFail s := rfl
  refine ⟨fun other => (flags c).trans (if_neg fun h => other h.1), ?_, ?_⟩
  · refine (congrArg Prod.fst (flags .stageFail)).trans ?_
    rw [present, same]
    cases h : inFaultSet .stageFail s with
    | true => simp [isHold]
    | false => simpa [codeFlags] using present.trans h
  · refine (congrArg (fun x : Bool × Bool × Bool => x.2.1) (flags .stageFail)).trans ?_
    rw [present, same]
    cases h : inFaultSet .stageFail s with
    | true => simp [isHold]
    | false => simpa [codeFlags] using same.trans h

theorem stageMask_setEmptied (s : State) : (setEmptied s).ftu.stageMask = Vector.replicate 4 false := by
  unfold setEmptied clearCondition leaveFault setFailed
  dsimp only
  split
  · split
    · exact (stageMask_of_faultFlags (faultFlags_announceHold _ _)).trans rfl
    · rfl
  · rfl

theorem ilu_setEmptied (s : State) : (setEmptied s).ilu = s.ilu := by unfold setEmptied; simp

theorem frc_setEmptied (s : State) : (setEmptied s).frc = { s.frc with failed := Vector.replicate 4 false } :=
  (frc_of_watched (watched_clearCondition .stageFail (setFailed (Vector.replicate 4 false) s)) :)

theorem setting_setEmptied (s : State) : (setEmptied s).sld = s.sld :=
  (congrArg (fun b : Beside => b.state.sld) (watched_clearCondition .stageFail (setFailed (Vector.replicate 4 false) s)) :)

theorem restored_spec (s : State) :
    let t := restored s
    t.frc = { s.frc with failed := Vector.replicate 4 false } ∧ t.ftu = (setEmptied s).ftu ∧ t.ilu = s.ilu ∧
      t.sld = s.sld ∧ ∀ k, failureSignal k t = false := by
  obtain ⟨frc, ftu, ilu, sld, healthy, _⟩ := restoreEach_spec allStages (setEmptied s)
  exact ⟨frc.trans (frc_setEmptied s), ftu, ilu.trans (ilu_setEmptied s), sld.trans (setting_setEmptied s),
    fun k => healthy k (by fin_cases k <;> simp [allStages])⟩

theorem latchCause_restored (s : State) : latchCause .tripgrp (restored s) = false := by
  obtain ⟨_, _, _, _, healthy⟩ := restored_spec s
  unfold latchCause
  simp [healthy]

/-- Every member of TRIPGRP is INACTIVE. -/
def quieted (s : State) : State := { s with ilu := { s.ilu with tripQuiet := true } }

/-- TRIPGRP's cause has ended: the quiet flag is set and the latch, where its acknowledge is taken, CLEAR. -/
theorem ilu_tripMembersInactive {r : State} (cause : latchCause .tripgrp r = false)
    (acked : latchSet .tripgrp r = true → edgeLevel .tripgrp r = true ∧ ackTaken .tripgrp r = true) :
    ∃ a, (tripMembersInactive r).ilu = { r.ilu with
      tripQuiet := true, latch := put r.ilu.latch 5 false, ackTaken := put r.ilu.ackTaken 5 a } := by
  have clear : (latchSet .tripgrp (quieted r) && !clearsNow .tripgrp (quieted r)) = false := by
    show (latchSet .tripgrp r && !(latchSet .tripgrp r && edgeLevel .tripgrp r && ackTaken .tripgrp r && !latchCause .tripgrp r)) = false
    cases on : latchSet .tripgrp r with
    | false => rfl
    | true => rw [(acked on).1, (acked on).2, cause]; rfl
  have ended := ilu_causeEnded .tripgrp (quieted r)
  rw [clear] at ended
  unfold tripMembersInactive
  rw [if_neg (by rw [cause]; decide)]
  exact ⟨_, ended⟩

theorem ilu_restored (s : State) (acked : latchSet .tripgrp s = true → edgeLevel .tripgrp s = true ∧ ackTaken .tripgrp s = true) :
    ∃ a, (tripMembersInactive (restored s)).ilu = { s.ilu with
      tripQuiet := true, latch := put s.ilu.latch 5 false, ackTaken := put s.ilu.ackTaken 5 a } := by
  have cause := latchCause_restored s
  obtain ⟨_, _, ilu, sld, _⟩ := restored_spec s
  generalize restored s = r at *
  rw [← ilu]
  refine ilu_tripMembersInactive cause fun on => ?_
  obtain ⟨edge, taken⟩ := acked ((congrArg (fun i : Inputs => i.latch[latchIndex .tripgrp]) ilu).symm.trans on)
  exact ⟨(congrArg (fun x : Loader => x.settings.edgeLevel[latchIndex .tripgrp]) sld).trans edge,
    (congrArg (fun i : Inputs => i.ackTaken[latchIndex .tripgrp]) ilu).trans taken⟩

theorem stagesAgree_restored (s : State) (agree : StagesAgree s) : StagesAgree (tripMembersInactive (restored s)) := by
  obtain ⟨_, present, standing, _, _⟩ := agree
  obtain ⟨frc, ftu, ilu, sld, healthy⟩ := restored_spec s
  obtain ⟨_, absent, out⟩ := codeFlags_setEmptied .stageFail s (present.trans standing.symm)
  have latched := latched_tripMembersInactive (restored s)
  have flags : faultFlags (tripMembersInactive (restored s)) = faultFlags (setEmptied s) :=
    (faultFlags_of_latched latched).trans (congrArg (fun f : Faults => (f.condition, f.inSet, f.acked, f.stageMask)) ftu)
  have code := codeFlags_of_faultFlags .stageFail flags
  have failed : (tripMembersInactive (restored s)).frc.failed = Vector.replicate 4 false :=
    (congrArg Frost.failed (frc_of_latched latched)).trans (congrArg Frost.failed frc)
  have none : anySet (Vector.replicate 4 false) = false := by decide
  have quiet : (tripMembersInactive (restored s)).ilu.tripQuiet = true := by
    unfold tripMembersInactive
    rw [if_neg (by rw [latchCause_restored]; decide), ilu_causeEnded]
  refine ⟨fun k => ?_, ?_, ?_, ?_, ?_⟩
  · have signal : failureSignal k (tripMembersInactive (restored s)) = false :=
      (congrArg (fun o : Outputs => o.stages[k].state == .failed) (odu_of_latched latched)).trans (healthy k)
    rw [signal, failed]
    simp
  · rw [failed, none]; exact (congrArg Prod.fst code).trans absent
  · rw [failed, none]; exact (congrArg (fun x : Bool × Bool × Bool => x.2.1) code).trans out
  · rw [failed]; exact (stageMask_of_faultFlags flags).trans (stageMask_setEmptied s)
  · rw [failed, none, quiet]; rfl

theorem feedback_failStage (j k : Fin 4) (s : State) : feedback j (failStage k s) = feedback j s :=
  (congrArg (fun i : Inputs => i.debounced[inputIndex (.hfb j)]) (ilu_failStage k s) :)

/-- Failing again keeps the agreement, TRIPGRP with it, and adds those of the list whose feedback is ACTIVE. -/
theorem failedAgain_spec (was : Vector Bool 4) (ks : List (Fin 4)) (s : State) (agree : StagesAgree s)
    (latch : latchSet .tripgrp s = anySet s.frc.failed) :
    let t := failedAgain was ks s
    StagesAgree t ∧ latchSet .tripgrp t = anySet t.frc.failed ∧
      ∀ j, t.frc.failed[j] = (s.frc.failed[j] || (decide (j ∈ ks) && (was[j] && feedback j s))) := by
  induction ks generalizing s with
  | nil => exact ⟨agree, latch, fun j => by simp [failedAgain]⟩
  | cons k ks ih =>
    cases fails : was[k] && feedback k s with
    | false =>
      have same : failedAgain was (k :: ks) s = failedAgain was ks s :=
        congrArg (fun t : State => failedAgain was ks t) (if_neg (by rw [fails]; decide))
      rw [same]
      obtain ⟨agree', latch', failed⟩ := ih s agree latch
      refine ⟨agree', latch', fun j => (failed j).trans ?_⟩
      by_cases here : j = k
      · subst here; rw [fails]; simp
      · simp [here]
    | true =>
      have same : failedAgain was (k :: ks) s = failedAgain was ks (failStage k s) :=
        congrArg (fun t : State => failedAgain was ks t) (if_pos fails)
      rw [same]
      have now : (failStage k s).frc.failed = put s.frc.failed k true := congrArg Frost.failed (frc_failStage k s)
      have set : latchSet .tripgrp (failStage k s) = anySet (failStage k s).frc.failed := by
        obtain ⟨_, _, _, _, quiet⟩ := agree
        rw [now, anySet_put]
        unfold latchSet
        rw [ilu_failStage]
        refine (getElem_put_same _ _ _).trans ?_
        rw [latch, quiet]
        cases anySet s.frc.failed <;> rfl
      obtain ⟨agree', latch', failed⟩ := ih (failStage k s) (stagesAgree_failStage k agree) set
      refine ⟨agree', latch', fun j => (failed j).trans ?_⟩
      rw [now, feedback_failStage]
      by_cases here : j = k
      · subst here; rw [getElem_put_same, fails]; simp
      · rw [getElem_put_ne _ (Ne.symm here)]; simp [here]

theorem apart_failedAgain (was : Vector Bool 4) (ks : List (Fin 4)) (s : State) : apart (failedAgain was ks s) = apart s := by
  unfold failedAgain
  induction ks generalizing s with
  | nil => rfl
  | cons k ks ih =>
    refine (ih _).trans ?_
    dsimp only
    split
    · exact apart_failStage k s
    · rfl

theorem apart_tripMembersInactive (s : State) : apart (tripMembersInactive s) = apart s := by
  have flags := faultFlags_of_latched (latched_tripMembersInactive s)
  have inputs : ∃ l a q, (tripMembersInactive s).ilu =
      { s.ilu with latch := put s.ilu.latch 5 l, ackTaken := put s.ilu.ackTaken 5 a, tripQuiet := q } := by
    unfold tripMembersInactive
    split
    · refine ⟨latchSet .tripgrp s, ackTaken .tripgrp s, s.ilu.tripQuiet, ?_⟩
      rw [show put s.ilu.latch 5 (latchSet .tripgrp s) = s.ilu.latch from put_getElem _ _,
        show put s.ilu.ackTaken 5 (ackTaken .tripgrp s) = s.ilu.ackTaken from put_getElem _ _]
    · rw [ilu_causeEnded]; exact ⟨_, _, _, rfl⟩
  obtain ⟨l, a, q, inputs⟩ := inputs
  exact apart_clearLatch s (fun c => codeFlags_of_faultFlags c flags) inputs

/-- The stage health event leaves the other latches, the other inputs and the other codes. -/
theorem apart_stageHealth (s : State) : apart (stageHealth s) = apart s := by
  rw [stageHealth_eq]
  split
  · obtain ⟨_, ftu, ilu, _, _⟩ := restored_spec s
    have calm : apart (restored s) = apart s := by
      refine apart_of_eq ilu fun c other => ?_
      have flags : codeFlags c (restored s) = codeFlags c (setEmptied s) :=
        congrArg (fun f : Faults => (f.condition[faultIndex c], f.inSet[faultIndex c], f.acked[faultIndex c])) ftu
      refine flags.trans ((codeFlags_clearCondition .stageFail c (setFailed (Vector.replicate 4 false) s)).trans ?_)
      exact if_neg fun h => other h.1
    refine Eq.trans (b := apart (failedAgain s.frc.failed allStages (tripMembersInactive (restored s)))) rfl ?_
    rw [apart_failedAgain, apart_tripMembersInactive, calm]
  · rfl

theorem latchSet_of_apart (h : apart t = apart s) (other : l ≠ .tripgrp) : latchSet l t = latchSet l s := by
  have place : latchIndex .tripgrp ≠ latchIndex l := fun k => other (latchIndex_injective k).symm
  have same := congrArg (fun x : Inputs × (FaultCode → Bool × Bool × Bool) => x.1.latch[latchIndex l]) h
  exact (getElem_put_ne t.ilu.latch place false).symm.trans (same.trans (getElem_put_ne s.ilu.latch place false))

theorem ackTaken_of_apart (h : apart t = apart s) (other : l ≠ .tripgrp) : ackTaken l t = ackTaken l s := by
  have place : latchIndex .tripgrp ≠ latchIndex l := fun k => other (latchIndex_injective k).symm
  have same := congrArg (fun x : Inputs × (FaultCode → Bool × Bool × Bool) => x.1.ackTaken[latchIndex l]) h
  exact (getElem_put_ne t.ilu.ackTaken place false).symm.trans (same.trans (getElem_put_ne s.ilu.ackTaken place false))

theorem raw_of_apart (h : apart t = apart s) : t.ilu.raw = s.ilu.raw ∧ t.ilu.debounced = s.ilu.debounced :=
  ⟨congrArg (fun x : Inputs × (FaultCode → Bool × Bool × Bool) => x.1.raw) h,
    congrArg (fun x : Inputs × (FaultCode → Bool × Bool × Bool) => x.1.debounced) h⟩

theorem codeFlags_of_apart (h : apart t = apart s) {c : FaultCode} (other : c ≠ .stageFail) : codeFlags c t = codeFlags c s := by
  have same := congrFun (congrArg Prod.snd h) c
  simpa [apart, other] using same

/-- The stage health event (R31, R157): those of the failed stages whose feedback is ACTIVE have failed again. -/
theorem stageHealth_spec (agree : StagesAgree s)
    (acked : latchSet .tripgrp s = true → anySet s.frc.failed = true ∧ edgeLevel .tripgrp s = true ∧ ackTaken .tripgrp s = true) :
    let t := stageHealth s
    StagesAgree t ∧ latchSet .tripgrp t = anySet t.frc.failed ∧ ∀ j, t.frc.failed[j] = (s.frc.failed[j] && feedback j s) := by
  rw [stageHealth_eq]
  cases any : anySet s.frc.failed with
  | false =>
    have none : ∀ j : Fin 4, s.frc.failed[j] = false := fun j => by
      cases h : s.frc.failed[j] with
      | false => rfl
      | true => rw [anySet_iff.mpr ⟨j, h⟩] at any; cases any
    refine ⟨agree, ?_, fun j => by rw [if_neg (by decide), none j]; rfl⟩
    show latchSet .tripgrp s = anySet s.frc.failed
    cases on : latchSet .tripgrp s with
    | false => exact any.symm
    | true => exact (acked on).1.symm
  | true =>
    obtain ⟨a, ilu⟩ := ilu_restored s (fun on => (acked on).2)
    have failed : (tripMembersInactive (restored s)).frc.failed = Vector.replicate 4 false :=
      (congrArg Frost.failed (frc_of_latched (latched_tripMembersInactive (restored s)))).trans
        (congrArg Frost.failed (restored_spec s).1)
    have latch : latchSet .tripgrp (tripMembersInactive (restored s)) = anySet (tripMembersInactive (restored s)).frc.failed := by
      unfold latchSet
      rw [ilu, failed]
      exact (getElem_put_same _ _ _).trans (by decide)
    obtain ⟨agree', latch', again⟩ := failedAgain_spec s.frc.failed allStages _ (stagesAgree_restored s agree) latch
    refine ⟨agree', latch', fun j => (again j).trans ?_⟩
    have fb : feedback j (tripMembersInactive (restored s)) = feedback j s :=
      (congrArg (fun i : Inputs => i.debounced[inputIndex (.hfb j)]) ilu :)
    have all : j ∈ allStages := by fin_cases j <;> simp [allStages]
    rw [failed, fb]
    simp [all]

/-! ### HOLD faults (R184) -/

/-- What an acknowledgement makes of the flags of a code. -/
def flagsAcked (x : Bool × Bool × Bool) : Bool × Bool × Bool :=
  if x.2.1 then (if x.1 then (true, true, true) else (false, false, false)) else x

theorem codeFlags_ackCode (c d : FaultCode) (s : State) :
    codeFlags d (ackCode c s) = if d = c then flagsAcked (codeFlags c s) else codeFlags d s := by
  unfold ackCode flagsAcked codeFlags
  cases standing : inFaultSet c s with
  | false => by_cases same : d = c <;> simp [same, standing]
  | true =>
    cases present : conditionPresent c s with
    | true =>
      rw [if_pos rfl, if_pos rfl]
      by_cases same : d = c
      · subst same
        simp only [if_true]
        exact Prod.ext present (Prod.ext standing (getElem_put_same _ _ _))
      · rw [if_neg same]
        exact Prod.ext rfl (Prod.ext rfl (getElem_put_ne _ (fun k => same (faultIndex_injective k).symm) _))
    | false =>
      rw [if_pos rfl, if_neg (by decide)]
      refine (codeFlags_leaveFault c d s).trans ?_
      rw [present]
      by_cases same : d = c <;> simp [same, codeFlags]

theorem codeFlags_ackFaults (c : FaultCode) (s : State) :
    codeFlags c (ackFaults s) = if isHold c then flagsAcked (codeFlags c s) else codeFlags c s := by
  unfold ackFaults holdCodes
  cases c <;> simp [codeFlags_ackCode, isHold]

/-- What the endings of conditions make of the flags of a HOLD code: a fault out of the set stays so, one acknowledged leaves
acknowledged, and one not acknowledged stays in the set. -/
def Eased (x y : Bool × Bool × Bool) : Prop :=
  (x.2.1 = false → y.2.1 = false) ∧ ((x.2.1 = true → x.2.2 = true) → y.2.1 = true → y.2.2 = true) ∧
  (x.2.2 = false → y.2.2 = false ∧ y.2.1 = x.2.1)

theorem Eased.refl (x : Bool × Bool × Bool) : Eased x x := ⟨id, id, fun h => ⟨h, rfl⟩⟩

theorem Eased.trans {x y z : Bool × Bool × Bool} (a : Eased x y) (b : Eased y z) : Eased x z := by
  obtain ⟨out, acked, stands⟩ := a
  obtain ⟨out', acked', stands'⟩ := b
  exact ⟨fun h => out' (out h), fun h => acked' (acked h),
    fun h => ⟨(stands' (stands h).1).1, (stands' (stands h).1).2.trans (stands h).2⟩⟩

/-- A HOLD condition that is absent. -/
def holdEnds (present : Bool) (c : FaultCode) : Prop := present = false ∧ isHold c = true

theorem eased_clearCondition {c : FaultCode} (hold : isHold c = true) (d : FaultCode) (s : State) :
    Eased (codeFlags d s) (codeFlags d (clearCondition c s)) := by
  rw [codeFlags_clearCondition, hold]
  by_cases same : d = c ∧ conditionPresent c s = true
  · obtain ⟨rfl, present⟩ := same
    unfold codeFlags Eased
    rw [present]
    cases inFaultSet d s <;> cases faultAcked d s <;> simp
  · rw [if_neg same]; exact .refl _

theorem eased_of_judges (j : Judges holdEnds s t) (c : FaultCode) : Eased (codeFlags c s) (codeFlags c t) := by
  induction j with
  | refl => exact .refl _
  | still _ same ih => rw [codeFlags_of_faultFlags c same]; exact ih
  | set present d _ ends ih =>
    obtain ⟨rfl, hold⟩ := ends
    exact ih.trans (eased_clearCondition hold c _)

/-! ### The whole acknowledge -/

/-- An acknowledge of the latches of a list, and of the HOLD faults or not, with what follows it (R28, R29, log 39). -/
def ackActs (ls : List Latch) (faults : Bool) (s : State) : State :=
  let t := ackLatches ls s
  fillFollows (frostJudge (guardExamine false (if faults then ackFaults t else t)))

/-- The critical flag as judged (R147). -/
def judged (s : State) : State := { s with frc := { s.frc with critical := criticalAfter s } }

theorem works_frostJudge (s : State) : Works (judged s) (frostJudge s) := by
  unfold frostJudge
  dsimp only
  split
  next same => rw [show judged s = s by unfold judged; rw [← same]]; exact .refl
  next => exact works_frostEvaluate .refl

theorem works_ackActs (ls : List Latch) (faults : Bool) (s : State) :
    let t := ackLatches ls s
    Works (judged (guardExamine false (if faults then ackFaults t else t))) (ackActs ls faults s) :=
  works_fillFollows (works_frostJudge _)

/-! ### What an acknowledge does to the latches and the failed stages -/

theorem latchSet_ackLatches {ls : List Latch} (other : l ≠ .tripgrp) (s : State) : latchSet l (ackLatches ls s) =
    if l ∈ ls then latchSet l s && edgeLevel l s && latchCause l s else latchSet l s := by
  rw [ackLatches_eq, ← latchSet_ackEach]
  split
  · exact latchSet_of_apart (apart_stageHealth _) other
  · rfl

theorem ackTaken_ackLatches {ls : List Latch} (other : l ≠ .tripgrp) (mem : l ∈ ls)
    (set : latchSet l (ackLatches ls s) = true) : ackTaken l (ackLatches ls s) = true := by
  rw [ackLatches_eq] at set ⊢
  split at set
  next =>
    rw [if_pos (by assumption), ackTaken_of_apart (apart_stageHealth _) other]
    rw [latchSet_of_apart (apart_stageHealth _) other] at set
    exact ackTaken_ackEach mem set
  next =>
    rw [if_neg (by assumption)]
    exact ackTaken_ackEach mem set

theorem raw_ackLatches (ls : List Latch) (s : State) :
    (ackLatches ls s).ilu.raw = s.ilu.raw ∧ (ackLatches ls s).ilu.debounced = s.ilu.debounced := by
  have each : (ackEach ls s).ilu.raw = s.ilu.raw ∧ (ackEach ls s).ilu.debounced = s.ilu.debounced := by
    rw [ilu_ackEach]; exact ⟨rfl, rfl⟩
  obtain ⟨raw, debounced⟩ := raw_of_apart (apart_stageHealth (ackEach ls s))
  rw [ackLatches_eq]
  split
  · exact ⟨raw.trans each.1, debounced.trans each.2⟩
  · exact each

theorem codeFlags_ackLatches (ls : List Latch) (s : State) {c : FaultCode} (other : c ≠ .stageFail) :
    codeFlags c (ackLatches ls s) = codeFlags c s := by
  have each : codeFlags c (ackEach ls s) = codeFlags c s :=
    codeFlags_of_faultFlags c (faultFlags_of_latched (latched_ackEach ls s))
  rw [ackLatches_eq]
  split
  · exact (codeFlags_of_apart (apart_stageHealth _) other).trans each
  · exact each

theorem failureSignal_ackEach (ls : List Latch) (s : State) (k : Fin 4) : failureSignal k (ackEach ls s) = failureSignal k s :=
  congrArg (fun o : Outputs => o.stages[k].state == .failed) (odu_of_latched (latched_ackEach ls s))

theorem stagesAgree_ackEach (ls : List Latch) (agree : StagesAgree s) : StagesAgree (ackEach ls s) := by
  obtain ⟨signals, present, standing, mask, quiet⟩ := agree
  have flags := faultFlags_of_latched (latched_ackEach ls s)
  have code := codeFlags_of_faultFlags .stageFail flags
  have failed : (ackEach ls s).frc.failed = s.frc.failed := congrArg Frost.failed (frc_of_latched (latched_ackEach ls s))
  refine ⟨fun k => ?_, ?_, ?_, ?_, ?_⟩
  · rw [failed, failureSignal_ackEach]; exact signals k
  · rw [failed]; exact (congrArg Prod.fst code).trans present
  · rw [failed]; exact (congrArg (fun x : Bool × Bool × Bool => x.2.1) code).trans standing
  · rw [failed]; exact (stageMask_of_faultFlags flags).trans mask
  · rw [failed, ilu_ackEach]; exact quiet

theorem latchCause_tripgrp (agree : StagesAgree s) : latchCause .tripgrp s = anySet s.frc.failed := by
  obtain ⟨signals, _⟩ := agree
  have cause : latchCause .tripgrp s = allStages.any (fun k => s.frc.failed[k]) :=
    congrArg (fun p : Fin 4 → Bool => allStages.any p) (funext fun k => (signals k).symm)
  rw [cause, Bool.eq_iff_iff, anySet_iff, List.any_eq_true]
  exact ⟨fun ⟨k, _, yes⟩ => ⟨k, yes⟩, fun ⟨k, yes⟩ => ⟨k, by fin_cases k <;> simp [allStages], yes⟩⟩

/-- An acknowledge that reaches TRIPGRP is a stage health event (R28, R157). -/
theorem ackLatches_stages {ls : List Latch} (mem : Latch.tripgrp ∈ ls) (agree : StagesAgree s) :
    let t := ackLatches ls s
    StagesAgree t ∧ latchSet .tripgrp t = anySet t.frc.failed ∧ ∀ j, t.frc.failed[j] = (s.frc.failed[j] && feedback j s) := by
  have failed : (ackEach ls s).frc.failed = s.frc.failed := congrArg Frost.failed (frc_of_latched (latched_ackEach ls s))
  have fb : ∀ j, feedback j (ackEach ls s) = feedback j s := by
    intro j; unfold feedback debounced; rw [ilu_ackEach]
  rw [ackLatches_eq, if_pos (by simpa using mem)]
  obtain ⟨agree', latch, again⟩ := stageHealth_spec (stagesAgree_ackEach ls agree) fun set => by
    have taken := ackTaken_ackEach mem set
    rw [latchSet_ackEach, if_pos mem, latchCause_tripgrp agree] at set
    simp only [Bool.and_eq_true] at set
    obtain ⟨⟨_, edge⟩, any⟩ := set
    exact ⟨by rw [failed]; exact any, (edgeLevel_ackEach ls s).trans edge, taken⟩
  exact ⟨agree', latch, fun j => by rw [again, failed, fb]⟩

/-- What follows the latches' acknowledge leaves them and the failed stages, and eases the HOLD faults. -/
theorem after_ackLatches {faults : Bool} {a : State}
    (w : Works (judged (guardExamine false (if faults then ackFaults a else a))) t) :
    t.ilu = a.ilu ∧ t.frc.failed = a.frc.failed ∧ (∀ k, failureSignal k t = failureSignal k a) ∧
    codeFlags .stageFail t = codeFlags .stageFail a ∧
    ∀ c, isHold c = true → Eased (if faults then flagsAcked (codeFlags c a) else codeFlags c a) (codeFlags c t) := by
  have acked : watched (if faults then ackFaults a else a) = watched a := by split <;> simp
  have after := quiet_of_works w
  have before : watched (guardExamine false (if faults then ackFaults a else a)) = watched a :=
    (watched_guardExamine _ _).trans acked
  have flags : ∀ c, codeFlags c t = codeFlags c (guardExamine false (if faults then ackFaults a else a)) :=
    fun c => (codeFlags_of_faultFlags c (faultFlags_of_quiet after)).trans rfl
  have judges : Judges holdEnds (if faults then ackFaults a else a) (guardExamine false (if faults then ackFaults a else a)) :=
    judges_guardExamine (fun c hold => ⟨rfl, hold⟩) false .refl
  refine ⟨?_, ?_, fun k => ?_, ?_, fun c hold => ?_⟩
  · exact (congrArg Quiet.ilu after).trans (congrArg (fun b : Beside => b.state.ilu) before)
  · exact (congrArg Quiet.failed after).trans (congrArg (fun b : Beside => b.state.frc.failed) before)
  · exact (failureSignal_of_works w k).trans (congrArg (fun b : Beside => b.state.odu.stages[k].state == .failed) before)
  · refine (flags _).trans ((codeFlags_of_judges judges ?_).trans ?_)
    · exact fun b ends => absurd ends.2 (by decide)
    · split
      · rw [codeFlags_ackFaults]; rfl
      · rfl
  · rw [flags]
    refine Eq.mp (congrArg (fun x => Eased x _) ?_) (eased_of_judges judges c)
    split
    · rw [codeFlags_ackFaults, hold]; rfl
    · rfl

theorem flagsAcked_acked (x : Bool × Bool × Bool) : (flagsAcked x).2.1 = true → (flagsAcked x).2.2 = true := by
  obtain ⟨p, i, a⟩ := x
  cases i <;> cases p <;> simp [flagsAcked]

theorem flagsAcked_absent {x : Bool × Bool × Bool} (h : x.1 = false) : (flagsAcked x).2.1 = false := by
  obtain ⟨p, i, a⟩ := x
  cases h
  cases i <;> simp [flagsAcked]

/-- The failed stages, their signals and TRIPGRP after an acknowledge that reached TRIPGRP. -/
theorem stages_after {a : State} (agree : StagesAgree a) (latch : latchSet .tripgrp a = anySet a.frc.failed)
    (again : ∀ j : Fin 4, a.frc.failed[j] = (s.frc.failed[j] && feedback j s)) (ilu : t.ilu = a.ilu)
    (failed : t.frc.failed = a.frc.failed) (signals : ∀ k, failureSignal k t = failureSignal k a)
    (flags : codeFlags .stageFail t = codeFlags .stageFail a) :
    let again := anySet (Vector.ofFn (fun k : Fin 4 => s.frc.failed[k] && feedback k s))
    (∀ k : Fin 4, t.frc.failed[k] = (s.frc.failed[k] && feedback k s) ∧ (t.frc.failed[k] = true → failureSignal k t = true)) ∧
    latchSet .tripgrp t = again ∧ conditionPresent .stageFail t = again ∧ inFaultSet .stageFail t = again := by
  intro any
  obtain ⟨agreed, present, standing, _, _⟩ := agree
  have same : anySet a.frc.failed = any := by
    refine congrArg anySet (Vector.ext fun j bound => ?_)
    rw [Vector.getElem_ofFn]
    exact again ⟨j, bound⟩
  refine ⟨fun k => ⟨by rw [failed, again], fun yes => ?_⟩, ?_, ?_, ?_⟩
  · rw [signals, ← agreed k, ← failed]; exact yes
  · exact (congrArg (fun i : Inputs => i.latch[latchIndex .tripgrp]) ilu).trans (latch.trans same)
  · exact (congrArg Prod.fst flags).trans (present.trans same)
  · exact (congrArg (fun x : Bool × Bool × Bool => x.2.1) flags).trans (standing.trans same)

/-! ### The state in which an ACK is taken -/

/-- The summary bits written (R68). -/
def bitsWritten (s : State) : State :=
  { s with ptb := { s.ptb with anySpill := anySpillNow s, supplyAbsent := supplyAbsentNow s, alone := aloneNow s } }

theorem works_updateSummary (s : State) : Works (bitsWritten s) (updateSummary s) := by
  have start : Works (bitsWritten s) (bitsWritten s) := .refl
  have told : ∀ t, Works (bitsWritten s) t → Works (bitsWritten s) (reliefEnd (reliefStart (handField .peerSpill t))) :=
    fun t w => works_reliefEnd (works_reliefStart (works_handField .peerSpill w))
  unfold updateSummary
  dsimp only
  (repeat' split) <;> first
    | exact start
    | exact works_changeSeen start
    | exact works_handField _ start
    | exact works_handField _ (works_changeSeen start)
    | exact told _ start
    | exact told _ (works_changeSeen start)
    | exact told _ (works_handField _ start)
    | exact told _ (works_handField _ (works_changeSeen start))

theorem failureSignal_peersChanged (k : Fin 4) (s : State) : failureSignal k (peersChanged s) = failureSignal k s := by
  have capacity : (updateCapacity s).odu = s.odu := (odu_of_beside (beside_takeCapacity s.ptb.capacity _)).trans rfl
  unfold peersChanged
  rw [failureSignal_of_works (works_updateSummary _)]
  exact congrArg (fun o : Outputs => o.stages[k].state == .failed) capacity

theorem stagesAgree_heardBefore (h : Heard) (agree : StagesAgree s) : StagesAgree (peersChanged (heardBefore h s)) := by
  obtain ⟨signals, present, standing, mask, quiet⟩ := agree
  have same := unpeered_heardBefore h s
  have failed : (peersChanged (heardBefore h s)).frc.failed = s.frc.failed := congrArg Quiet.failed same
  have peer : ∀ (n : Nat) (p : Peer) (t : State), (setPeer n p t).odu = t.odu := setPeer_odu
  have stages : (heardBefore h s).odu = s.odu := by
    unfold heardBefore writePeer hearSender
    dsimp only
    split <;> (try split) <;> simp only [peer] <;> rfl
  refine ⟨fun k => ?_, ?_, ?_, ?_, ?_⟩
  · rw [failed, failureSignal_peersChanged, signals k]
    exact (congrArg (fun o : Outputs => o.stages[k].state == .failed) stages).symm
  · rw [failed]; exact (congrArg (fun q : Quiet => q.ftu.condition[faultIndex .stageFail]) same).trans present
  · rw [failed]; exact (congrArg (fun q : Quiet => q.ftu.inSet[faultIndex .stageFail]) same).trans standing
  · rw [failed]; exact (congrArg (fun q : Quiet => q.ftu.stageMask) same).trans mask
  · rw [failed]; exact (congrArg (fun q : Quiet => q.ilu.tripQuiet) same).trans quiet

theorem takeAck_eq (target bits : Nat) (faults : Bool) (s : State) : takeAck target bits faults s =
    if target = (setting s).station ∧ ackPermitted s = true then ackActs (namedLatches bits) faults s else s := rfl

theorem raw_takeAck (target bits : Nat) (faults : Bool) (s : State) :
    (takeAck target bits faults s).ilu.raw = s.ilu.raw ∧ (takeAck target bits faults s).ilu.debounced = s.ilu.debounced := by
  rw [takeAck_eq]
  split
  · obtain ⟨ilu, _⟩ := after_ackLatches (works_ackActs (namedLatches bits) faults s)
    rw [ilu]
    exact raw_ackLatches _ s
  · exact ⟨rfl, rfl⟩

theorem mem_namedLatches (bits : Nat) : l ∈ namedLatches bits ↔ bits.testBit (latchIndex l).val = true := by
  unfold namedLatches
  rw [List.mem_filter]
  exact ⟨fun h => h.2, fun h => ⟨by cases l <;> simp [allLatches], h⟩⟩

end

end Sys2Proof.Machine

namespace Sys2Proof.Proofs
open Sys2Proof Sys2Proof.Machine

/-- Settles O17: the five latches by their mode, TRIPGRP by the stage health event, the HOLD faults as acknowledged and eased. -/
theorem ackPressReachesAll : Obligations.AckPressReachesAll := by
  intro s on timer pressed
  have a : arises (.inputSettled .ackin) s = true := arises_and on timer
  obtain ⟨answer, pins, measured, peers⟩ := settled_frame a
  refine ⟨_, answer, ?_⟩
  have press : effect (.inputSettled .ackin) (beginEvent s) = ackActs allLatches true (settleInput .ackin (beginEvent s)) :=
    if_pos pressed
  have works := works_of_event (f := effect (.inputSettled .ackin)) (s := s) (press ▸ works_ackActs allLatches true _)
  obtain ⟨ilu, failed, signals, flags, holds⟩ := after_ackLatches works
  have all : ∀ l, l ∈ allLatches := fun l => by cases l <;> simp [allLatches]
  have cause : ∀ l ≠ .tripgrp, latchCause l (settleInput .ackin (beginEvent s)) = latchCause l s := by
    intro l other
    have kept : ∀ i ≠ .ackin, debounced i (settleInput .ackin (beginEvent s)) = debounced i s :=
      fun i other => debounced_settleInput_ne (Ne.symm other) (beginEvent s)
    cases l <;> simp [latchCause, kept] at other ⊢
  refine ⟨fun l mem => ?_, fun agree => ?_, fun c mem => ?_, measured, peers, pins⟩
  · have other : l ≠ .tripgrp := by rintro rfl; simp at mem
    have set := latchSet_ackLatches (ls := allLatches) other (settleInput .ackin (beginEvent s))
    rw [if_pos (all l), cause l other] at set
    have same : latchSet l (event (effect (.inputSettled .ackin)) s) = latchSet l (ackLatches allLatches (settleInput .ackin (beginEvent s))) :=
      congrArg (fun i : Inputs => i.latch[latchIndex l]) ilu
    refine ⟨same.trans set, fun on => ?_⟩
    exact (congrArg (fun i : Inputs => i.ackTaken[latchIndex l]) ilu).trans (ackTaken_ackLatches other (all l) (same ▸ on))
  · obtain ⟨agree', latch, again⟩ := ackLatches_stages (s := settleInput .ackin (beginEvent s)) (all .tripgrp) agree
    have fb : ∀ k, feedback k (settleInput .ackin (beginEvent s)) = feedback k s :=
      fun k => debounced_settleInput_ne (by simp) (beginEvent s)
    exact stages_after agree' latch (fun j => (again j).trans (by rw [fb j]; rfl)) ilu failed signals flags
  · have hold : isHold c = true := by
      simp only [List.mem_cons, List.not_mem_nil, or_false] at mem
      rcases mem with rfl | rfl | rfl <;> rfl
    obtain ⟨out, acked, _⟩ := holds c hold
    have other : c ≠ .stageFail := by rintro rfl; cases hold
    have before : codeFlags c (ackLatches allLatches (settleInput .ackin (beginEvent s))) = codeFlags c s :=
      codeFlags_ackLatches allLatches (settleInput .ackin (beginEvent s)) other
    rw [if_pos rfl, before] at out acked
    exact ⟨acked (flagsAcked_acked _), fun absent => out (flagsAcked_absent (x := codeFlags c s) absent)⟩

/-- Settles O34: a permitted ACK acts as a press does on what it names; any other acts on nothing. -/
theorem ackNoticeActs : Obligations.AckNoticeActs := by
  intro chars h target bits faults s on heard other content
  have a : arises (.noticeHeard chars) s = true := arises_of_heardAs (loaded_of_active on) heard
  have answer : exec (.noticeHeard chars) s = .next (event (effect (.noticeHeard chars)) s) := exec_of_arises a
  have act := effect_heardPeer on heard other
  obtain ⟨w, taken⟩ : ∃ w, w = peersChanged (heardBefore h (beginEvent s)) := ⟨_, rfl⟩
  have handed : effect (.noticeHeard chars) (beginEvent s) = if h.role = .gateway then takeAck target bits faults w else w := by
    rw [act, taken]; unfold heardPeer handOn; rw [content]; rfl
  have part : unpeered w = unpeered s := taken ▸ unpeered_heardBefore h (beginEvent s)
  have ilu : w.ilu = s.ilu := congrArg Quiet.ilu part
  have settings : setting w = setting s := congrArg Quiet.settings part
  have permit : ackPermitted w = (!debounced .maint s || (setting s).remoteAck) := by
    unfold ackPermitted debounced; rw [ilu, settings]
  refine ⟨_, answer, fun refused => ?_, fun gateway mine permitted => ?_, msu_taken a (by simp) (by simp) (by simp), ?_⟩
  · have idle : effect (.noticeHeard chars) (beginEvent s) = w := by
      rw [handed]
      split
      next gateway =>
        unfold takeAck
        rw [if_neg]
        rw [settings, permit]
        rintro ⟨mine, permitted⟩
        rcases refused with k | k | ⟨maint, remote⟩
        · exact k gateway
        · exact k mine
        · rw [maint, remote] at permitted; cases permitted
      next => rfl
    have after := unpeered_of_quiet (quiet_event (effect (.noticeHeard chars)) s)
    rw [idle, part] at after
    exact ⟨congrArg Quiet.ilu after, congrArg (fun q : Quiet => q.ftu.acked) after,
      congrArg (fun q : Quiet => q.ftu.inSet) after, congrArg Quiet.failed after⟩
  · have acts : effect (.noticeHeard chars) (beginEvent s) = ackActs (namedLatches bits) faults w := by
      rw [handed, if_pos gateway, takeAck_eq, if_pos]
      rw [settings, permit]
      refine ⟨mine, ?_⟩
      rcases permitted with maint | remote
      · rw [maint]; rfl
      · rw [remote, Bool.or_true]
    have works := works_of_event (f := effect (.noticeHeard chars)) (s := s) (acts ▸ works_ackActs (namedLatches bits) faults w)
    obtain ⟨inputs, failed, signals, flags, holds⟩ := after_ackLatches works
    have latches : ∀ l, latchSet l (event (effect (.noticeHeard chars)) s) = latchSet l (ackLatches (namedLatches bits) w) :=
      fun l => congrArg (fun i : Inputs => i.latch[latchIndex l]) inputs
    have set : ∀ l, latchSet l w = latchSet l s := fun l => congrArg (fun i : Inputs => i.latch[latchIndex l]) ilu
    have failedBefore : w.frc.failed = s.frc.failed := congrArg Quiet.failed part
    have codes : ∀ c ≠ .stageFail, codeFlags c (ackLatches (namedLatches bits) w) = codeFlags c s := fun c other =>
      (codeFlags_ackLatches _ w other).trans
        (congrArg (fun q : Quiet => (q.ftu.condition[faultIndex c], q.ftu.inSet[faultIndex c], q.ftu.acked[faultIndex c])) part)
    have isHolds : ∀ c ∈ [FaultCode.inletStuck, .inletLeak, .stopUnconfirmed], isHold c = true ∧ c ≠ .stageFail := by decide
    refine ⟨fun l mem => ?_, fun unnamed => ?_, fun named agree => ?_, fun all c mem => ?_, fun none c mem unacked => ?_⟩
    · have other : l ≠ .tripgrp := by rintro rfl; simp at mem
      have cause : latchCause l w = latchCause l s := by
        cases l <;> simp [latchCause, debounced, ilu] at other ⊢
      have edge : edgeLevel l w = edgeLevel l s := congrArg (fun x : Settings => x.edgeLevel[latchIndex l]) settings
      rw [latches, latchSet_ackLatches other, set, edge, cause]
      simp only [mem_namedLatches]
    · have out : Latch.tripgrp ∉ namedLatches bits := fun mem => by
        have bit := (mem_namedLatches bits).mp mem
        rw [show bits.testBit (latchIndex .tripgrp).val = false from unnamed] at bit
        cases bit
      have each : ackLatches (namedLatches bits) w = ackEach (namedLatches bits) w := by
        rw [ackLatches_eq, if_neg (by simpa using out)]
      refine ⟨?_, ?_⟩
      · rw [latches, each, latchSet_ackEach, if_neg out, set]
      · rw [failed, each, ← failedBefore]
        exact congrArg Frost.failed (frc_of_latched (latched_ackEach _ w))
    · have agree' : StagesAgree w := taken ▸ stagesAgree_heardBefore h (s := beginEvent s) agree
      obtain ⟨agreed, latch, again⟩ := ackLatches_stages ((mem_namedLatches bits).mpr named) agree'
      have fb : ∀ k, feedback k w = feedback k s := fun k => congrArg (fun i : Inputs => i.debounced[inputIndex (.hfb k)]) ilu
      exact stages_after agreed latch (fun j => (again j).trans (by rw [fb j, failedBefore])) inputs failed signals flags
    · obtain ⟨hold, other⟩ := isHolds c mem
      obtain ⟨_, acked, _⟩ := holds c hold
      rw [if_pos all] at acked
      exact acked (flagsAcked_acked _)
    · obtain ⟨hold, other⟩ := isHolds c mem
      obtain ⟨_, _, stands⟩ := holds c hold
      rw [if_neg (by rw [none]; decide), codes c other] at stands
      exact stands unacked
  · have inputs : (event (effect (.noticeHeard chars)) s).ilu =
        (if h.role = .gateway then takeAck target bits faults w else w).ilu := (ilu_event _ _).trans (congrArg State.ilu handed)
    rw [inputs, ← ilu]
    split
    · exact raw_takeAck target bits faults w
    · exact ⟨rfl, rfl⟩

end Sys2Proof.Proofs
end

section
/-! PROOFS. An initial CLAIM sent and its re-examination. -/

namespace Sys2Proof.Machine

section
variable {r : Resource} {s t : State}

/-! ### An initial CLAIM sent (R87) -/

/-- The own claim that settles after its initial CLAIM. -/
def settlingOwn (r : Resource) (s : State) : OwnClaim :=
  { own r s with
    state := .settling, settle := some (setting s).tSettle, refresh := some (setting s).tRefresh, leadDone := false, missed := 0 }

/-- The own entry that it enters. -/
def settlingEntry (a u : Nat) (s : State) : Holding := { share := .settling a none (setting s).tSettle false, urgency := u, age := 0 }

/-- The claim unit after an initial CLAIM sent. -/
def claimSettles (r : Resource) (a u : Nat) (s : State) : State :=
  setEntry r (setting s).station (some (settlingEntry a u s))
    (setTable r ((claimTable r s).map clearLate) (setOwn r (settlingOwn r s) s))

theorem claimSent_of_announcing (h : (own r s).state = .announcing) (a u : Nat) :
    claimSent r false a u s = emit (.reexamine r) (claimSettles r a u s) := by
  unfold claimSent
  dsimp only
  rw [if_neg (by decide), if_pos h]
  rfl

section
variable (r : Resource) (a u : Nat) (s : State)

theorem claimSettles_eq : claimSettles r a u s = { s with clu := (claimSettles r a u s).clu } := by
  unfold claimSettles setEntry
  split <;> cases r <;> rfl

theorem own_claimSettles : own r (claimSettles r a u s) = settlingOwn r s := by
  unfold claimSettles setEntry
  split <;> cases r <;> rfl

theorem side_claimSettles_ne {r r' : Resource} (h : r' ≠ r) (a u : Nat) (s : State) : side r' (claimSettles r a u s) = side r' s := by
  unfold claimSettles
  rw [side_setEntry_ne (Ne.symm h)]
  cases r <;> cases r' <;> first
    | exact absurd rfl h
    | rfl

theorem entryAt_claimSettles_ne {n : Nat} (h : n ≠ (setting s).station) :
    entryAt r n (claimSettles r a u s) = clearLate (entryAt r n s) := by
  unfold claimSettles
  rw [entryAt_setEntry_of_ne h]
  unfold entryAt
  split
  · cases r <;> exact Vector.getElem_map _ _
  · rfl

theorem entryAt_claimSettles (inside : 1 ≤ (setting s).station ∧ (setting s).station ≤ 24) :
    entryAt r (setting s).station (claimSettles r a u s) = some (settlingEntry a u s) := by
  unfold claimSettles setEntry entryAt
  rw [dif_pos inside, dif_pos inside]
  cases r <;> exact Vector.getElem_set_self _

/-- The other stations' part of the fit, the larger of held and pending amounts. -/
theorem othersSum_claimSettles : othersSum r (claimSettles r a u s) =
    (((entriesOf r s).filter (fun e => e.1 != (setting s).station)).map (fun e => largerPart e.2.share)).sum := by
  have settings : setting (claimSettles r a u s) = setting s := (congrArg setting (claimSettles_eq r a u s) :)
  rw [othersSum_eq, sum_entriesOf, settings]
  congr 1
  refine List.map_congr_left fun i _ => ?_
  by_cases me : i + 1 = (setting s).station
  · rw [if_pos me]
    cases entryAt r (i + 1) s with
    | none => rfl
    | some e => exact (if_neg (by simp [me])).symm
  · rw [if_neg me, entryAt_claimSettles_ne r a u s me]
    cases entryAt r (i + 1) s with
    | none => rfl
    | some e =>
      obtain ⟨share, v, age⟩ := e
      cases share <;> simp [clearLate, largerPart, me]

end

/-- The station after that CLAIM: its owner told, the line in GAP. -/
def claimIsSent (r : Resource) (a u : Nat) (s : State) : State :=
  { claimSettles r a u s with lnu := { s.lnu with state := .gap, onLine := none, queue := afterSending s.lnu.queue } }

theorem claimIsSent_eq (r : Resource) (a u : Nat) (s : State) : claimIsSent r a u s = { s with
    clu := (claimSettles r a u s).clu
    lnu := { s.lnu with state := .gap, onLine := none, queue := afterSending s.lnu.queue } } := by
  unfold claimIsSent
  rw [claimSettles_eq]

theorem finishSending_initialClaim {o : OnLine} (line : s.lnu.onLine = some o) (item : o.item = .claim r false)
    (h : (own r s).state = .announcing) :
    finishSending s = emit (.reexamine r) (claimIsSent r (byteAt o.body 1) o.urgency s) := by
  unfold finishSending
  rw [line]
  unfold tellSent lineAfterSent
  dsimp only
  simp only [item]
  rw [claimSent_of_announcing h, claimIsSent_eq, claimSettles_eq]
  rfl

theorem side_claimIsSent (r r' : Resource) (a u : Nat) (s : State) : side r' (claimIsSent r a u s) = side r' (claimSettles r a u s) :=
  side_of_clu rfl r'

/-- R88 on the claim just sent. -/
theorem settleCheck_claimIsSent {t : State} (a u : Nat) (inside : 1 ≤ (setting s).station ∧ (setting s).station ≤ 24)
    (claims : t.clu = (claimSettles r a u s).clu) (settings : setting t = setting s) (peers : t.ptb = s.ptb) :
    settleCheck r t =
      if (own r s).urgency < 6 ∧ capacityOf r s < a +
        (((entriesOf r s).filter (fun e => e.1 != (setting s).station)).map (fun e => largerPart e.2.share)).sum
      then loseOwn r true t else t := by
  have side : side r t = side r (claimSettles r a u s) := side_of_clu claims r
  have mine : own r t = settlingOwn r s := (own_of_side side).trans (own_claimSettles r a u s)
  have amount : settlingAmount r t = a := by
    unfold settlingAmount
    rw [settings, entryAt_of_side side, entryAt_claimSettles r a u s inside]
    rfl
  have others : othersSum r t = othersSum r (claimSettles r a u s) := by
    have same : setting (claimSettles r a u s) = setting s := (congrArg setting (claimSettles_eq r a u s) :)
    unfold othersSum ownSettling
    rw [settings, same, own_of_side side, show entriesOf r t = entriesOf r (claimSettles r a u s) by
      unfold entriesOf; rw [show claimTable r t = claimTable r (claimSettles r a u s) from congrArg Prod.snd side]]
  have capacity : capacityOf r t = capacityOf r s := by
    cases r
    · exact congrArg Peers.capacity peers
    · exact congrArg Settings.budget settings
  rw [settleCheck_of_settling (.inl (by rw [mine]; rfl)), mine, amount, others, othersSum_claimSettles, capacity]
  exact if_congr Iff.rfl (if_pos rfl) rfl

end

end Sys2Proof.Machine

namespace Sys2Proof.Proofs
open Sys2Proof Sys2Proof.Machine

/-- Settles O26: the claim settles with its entry, and the one re-examination finds it to fit or loses it. -/
theorem initialClaimSentSettles : Obligations.InitialClaimSentSettles := by
  intro o r s settled on sending line item announcing low high others
  have a : arises .noticeSent s = true := arises_and on (by simp [sending])
  have answer : exec .noticeSent s = .next (event finishSending s) := exec_of_arises a
  have inside : 1 ≤ (setting s).station ∧ (setting s).station ≤ 24 := ⟨low, high⟩
  refine ⟨fun fits => ?_, fun small exceeds => ?_⟩
  · let sent := follow (claimIsSent r (byteAt o.body 1) o.urgency (beginEvent s))
    have parts : sent = follow { s with
        stu := { s.stu with changeCount := 0 }
        clu := (claimSettles r (byteAt o.body 1) o.urgency (beginEvent s)).clu
        lnu := { s.lnu with state := .gap, onLine := none, queue := afterSending s.lnu.queue } } :=
      congrArg follow (claimIsSent_eq r (byteAt o.body 1) o.urgency (beginEvent s))
    have side (r' : Resource) : side r' sent = side r' (claimSettles r (byteAt o.body 1) o.urgency (beginEvent s)) :=
      side_of_clu rfl r'
    have mine : own r sent = settlingOwn r (beginEvent s) := (own_of_side (side r)).trans (own_claimSettles r _ _ _)
    have calm : takeHandOn (.reexamine r) sent = sent := by
      have checked : settleCheck r sent = sent := by
        refine (settleCheck_claimIsSent (s := beginEvent s) (t := sent) (byteAt o.body 1) o.urgency inside rfl
          (by rw [parts]; rfl) (by rw [parts]; rfl)).trans (if_neg fun unfit => ?_)
        rcases fits with high | fit
        · exact absurd unfit.1 (Nat.not_lt.mpr high)
        · exact absurd unfit.2 (Nat.not_lt.mpr fit)
      show announce r (settleCheck r sent) = sent
      rw [checked]
      unfold announce
      rw [mine]
      rfl
    have whole : event finishSending s = follow sent := by
      have one := event_of_one (f := finishSending) (s := s) (finishSending_initialClaim (s := beginEvent s) line item announcing)
        (by rw [claimIsSent_eq]; exact settled) (by rw [calm, parts]; exact settled)
      exact one.trans (congrArg follow calm)
    refine ⟨_, answer, ?_⟩
    have result : event finishSending s = follow (follow { s with
        stu := { s.stu with changeCount := 0 }
        clu := (claimSettles r (byteAt o.body 1) o.urgency (beginEvent s)).clu
        lnu := { s.lnu with state := .gap, onLine := none, queue := afterSending s.lnu.queue } }) :=
      whole.trans (congrArg follow parts)
    have after (r' : Resource) : Machine.side r' (event finishSending s) =
        Machine.side r' (claimSettles r (byteAt o.body 1) o.urgency (beginEvent s)) :=
      side_of_clu (by rw [result]; rfl) r'
    refine ⟨(own_of_side (after r)).trans (own_claimSettles r _ _ _),
      (entryAt_of_side (after r) _).trans (entryAt_claimSettles r _ _ (beginEvent s) inside),
      fun n other => (entryAt_of_side (after r) n).trans (entryAt_claimSettles_ne r _ _ (beginEvent s) other),
      fun r' other => ?_, ?_⟩
    · have kept := (after r').trans (side_claimSettles_ne other _ _ (beginEvent s))
      exact ⟨own_of_side kept, fun n => entryAt_of_side kept n⟩
    · rw [result]
      exact ⟨rfl, rfl, rfl, rfl, rfl, rfl, rfl⟩
  · have sent := finishSending_initialClaim line item announcing
    have check : settleCheck r (finishSending s) = _ :=
      settleCheck_claimIsSent (t := finishSending s) (byteAt o.body 1) o.urgency inside (by rw [sent]; rfl)
        (by rw [sent, claimIsSent_eq]; rfl) (by rw [sent, claimIsSent_eq]; rfl)
    have settings : setting (finishSending s) = setting s := by rw [sent, claimIsSent_eq]; rfl
    refine ⟨answer, check.trans (if_pos ⟨small, exceeds⟩), ?_, ?_⟩
    · rw [own_loseOwn]; rfl
    · rw [← settings]; exact entryAt_loseOwn r true _

end Sys2Proof.Proofs
end

section
/-! PROOFS. The guard's states, its demand and the entry of a fault, the HOLD codes among them. -/

namespace Sys2Proof.Machine

section
variable {s t : State} {c : FaultCode}

/-! ### The demand (R135 to R137) -/

/-- What the demand's changes leave of the guard. -/
def posture (s : State) : GuardState × HoldRecord × Option Nat × Option Int × Bool × Nat :=
  (s.ogu.state, s.ogu.hold, s.ogu.stroke, s.ogu.baseline, s.ogu.spillOwed, s.ogu.floatCount)

/-- The demand after it is set on with a cause (R135, R137). -/
def demandAfter (cause : StopCause) (held : Bool) : Option StopDemand → StopDemand
  | none => { cause := cause, urgency := if cause = .spill then 7 else 6, escalated := false }
  | some d => { d with cause := if held then d.cause else cause, urgency := if cause = .spill then 7 else d.urgency }

theorem ogu_announceStop (s : State) : (announceStop s).ogu = { s.ogu with stopOwed := true } := by
  unfold announceStop; rw [ogu_queueNotice]

/-- The demand written. -/
def demanded (cause : StopCause) (s : State) : State :=
  { s with ogu := { s.ogu with stop := some (demandAfter cause s.ftu.safeHold s.ogu.stop) } }

theorem stopOn_of_some {d : StopDemand} (on : s.ogu.stop = some d) (cause : StopCause) :
    stopOn cause s = demanded cause s ∨ stopOn cause s = announceStop (demanded cause s) := by
  unfold stopOn demanded
  rw [on]
  by_cases same : (if s.ftu.safeHold then d.cause else cause) = d.cause
  · exact .inl (if_pos same)
  · exact .inr (if_neg same)

theorem stop_stopOn (cause : StopCause) (s : State) :
    (stopOn cause s).ogu.stop = some (demandAfter cause s.ftu.safeHold s.ogu.stop) := by
  cases on : s.ogu.stop with
  | none => unfold stopOn; rw [on]; dsimp only; rw [ogu_announceStop]; rfl
  | some d =>
    rw [← on]
    rcases stopOn_of_some on cause with same | same <;> rw [same]
    · rfl
    · rw [ogu_announceStop]; rfl

theorem posture_stopOn (cause : StopCause) (s : State) : posture (stopOn cause s) = posture s := by
  unfold posture
  cases on : s.ogu.stop with
  | none => unfold stopOn; rw [on]; dsimp only; rw [ogu_announceStop]
  | some d =>
    rcases stopOn_of_some on cause with same | same <;> rw [same]
    · rfl
    · rw [ogu_announceStop]; rfl

/-- The fault unit without its NOTE count. -/
def unnoted (s : State) : Faults := { s.ftu with notes := 0 }

theorem unnoted_of_beside (h : beside t = beside s) : unnoted t = unnoted s := congrArg (fun b : Beside => b.state.ftu) h
theorem unnoted_of_quiet (h : quiet t = quiet s) : unnoted t = unnoted s := congrArg Quiet.ftu h
theorem unnoted_queueNotice (item : Outgoing) (u : Nat) (s : State) : unnoted (queueNotice item u s) = unnoted s :=
  unnoted_of_beside (beside_queueNotice item u s)

theorem unnoted_announceStop (s : State) : unnoted (announceStop s) = unnoted s := (unnoted_queueNotice .stop _ _).trans rfl

theorem unnoted_stopOn (cause : StopCause) (s : State) : unnoted (stopOn cause s) = unnoted s := by
  unfold stopOn; dsimp only
  (repeat' split) <;> first
    | rfl
    | exact (unnoted_announceStop _).trans rfl

theorem safeHold_of_unnoted (h : unnoted t = unnoted s) : t.ftu.safeHold = s.ftu.safeHold := (congrArg Faults.safeHold h :)

theorem stop_stopOff (s : State) : (stopOff s).ogu.stop = if s.ftu.safeHold then s.ogu.stop else none := by
  unfold stopOff
  split
  · rfl
  · split
    next none => exact none
    next => rw [ogu_announceStop]

theorem posture_stopOff (s : State) : posture (stopOff s) = posture s := by
  unfold stopOff
  split
  · rfl
  · split
    · rfl
    · unfold posture; rw [ogu_announceStop]

theorem beside_announceHold (c : FaultCode) (s : State) : beside (announceHold c s) = beside s := by
  unfold announceHold; split <;> simp

/-! ### A condition ends -/

theorem ogu_clearCondition (c : FaultCode) (s : State) : (clearCondition c s).ogu = s.ogu := by
  unfold clearCondition leaveFault
  dsimp only
  (repeat' split) <;> first
    | rfl
    | exact (ogu_of_beside (beside_announceHold _ _)).trans rfl

theorem safeHold_clearCondition (c : FaultCode) (s : State) : (clearCondition c s).ftu.safeHold = s.ftu.safeHold := by
  unfold clearCondition leaveFault
  dsimp only
  (repeat' split) <;> first
    | rfl
    | exact (safeHold_of_beside (beside_announceHold _ _)).trans rfl

theorem posture_endDemand (s : State) : posture (endDemand s) = posture s := by
  unfold endDemand
  (repeat' split) <;> first
    | rfl
    | (unfold posture; rw [ogu_clearCondition]; exact posture_stopOff s)

theorem stop_endDemand (s : State) : (endDemand s).ogu.stop = if s.ftu.safeHold then s.ogu.stop else none := by
  unfold endDemand
  cases held : s.ftu.safeHold with
  | true => rfl
  | false =>
    rw [if_neg (by decide)]
    split
    next => rw [ogu_clearCondition, stop_stopOff, held]
    next off => simpa using off

/-! ### A fault enters (R182, R185, R187, R188) -/

/-- The demand of safe hold (R137). -/
def safeDemand (s : State) : Guard :=
  { s.ogu with
    stop := some (match s.ogu.stop with
      | none => { cause := .safe, urgency := 6, escalated := false }
      | some d => { d with cause := .safe })
    stopOwed := true
    confirm := if s.ogu.stop.isNone then .pending else s.ogu.confirm }

theorem ogu_stopForSafeHold (s : State) : (stopForSafeHold s).ogu = safeDemand s := by
  unfold stopForSafeHold safeDemand
  split
  next none =>
    unfold stopOn
    rw [none]
    dsimp only
    rw [ogu_announceStop]
    rfl
  next d some =>
    rw [ogu_announceStop, some]
    rfl

theorem unnoted_stopForSafeHold (s : State) : unnoted (stopForSafeHold s) = unnoted s := by
  unfold stopForSafeHold
  split
  · exact unnoted_stopOn _ _
  · exact (unnoted_announceStop _).trans rfl

theorem ogu_enterSafeHold (s : State) : (enterSafeHold s).ogu = safeDemand s := by
  unfold enterSafeHold
  rw [ogu_stopForSafeHold]
  unfold safeDemand
  simp only [ogu_queueNotice]

theorem unnoted_enterSafeHold (s : State) :
    unnoted (enterSafeHold s) = { unnoted s with snapshot := some (takeSnapshot s), safeHold := true } := by
  unfold enterSafeHold
  rw [unnoted_stopForSafeHold]
  exact congrArg (fun f : Faults => { f with safeHold := true })
    (unnoted_queueNotice .trip 7 { s with ftu := { s.ftu with snapshot := some (takeSnapshot s) } })

/-- A code enters the set with its condition (R182). -/
def faultEntered (c : FaultCode) (s : State) : State :=
  { s with ftu := { s.ftu with
    condition := put s.ftu.condition (faultIndex c) true
    inSet := put s.ftu.inSet (faultIndex c) true
    acked := put s.ftu.acked (faultIndex c) false
    total := satSucc 65535 s.ftu.total } }

/-- A code that enters is a further HOLD fault (R187). -/
def secondHold (c : FaultCode) (s : State) : Bool := isHold c && anyHold s && !s.ftu.safeHold

/-- The condition and the code were absent. -/
def enters (c : FaultCode) (s : State) : Bool := !conditionPresent c s && !inFaultSet c s

theorem raiseCondition_enters (h : enters c s = true) : raiseCondition c s =
    if secondHold c s then enterSafeHold (announceHold c (faultEntered c s)) else announceHold c (faultEntered c s) := by
  simp only [enters, Bool.and_eq_true, Bool.not_eq_true'] at h
  obtain ⟨absent, out⟩ := h
  unfold raiseCondition
  rw [absent, out, if_neg (by decide), if_neg (by decide)]
  rfl

/-- A condition raised whose code is in the set, or that was present, moves the condition flag alone. -/
theorem raiseCondition_stands (h : enters c s = false) :
    raiseCondition c s = s ∨ raiseCondition c s = setPresent c true s := by
  unfold raiseCondition
  split
  · exact .inl rfl
  next absent =>
    rw [if_pos (by simpa [enters, absent] using h)]
    exact .inr rfl

theorem ogu_raiseCondition (c : FaultCode) (s : State) :
    (raiseCondition c s).ogu = if enters c s && secondHold c s then safeDemand s else s.ogu := by
  have entered : (announceHold c (faultEntered c s)).ogu = s.ogu := (ogu_of_beside (beside_announceHold _ _)).trans rfl
  cases e : enters c s with
  | false => rcases raiseCondition_stands e with same | same <;> rw [same] <;> rfl
  | true =>
    rw [raiseCondition_enters e, Bool.true_and]
    split
    · rw [ogu_enterSafeHold]; unfold safeDemand; rw [entered]
    · exact entered

theorem raised_raiseCondition (c : FaultCode) (s : State) : Raised c s (raiseCondition c s) := by
  have flags := codeFlags_raiseCondition c c s
  refine ⟨(congrArg Prod.fst flags).trans ?_, fun absent => (congrArg (fun x : Bool × Bool × Bool => x.2.1) flags).trans ?_⟩
  · cases present : conditionPresent c s <;> simp [codeFlags, present]
  · simp [absent]

/-- A condition raised later in an event, its flag as it was. -/
theorem raised_of_flags {u : State} (flags : codeFlags c u = codeFlags c s) (h : Raised c u t) : Raised c s t :=
  ⟨h.1, fun absent => h.2 ((congrArg Prod.fst flags).trans absent)⟩

/-- Raising a condition keeps or urges the demand. -/
theorem stop_raiseCondition {d : StopDemand} (on : s.ogu.stop = some d) (c : FaultCode) :
    (raiseCondition c s).ogu.stop = some d ∨ (raiseCondition c s).ogu.stop = some { d with cause := .safe } := by
  rw [ogu_raiseCondition]
  split
  · right; unfold safeDemand; rw [on]
  · exact .inl on

theorem posture_raiseCondition (c : FaultCode) (s : State) : posture (raiseCondition c s) = posture s := by
  unfold posture
  rw [ogu_raiseCondition]
  split <;> rfl

/-! ### Confirmation (R138 to R140) -/

theorem mem_supplyHeard {p : Peer} :
    p ∈ supplyHeard s ↔ p ∈ s.ptb.records.toList ∧ p.state = .heard ∧ p.role = some .supply := by
  unfold supplyHeard; simp [List.mem_filter]

theorem supplyConfirms_iff {me : Nat} {p : Peer} :
    supplyConfirms me p = true ↔ ∃ x, p.supply = some x ∧ me ∈ x.honoured ∧ x.pumps = 0 := by
  unfold supplyConfirms
  cases p.supply <;> simp

theorem demandConfirmed_iff : demandConfirmed s = true ↔ SupplyConfirmed s := by
  have some_heard : (supplyHeard s).isEmpty = false ↔ ∃ p, p ∈ supplyHeard s := by
    cases supplyHeard s with
    | nil => simp
    | cons p l => exact ⟨fun _ => ⟨p, List.mem_cons_self⟩, fun _ => rfl⟩
  unfold demandConfirmed SupplyConfirmed
  rw [Bool.and_eq_true, Bool.not_eq_true', some_heard, List.all_eq_true]
  simp only [mem_supplyHeard, supplyConfirms_iff]
  exact and_congr_right fun _ => ⟨fun h p m heard role => h p ⟨m, heard, role⟩, fun h p ⟨m, heard, role⟩ => h p m heard role⟩

/-- The confirmation begun: WAITING, the timer running. -/
def confirming (s : State) : State :=
  { s with ogu := { s.ogu with confirm := .waiting, confirmTimer := some (setting s).confirmTime } }

theorem examineConfirmation_of_waiting (h : s.ogu.confirm = .waiting) : examineConfirmation s =
    if demandConfirmed s then { s with ogu := { s.ogu with confirm := .confirmed, confirmTimer := none } } else s := by
  unfold examineConfirmation; rw [h]

/-- The guard after the first STOP(on) sent of its demand (R136, R138, R139). -/
theorem ogu_stopSent {d : StopDemand} (on : s.ogu.stop = some d) (pending : s.ogu.confirm = .pending) (cause : Nat) :
    (stopSent true cause s).ogu = { s.ogu with
      stopOwed := if causeCode d.cause = cause then false else s.ogu.stopOwed
      confirm := if demandConfirmed s then .confirmed else .waiting
      confirmTimer := if demandConfirmed s then none else some (setting s).confirmTime } := by
  have confirmed : ∀ o, demandConfirmed { s with ogu := o } = demandConfirmed s := fun _ => rfl
  unfold stopSent
  rw [on]
  by_cases stands : causeCode d.cause = cause
  · subst stands
    simp only [Bool.true_and, beq_self_eq_true, if_true, pending]
    rw [examineConfirmation_of_waiting rfl, confirmed]
    split <;> rfl
  · simp only [Bool.true_and, beq_iff_eq, if_neg stands, pending, if_true]
    rw [examineConfirmation_of_waiting rfl, confirmed]
    split <;> rfl

/-- The demand escalated, its STOP queued (R140). -/
def escalating (s : State) : State :=
  queueNotice .stop 7 { s with ogu := { s.ogu with
    confirm := .unconfirmed, confirmTimer := none
    stop := s.ogu.stop.map (fun d => { d with urgency := 7, escalated := true }) } }

theorem confirmExpires_eq (s : State) : confirmExpires s = raiseCondition .stopUnconfirmed (escalating s) := rfl

theorem ogu_escalating (s : State) : (escalating s).ogu = { s.ogu with
    confirm := .unconfirmed, confirmTimer := none
    stop := s.ogu.stop.map (fun d => { d with urgency := 7, escalated := true }) } := ogu_queueNotice .stop 7 _

theorem faultFlags_escalating (s : State) : faultFlags (escalating s) = faultFlags s := (faultFlags_queueNotice .stop 7 _).trans rfl

theorem line_stopSent (on : Bool) (cause : Nat) (s : State) :
    (stopSent on cause s).lnu.rollCall = s.lnu.rollCall ∧ (stopSent on cause s).lnu.onLine = s.lnu.onLine := by
  have same := line_of_aloof (aloof_of_watched (watched_stopSent on cause s))
  exact ⟨(congrArg Line.rollCall same :), (congrArg Line.onLine same :)⟩

theorem finishSending_stop {o : OnLine} (line : s.lnu.onLine = some o) (item : o.item = .stop) :
    let sent := stopSent ((byteAt o.body 0).testBit 0) (byteAt o.body 1) s
    finishSending s = { sent with lnu := { sent.lnu with state := .gap, queue := afterSending sent.lnu.queue, onLine := none } } := by
  unfold finishSending
  rw [line]
  unfold tellSent lineAfterSent
  dsimp only
  simp only [item]

end

end Sys2Proof.Machine

namespace Sys2Proof.Proofs
open Sys2Proof Sys2Proof.Machine

/-- Settles O27: the guard's record of the STOP sent; the escalated demand through the condition that it raises. -/
theorem stopConfirmation : Obligations.StopConfirmation := by
  refine ⟨fun o d s on sending line item stopOn demand pending => ?_, fun d s on due waiting demand => ?_⟩
  · have a : arises .noticeSent s = true := arises_and on (by simp [sending])
    have answer : exec .noticeSent s = .next (event finishSending s) := exec_of_arises a
    have sent := finishSending_stop (s := beginEvent s) line item
    have after : quiet (event finishSending s) = quiet (finishSending (beginEvent s)) := quiet_event _ _
    rw [stopOn] at sent
    have ogu : (event finishSending s).ogu = _ := (ogu_of_quiet after).trans
      ((congrArg State.ogu sent).trans (ogu_stopSent (s := beginEvent s) demand pending (byteAt o.body 1)))
    have confirmed : demandConfirmed (beginEvent s) = demandConfirmed s := rfl
    rw [confirmed] at ogu
    refine ⟨_, answer, fun yes => ?_, fun no => ?_, ?_, ?_, ?_, ?_, ?_, ?_⟩
    · rw [ogu, if_pos (demandConfirmed_iff.mpr yes), if_pos (demandConfirmed_iff.mpr yes)]; exact ⟨rfl, rfl⟩
    · rw [ogu, if_neg (mt demandConfirmed_iff.mp no), if_neg (mt demandConfirmed_iff.mp no)]; exact ⟨rfl, rfl⟩
    · rw [ogu]; rfl
    · exact (lineState_of_quiet after).trans (congrArg (fun t : State => t.lnu.state) sent)
    · exact (congrArg (fun q : Quiet => q.line.onLine) after).trans (congrArg (fun t : State => t.lnu.onLine) sent)
    · exact msu_taken a (by simp) (by simp) (by simp)
    · exact ilu_taken (c := .noticeSent) rfl s
    · exact ptb_taken (c := .noticeSent) rfl s
  · have a : arises .confirmTimerExpiry s = true :=
      arises_and (arises_and on (runOut_iff.mpr due)) (by simp [waiting])
    have answer : exec .confirmTimerExpiry s = .next (event (effect .confirmTimerExpiry) s) := exec_of_arises a
    have after : quiet (event (effect .confirmTimerExpiry) s) = quiet (confirmExpires (beginEvent s)) :=
      (quiet_event _ _).trans (quiet_fillFollows _)
    have ogu := ogu_of_quiet after
    rw [confirmExpires_eq, ogu_raiseCondition] at ogu
    have before := ogu_escalating (beginEvent s)
    have stands : (escalating (beginEvent s)).ogu.stop = some { d with urgency := 7, escalated := true } := by
      rw [before]; exact congrArg (Option.map _) demand
    have cases : (event (effect .confirmTimerExpiry) s).ogu = safeDemand (escalating (beginEvent s)) ∨
        (event (effect .confirmTimerExpiry) s).ogu = (escalating (beginEvent s)).ogu := by
      rw [ogu]; split
      · exact .inl rfl
      · exact .inr rfl
    refine ⟨_, answer, ?_, ?_, ?_, fun owed => ?_, ?_, ?_, ?_, msu_taken a (by simp) (by simp) (by simp),
      ilu_taken (c := .confirmTimerExpiry) rfl s, ptb_taken (c := .confirmTimerExpiry) rfl s⟩
    · rcases cases with k | k <;> rw [k]
      · unfold safeDemand; rw [stands, before]; rfl
      · rw [before]
    · rcases cases with k | k <;> rw [k]
      · unfold safeDemand; rw [before]
      · rw [before]
    · exact raised_of_quiet after (raised_of_flags (codeFlags_of_faultFlags _ (faultFlags_escalating (beginEvent s)))
        (raised_raiseCondition _ _))
    · rcases cases with k | k <;> rw [k]
      · rfl
      · rw [before]; exact owed
    · rcases cases with k | k <;> rw [k]
      · unfold safeDemand; rw [stands]; exact ⟨_, rfl, rfl, rfl⟩
      · rw [stands]; exact ⟨_, rfl, rfl, rfl⟩
    · rcases cases with k | k <;> rw [k]
      · unfold safeDemand; rw [before]; rfl
      · rw [before]; rfl
    · rcases cases with k | k <;> rw [k]
      · unfold safeDemand; rw [before]; rfl
      · rw [before]; rfl

end Sys2Proof.Proofs
end

section
/-! PROOFS. The departures of the overflow guard, on a sample, at a minute mark and at the end of the stroke. -/

namespace Sys2Proof.Machine

section
variable {s t : State} {b : Bool}

/-! ### The conditions in the statements' words -/

theorem levelValid_iff : levelValid s = true ↔ s.msu.level = .fresh := by unfold levelValid; exact beq_iff_eq

theorem spillCalled_iff : spillCalled b s = true ↔ b = true ∨ s.msu.level = .fresh ∧ (setting s).hOvf ≤ s.msu.lf := by
  unfold spillCalled; rw [Bool.or_eq_true, Bool.and_eq_true, levelValid_iff, decide_eq_true_iff]

theorem topReached_iff : topReached s = true ↔
    s.msu.level = .fresh ∧ (setting s).hHi ≤ s.msu.lf ∨ debounced .hifl s = true ∨ latchSet .hifl s = true := by
  unfold topReached
  rw [Bool.or_eq_true, Bool.or_eq_true, Bool.and_eq_true, levelValid_iff, decide_eq_true_iff, or_assoc]

theorem belowRefill_iff : belowRefill s = true ↔ s.msu.level = .fresh ∧ s.msu.lf ≤ refillLevel s := by
  unfold belowRefill; rw [Bool.and_eq_true, levelValid_iff, decide_eq_true_iff]

theorem holdAcked_iff : holdAcked s = true ↔
    s.ogu.hold = .stuck ∧ inFaultSet .inletStuck s = true ∧ faultAcked .inletStuck s = true ∨
    s.ogu.hold = .leak ∧ inFaultSet .inletLeak s = true ∧ faultAcked .inletLeak s = true := by
  unfold holdAcked
  cases s.ogu.hold <;> simp [holdFault]

/-! ### One departure -/

/-- No departure to SPILL. -/
def stays (b : Bool) (s : State) : Prop := s.ogu.state = .spill ∨ spillCalled b s = false

theorem guardMove_spills (state : s.ogu.state ≠ .spill) (called : spillCalled b s = true) : guardMove b s = some (enterSpill s) := by
  unfold guardMove
  rw [if_pos (by simp [state, called])]

theorem stays_iff (h : stays b s) : (s.ogu.state != .spill && spillCalled b s) = false := by
  rcases h with state | calm
  · simp [state]
  · simp [calm]

theorem guardMove_watch (h : stays b s) (state : s.ogu.state = .watch) : guardMove b s =
    if topReached s then some (if s.odu.position = .closed then enterShut s else enterCut s) else none := by
  unfold guardMove
  rw [stays_iff h, if_neg (by decide), state]

theorem guardMove_cut (h : stays b s) (state : s.ogu.state = .cut) : guardMove b s =
    if s.odu.position = .closed then some (endDemand (enterShut s)) else none := by
  unfold guardMove
  rw [stays_iff h, if_neg (by decide), state]

theorem guardMove_shut (h : stays b s) (state : s.ogu.state = .shut) : guardMove b s =
    if belowRefill s && !debounced .hifl s && !latchSet .hifl s then some (shutToWatch s) else none := by
  unfold guardMove
  rw [stays_iff h, if_neg (by decide), state]

theorem guardMove_held (h : stays b s) (state : s.ogu.state = .stuck ∨ s.ogu.state = .leak) : guardMove b s =
    if belowRefill s && s.odu.position == .closed && holdAcked s then some (holdToWatch s) else none := by
  unfold guardMove
  rw [stays_iff h, if_neg (by decide)]
  rcases state with k | k <;> rw [k]

theorem guardMove_spill (state : s.ogu.state = .spill) : guardMove b s =
    if !latchSet .ovf s && !debounced .ovf s && levelValid s && decide (s.msu.lf < refillLevel s) then
      some (leaveSpill s) else none := by
  unfold guardMove
  rw [stays_iff (.inl state), if_neg (by decide), state]

/-! ### What an entry leaves of the guard -/

theorem ogu_announceSpill (s : State) : (announceSpill s).ogu = { s.ogu with spillOwed := true } := by
  unfold announceSpill; rw [ogu_queueNotice]

theorem safeHold_announceSpill (s : State) : (announceSpill s).ftu.safeHold = s.ftu.safeHold :=
  (safeHold_of_unnoted (unnoted_queueNotice (.alarm .spill) 7 _)).trans rfl

/-- SPILL entered, before its notices. -/
def spilling (s : State) : State := setGuard .spill { s with ogu := { s.ogu with stroke := none, baseline := none } }

theorem enterSpill_eq (s : State) : enterSpill s = announceSpill (stopOn .spill (spilling s)) := rfl

theorem posture_enterSpill (s : State) :
    posture (enterSpill s) = (.spill, s.ogu.hold, none, none, true, s.ogu.floatCount) := by
  have before := posture_stopOn .spill (spilling s)
  rw [enterSpill_eq]
  unfold posture at before ⊢
  rw [ogu_announceSpill]
  injection before with a b
  injection b with b c
  injection c with c d
  injection d with d e
  injection e with e f
  simp only [a, b, c, d, f]
  rfl

theorem stop_enterSpill (s : State) :
    (enterSpill s).ogu.stop = some (demandAfter .spill s.ftu.safeHold s.ogu.stop) := by
  rw [enterSpill_eq, ogu_announceSpill]
  exact stop_stopOn .spill (spilling s)

theorem stop_calmUrgency (s : State) : (calmUrgency s).ogu.stop.map StopDemand.cause = s.ogu.stop.map StopDemand.cause := by
  unfold calmUrgency
  split
  · rfl
  · split
    · rfl
    next d on =>
      split
      · rfl
      · rw [on]; rfl

theorem posture_calmUrgency (s : State) : posture (calmUrgency s) = posture s := by
  unfold calmUrgency; (repeat' split) <;> rfl

/-- A HOLD record's condition has ended (R131). -/
theorem conditionPresent_clearCondition (c : FaultCode) (s : State) : conditionPresent c (clearCondition c s) = false := by
  have flags := congrArg Prod.fst (codeFlags_clearCondition c c s)
  refine flags.trans ?_
  cases present : conditionPresent c s with
  | false => simp [codeFlags, present]
  | true => rw [if_pos ⟨rfl, rfl⟩]; split <;> rfl

theorem codeFlags_endDemand {c : FaultCode} (h : c ≠ .stopUnconfirmed) (s : State) : codeFlags c (endDemand s) = codeFlags c s := by
  unfold endDemand
  split
  · rfl
  · split
    · rw [codeFlags_clearCondition, if_neg (fun k => h k.1)]
      exact codeFlags_of_faultFlags c (faultFlags_stopOff s)
    · rfl

/-- WATCH entered from a hold state, the demand still to end. -/
def watching (s : State) : State := setGuard .watch { s with ogu := { s.ogu with hold := .none } }

/-- The hold record's condition made absent. -/
def holdEnded (s : State) : State :=
  match holdFault s.ogu.hold with
  | none => watching s
  | some c => clearCondition c (watching s)

theorem holdToWatch_eq (s : State) : holdToWatch s = endDemand (holdEnded s) := rfl

theorem ogu_holdEnded (s : State) : (holdEnded s).ogu = { s.ogu with state := .watch, hold := .none } := by
  unfold holdEnded
  split
  · rfl
  · rw [ogu_clearCondition]; rfl

theorem safeHold_holdEnded (s : State) : (holdEnded s).ftu.safeHold = s.ftu.safeHold := by
  unfold holdEnded
  split
  · rfl
  · exact safeHold_clearCondition _ _

theorem holdToWatch_spec (s : State) : (holdToWatch s).ogu.state = .watch ∧ (holdToWatch s).ogu.hold = .none ∧
    (s.ftu.safeHold = false → (holdToWatch s).ogu.stop = none) ∧
    (s.ogu.hold = .stuck → conditionPresent .inletStuck (holdToWatch s) = false) ∧
    (s.ogu.hold = .leak → conditionPresent .inletLeak (holdToWatch s) = false) := by
  have kept := posture_endDemand (holdEnded s)
  rw [← holdToWatch_eq] at kept
  refine ⟨?_, ?_, fun free => ?_, fun stuck => ?_, fun leak => ?_⟩
  · exact (congrArg Prod.fst kept).trans (by unfold posture; rw [ogu_holdEnded])
  · exact (congrArg (fun x => x.2.1) kept).trans (by unfold posture; rw [ogu_holdEnded])
  · rw [holdToWatch_eq, stop_endDemand, safeHold_holdEnded, free]; rfl
  · refine (congrArg Prod.fst (codeFlags_endDemand (c := .inletStuck) (by decide) (holdEnded s))).trans ?_
    unfold holdEnded; rw [stuck]; exact conditionPresent_clearCondition _ _
  · refine (congrArg Prod.fst (codeFlags_endDemand (c := .inletLeak) (by decide) (holdEnded s))).trans ?_
    unfold holdEnded; rw [leak]; exact conditionPresent_clearCondition _ _

/-! ### SPILL is left (R133) -/

theorem leaveSpill_of_stuck (h : s.ogu.hold = .stuck) :
    leaveSpill s = stopOn .stuck (calmUrgency (setGuard .stuck (announceSpill s))) := by unfold leaveSpill; rw [h]
theorem leaveSpill_of_leak (h : s.ogu.hold = .leak) :
    leaveSpill s = stopOn .leak (calmUrgency (setGuard .leak (announceSpill s))) := by unfold leaveSpill; rw [h]
theorem leaveSpill_of_none (h : s.ogu.hold = .none) : leaveSpill s =
    if s.odu.position = .closed then endDemand (enterShut (announceSpill s)) else calmUrgency (enterCut (announceSpill s)) := by
  unfold leaveSpill; rw [h]

/-- What SPILL left leaves, hold record and position direct. -/
theorem leaveSpill_spec (s : State) : (leaveSpill s).ogu.spillOwed = true ∧ (leaveSpill s).ogu.hold = s.ogu.hold ∧
    (s.ogu.hold = .stuck → (leaveSpill s).ogu.state = .stuck ∧ (leaveSpill s).ogu.stop.isSome = true) ∧
    (s.ogu.hold = .leak → (leaveSpill s).ogu.state = .leak ∧ (leaveSpill s).ogu.stop.isSome = true) ∧
    (s.ogu.hold = .none → s.odu.position ≠ .closed → (leaveSpill s).ogu.state = .cut ∧
      (leaveSpill s).ogu.stroke = some (setting s).strokeTime ∧
      (leaveSpill s).ogu.stop.map StopDemand.cause = s.ogu.stop.map StopDemand.cause) ∧
    (s.ogu.hold = .none → s.odu.position = .closed → (leaveSpill s).ogu.state = .shut ∧
      (leaveSpill s).ogu.baseline = some s.msu.lf ∧ (s.ftu.safeHold = false → (leaveSpill s).ogu.stop = none)) := by
  have msu : (announceSpill s).msu = s.msu := (congrArg (fun b : Beside => b.state.msu) (beside_queueNotice (.alarm .spill) 7 _)).trans rfl
  have settings : setting (announceSpill s) = setting s :=
    (congrArg (fun b : Beside => b.state.sld.settings) (beside_queueNotice (.alarm .spill) 7 _)).trans rfl
  cases hold : s.ogu.hold with
  | stuck =>
    have kept : posture (leaveSpill s) = posture (setGuard .stuck (announceSpill s)) := by
      rw [leaveSpill_of_stuck hold, posture_stopOn, posture_calmUrgency]
    have spillOwed : (leaveSpill s).ogu.spillOwed = true :=
      (congrArg (fun x => x.2.2.2.2.1) kept).trans (congrArg Guard.spillOwed (ogu_announceSpill s))
    have held : (leaveSpill s).ogu.hold = .stuck :=
      (congrArg (fun x => x.2.1) kept).trans ((congrArg Guard.hold (ogu_announceSpill s)).trans hold)
    refine ⟨spillOwed, held, fun _ => ⟨congrArg Prod.fst kept, ?_⟩, fun k => (by cases k), fun k => (by cases k), fun k => (by cases k)⟩
    rw [leaveSpill_of_stuck hold, stop_stopOn]; rfl
  | leak =>
    have kept : posture (leaveSpill s) = posture (setGuard .leak (announceSpill s)) := by
      rw [leaveSpill_of_leak hold, posture_stopOn, posture_calmUrgency]
    have spillOwed : (leaveSpill s).ogu.spillOwed = true :=
      (congrArg (fun x => x.2.2.2.2.1) kept).trans (congrArg Guard.spillOwed (ogu_announceSpill s))
    have held : (leaveSpill s).ogu.hold = .leak :=
      (congrArg (fun x => x.2.1) kept).trans ((congrArg Guard.hold (ogu_announceSpill s)).trans hold)
    refine ⟨spillOwed, held, fun k => (by cases k), fun _ => ⟨congrArg Prod.fst kept, ?_⟩, fun k => (by cases k), fun k => (by cases k)⟩
    rw [leaveSpill_of_leak hold, stop_stopOn]; rfl
  | none =>
    by_cases closed : s.odu.position = .closed
    · have kept : posture (leaveSpill s) = posture (enterShut (announceSpill s)) := by
        rw [leaveSpill_of_none hold, if_pos closed, posture_endDemand]
      refine ⟨(congrArg (fun x => x.2.2.2.2.1) kept).trans (congrArg Guard.spillOwed (ogu_announceSpill s)),
        (congrArg (fun x => x.2.1) kept).trans ((congrArg Guard.hold (ogu_announceSpill s)).trans hold),
        fun k => (by cases k), fun k => (by cases k), fun _ other => absurd closed other, fun _ _ => ⟨congrArg Prod.fst kept, ?_, fun free => ?_⟩⟩
      · exact (congrArg (fun x => x.2.2.2.1) kept).trans (congrArg (fun m : Measure => some m.lf) msu)
      · rw [leaveSpill_of_none hold, if_pos closed, stop_endDemand]
        exact if_neg (by rw [show (enterShut (announceSpill s)).ftu.safeHold = s.ftu.safeHold from safeHold_announceSpill s, free]; decide)
    · have kept : posture (leaveSpill s) = posture (enterCut (announceSpill s)) := by
        rw [leaveSpill_of_none hold, if_neg closed, posture_calmUrgency]
      refine ⟨(congrArg (fun x => x.2.2.2.2.1) kept).trans (congrArg Guard.spillOwed (ogu_announceSpill s)),
        (congrArg (fun x => x.2.1) kept).trans ((congrArg Guard.hold (ogu_announceSpill s)).trans hold),
        fun k => (by cases k), fun k => (by cases k), fun _ _ => ⟨congrArg Prod.fst kept, ?_, ?_⟩, fun _ other => absurd other closed⟩
      · exact (congrArg (fun x => x.2.2.1) kept).trans (congrArg (fun x : Settings => some x.strokeTime) settings)
      · rw [leaveSpill_of_none hold, if_neg closed, stop_calmUrgency]
        exact (congrArg (fun g : Guard => g.stop.map StopDemand.cause) (ogu_announceSpill s) :)

/-! ### Departures passed through -/

theorem guardPass_of_none (n : Nat) (h : guardMove false s = none) : guardPass n s = s := by
  cases n with
  | zero => rfl
  | succ n => unfold guardPass; rw [h]

theorem guardExamine_once (moved : guardMove b s = some t) (rests : guardMove false t = none) : guardExamine b s = t := by
  unfold guardExamine
  rw [moved]
  exact guardPass_of_none _ rests

/-- SPILL entered at H_ovf is kept, the refill level lying below. -/
theorem guardPass_of_hold (n : Nat) (state : s.ogu.state = .stuck ∨ s.ogu.state = .leak) (refill : refillLevel s < (setting s).hOvf)
    (shut : s.odu.position ≠ .closed ∨ holdAcked s = false) :
    guardPass (n + 1) s = if spillCalled false s then enterSpill s else s := by
  have unmoved : ¬ s.ogu.state = .spill := by rcases state with k | k <;> rw [k] <;> decide
  cases called : spillCalled false s with
  | false =>
    refine guardPass_of_none _ ?_
    rw [guardMove_held (.inr called) state, if_neg]
    rcases shut with k | k <;> simp [k]
  | true =>
    unfold guardPass
    rw [guardMove_spills unmoved called]
    refine (guardPass_of_none n ?_).trans (if_pos rfl).symm
    have spill : (enterSpill s).ogu.state = .spill := congrArg Prod.fst (posture_enterSpill s)
    have msu : (enterSpill s).msu = s.msu := congrArg (fun b : Beside => b.state.msu) (watched_enterSpill s)
    have settings : setting (enterSpill s) = setting s := congrArg (fun b : Beside => b.state.sld.settings) (watched_enterSpill s)
    rw [guardMove_spill spill, if_neg]
    rcases spillCalled_iff.mp called with k | ⟨_, high⟩
    · cases k
    · have low : ¬ (enterSpill s).msu.lf < refillLevel (enterSpill s) := by
        unfold refillLevel
        rw [msu, settings]
        exact fun k => absurd (Int.lt_of_lt_of_le k (Int.le_of_lt refill)) (not_lt.mpr high)
      simp [low]

/-! ### The guard and the position beside the sample and the mark -/

/-- The guard and the position. -/
def guardPart (s : State) : Guard × Position := (s.ogu, s.odu.position)

theorem guardPart_of_quiet (h : quiet t = quiet s) : guardPart t = guardPart s := congrArg (fun q : Quiet => (q.ogu, q.position)) h
theorem guardPart_of_beside (h : beside t = beside s) : guardPart t = guardPart s :=
  congrArg (fun b : Beside => (b.state.ogu, b.state.odu.position)) h

theorem guardPart_setCondition {c : FaultCode} (h : isHold c = false) (present : Bool) (s : State) :
    guardPart (setCondition c present s) = guardPart s := by
  unfold setCondition
  split
  · obtain ⟨f, same, _⟩ := raiseCondition_degrade h s; rw [same]; rfl
  · obtain ⟨f, same, _⟩ := clearCondition_degrade h s; rw [same]; rfl

theorem guardPart_withdrawTurnover (s : State) : guardPart (withdrawTurnover s) = guardPart s := by
  unfold withdrawTurnover
  dsimp only
  split
  · split <;> first
      | rfl
      | exact (guardPart_of_quiet (quiet_setFill _ _)).trans rfl
  · rfl

theorem guardPart_fillSample (s : State) : guardPart (fillSample s) = guardPart s := by
  have causes : guardPart (takeCauses s) = guardPart s := guardPart_of_quiet (quiet_takeCauses s)
  unfold fillSample
  dsimp only
  split
  · split
    · exact (guardPart_of_quiet (quiet_setFill _ _)).trans causes
    · exact causes
  · split
    · exact (guardPart_of_quiet (quiet_setFill _ _)).trans causes
    · exact causes
  · split
    · exact (guardPart_withdrawTurnover _).trans ((guardPart_of_quiet (quiet_setFill _ _)).trans causes)
    · exact causes
  · exact (guardPart_of_quiet (quiet_reliefEnd _)).trans causes
  · exact causes

theorem guardPart_frostSample (s : State) : guardPart (frostSample s) = guardPart s := by
  have warm : ∀ u, guardPart (turnoverWarm u) = guardPart u := by
    intro u; unfold turnoverWarm; split
    · exact guardPart_withdrawTurnover u
    · rfl
  have wishes : ∀ u, guardPart (sampleWishes u) = guardPart u := by intro u; unfold sampleWishes; split <;> rfl
  unfold frostSample
  exact (guardPart_of_quiet (quiet_frostEvaluate _)).trans ((wishes _).trans (warm _))

/-- The state in which the guard takes the sample. -/
def beforeSample (p tw tr ta : AnalogCode) (s : State) : State :=
  handField .measurement (sampleTemperatures tw tr ta (samplePressure p (takePending s)))

theorem takeSamples_eq (p tw tr ta : AnalogCode) (s : State) :
    takeSamples p tw tr ta s = frostSample (fillSample (guardSample (beforeSample p tw tr ta s))) := rfl

theorem guardPart_beforeSample (p tw tr ta : AnalogCode) (s : State) : guardPart (beforeSample p tw tr ta s) = guardPart s := by
  have pending : guardPart (takePending s) = guardPart s := guardPart_of_quiet (by unfold takePending; split <;> simp)
  have pressure : ∀ u, guardPart (samplePressure p u) = guardPart u := by
    intro u; unfold samplePressure
    split
    · exact (guardPart_setCondition (c := .lvlSensor) rfl false _).trans rfl
    · exact (guardPart_setCondition (c := .lvlSensor) rfl true _).trans rfl
  unfold beforeSample sampleTemperatures
  refine Eq.trans (b := guardPart (samplePressure p (takePending s))) ?_ ((pressure _).trans pending)
  exact (guardPart_setCondition rfl _ _).trans ((guardPart_setCondition rfl _ _).trans ((guardPart_setCondition rfl _ _).trans rfl))

theorem guardPart_countTimers (s : State) : (countTimers s).ogu.state = s.ogu.state ∧ (countTimers s).odu.position = s.odu.position := by
  unfold countTimers countReport countClaims countTable
  exact ⟨rfl, rfl⟩

/-- What the leak comparison reads. -/
def leakPart (s : State) : (Guard × Position) × (Vector Bool 13 × Vector Bool 13 × Vector Bool 13 × Vector Bool 4) × Measure × Settings :=
  (guardPart s, faultFlags s, s.msu, setting s)

theorem leakPart_of_quiet (h : quiet t = quiet s) : leakPart t = leakPart s := by
  unfold leakPart
  rw [guardPart_of_quiet h, faultFlags_of_quiet h, msu_of_quiet h, setting_of_quiet h]

theorem leakPart_of_beside (h : beside t = beside s) : leakPart t = leakPart s := by
  unfold leakPart
  rw [guardPart_of_beside h, faultFlags_of_beside h, show t.msu = s.msu from congrArg (fun b : Beside => b.state.msu) h,
    show setting t = setting s from congrArg (fun b : Beside => b.state.sld.settings) h]

theorem leakPart_fillMinute (s : State) : leakPart (fillMinute s) = leakPart s := by
  have count : leakPart (tariffCount s) = leakPart s := by
    unfold tariffCount
    dsimp only
    (repeat' split) <;> first
      | rfl
      | exact (leakPart_of_beside (beside_queueNotice .tariff 5 _)).trans rfl
  have learn : leakPart (learnStep (tariffCount s)) = leakPart s := count
  unfold fillMinute
  dsimp only
  split
  · exact learn
  · exact (leakPart_of_quiet (quiet_planAndStep _ _)).trans learn

/-! ### The leak comparison (R130) -/

/-- LEAK entered, its demand set on. -/
def leaking (s : State) : State := stopOn .leak (setGuard .leak { s with ogu := { s.ogu with baseline := none, hold := .leak } })

theorem leakCheck_of_leak {b : Int} (baseline : s.ogu.baseline = some b) (shut : s.ogu.state = .shut) (fresh : s.msu.stale = false)
    (leaks : (setting s).leakThreshold ≤ s.msu.lm - b) :
    leakCheck s = guardPass Config.guardPassBound (raiseCondition .inletLeak (leaking s)) := by
  unfold leakCheck
  rw [baseline]
  exact if_pos (by simp [shut, fresh, leaks])

theorem posture_leaking (s : State) : posture (leaking s) = (.leak, .leak, s.ogu.stroke, none, s.ogu.spillOwed, s.ogu.floatCount) :=
  posture_stopOn .leak _

theorem watched_leaking (s : State) : watched (leaking s) = watched s := by unfold leaking; simp

theorem faultFlags_leaking (s : State) : faultFlags (leaking s) = faultFlags s := (faultFlags_stopOn .leak _).trans rfl

/-- A code that was out of the set is not acknowledged when its condition has been raised. -/
theorem unacked_raiseCondition {c : FaultCode} (out : inFaultSet c s = false) :
    (inFaultSet c (raiseCondition c s) && faultAcked c (raiseCondition c s)) = false := by
  have flags := congrArg (fun x : Bool × Bool × Bool => x.2.1 && x.2.2) (codeFlags_raiseCondition c c s)
  refine flags.trans ?_
  split
  · simp [out]
  · simp [codeFlags, out]

theorem enterSpill_flags (c : FaultCode) (s : State) : codeFlags c (enterSpill s) = codeFlags c s := by
  refine codeFlags_of_faultFlags c ?_
  rw [enterSpill_eq]
  exact (faultFlags_queueNotice (.alarm .spill) 7 _).trans ((faultFlags_stopOn .spill (spilling s)).trans rfl)

/-- The leak found: LEAK with its fault and demand, or at once SPILL. -/
theorem leakFound (refill : refillLevel s < (setting s).hOvf) (out : inFaultSet .inletLeak s = false) :
    let t := guardPass Config.guardPassBound (raiseCondition .inletLeak (leaking s))
    t.ogu.hold = .leak ∧ Raised .inletLeak s t ∧ t.ogu.baseline = none ∧ t.ogu.stop.isSome = true ∧
      t.ogu.state = if spillCalled false s then .spill else .leak := by
  have flags := codeFlags_of_faultFlags .inletLeak (faultFlags_leaking s)
  have beyond : watched (raiseCondition .inletLeak (leaking s)) = watched s := by simp [watched_leaking]
  have msu : (raiseCondition .inletLeak (leaking s)).msu = s.msu := congrArg (fun b : Beside => b.state.msu) beyond
  have settings : setting (raiseCondition .inletLeak (leaking s)) = setting s := congrArg (fun b : Beside => b.state.sld.settings) beyond
  have stands : posture (raiseCondition .inletLeak (leaking s)) = _ := (posture_raiseCondition _ _).trans (posture_leaking s)
  have raised : Raised .inletLeak s (raiseCondition .inletLeak (leaking s)) := raised_of_flags flags (raised_raiseCondition _ _)
  have outNow : inFaultSet .inletLeak (leaking s) = false := (congrArg (fun x : Bool × Bool × Bool => x.2.1) flags).trans out
  have unacked : holdAcked (raiseCondition .inletLeak (leaking s)) = false := by
    unfold holdAcked
    rw [show (raiseCondition .inletLeak (leaking s)).ogu.hold = .leak from congrArg (fun x => x.2.1) stands]
    exact unacked_raiseCondition outNow
  have demand : (raiseCondition .inletLeak (leaking s)).ogu.stop.isSome = true := by
    have on := stop_stopOn .leak (setGuard .leak { s with ogu := { s.ogu with baseline := none, hold := .leak } })
    rcases stop_raiseCondition (s := leaking s) on .inletLeak with k | k <;> rw [k] <;> rfl
  have called : spillCalled false (raiseCondition .inletLeak (leaking s)) = spillCalled false s := by
    unfold spillCalled levelValid; rw [msu, settings]
  have low : refillLevel (raiseCondition .inletLeak (leaking s)) < (setting (raiseCondition .inletLeak (leaking s))).hOvf := by
    unfold refillLevel; rw [settings]; exact refill
  have passed := guardPass_of_hold (s := raiseCondition .inletLeak (leaking s)) 2 (.inr (congrArg Prod.fst stands)) low (.inr unacked)
  intro t
  have whole : t = if spillCalled false s then enterSpill (raiseCondition .inletLeak (leaking s)) else raiseCondition .inletLeak (leaking s) := by
    rw [← called]; exact passed
  rw [whole]
  split
  · have after := posture_enterSpill (raiseCondition .inletLeak (leaking s))
    refine ⟨(congrArg (fun x => x.2.1) after).trans (congrArg (fun x => x.2.1) stands), ?_, congrArg (fun x => x.2.2.2.1) after,
      by rw [stop_enterSpill]; rfl, congrArg Prod.fst after⟩
    have same := enterSpill_flags .inletLeak (raiseCondition .inletLeak (leaking s))
    exact ⟨(congrArg Prod.fst same).trans raised.1,
      fun absent => (congrArg (fun x : Bool × Bool × Bool => x.2.1) same).trans (raised.2 absent)⟩
  · exact ⟨congrArg (fun x => x.2.1) stands, raised, congrArg (fun x => x.2.2.2.1) stands, demand, congrArg Prod.fst stands⟩

/-- WATCH is left for CUT on the sample that reaches H_hi (R128). -/
theorem cutOnSample {c u : State} (p w r x : AnalogCode) (watch : c.ogu.state = .watch) (unshut : c.odu.position ≠ .closed)
    (settings : setting c = setting s) (after : quiet u = quiet (takeSamples p w r x c)) :
    u.msu.level = .fresh → (setting s).hHi ≤ u.msu.lf → u.msu.lf < (setting s).hOvf →
      u.ogu.state = .cut ∧ u.ogu.stroke = some (setting s).strokeTime := by
  intro fresh high low
  have frame : steady (takeSamples p w r x c) = steady (beforeSample p w r x c) := by rw [takeSamples_eq]; simp
  have part := guardPart_beforeSample p w r x c
  have msu : (beforeSample p w r x c).msu = u.msu := (msu_of_steady frame).symm.trans (msu_of_quiet after).symm
  have image : setting (beforeSample p w r x c) = setting s :=
    (setting_of_steady frame).symm.trans ((congrArg Steady.settings (steady_takeSamples p w r x c)).trans settings)
  have ogu : u.ogu = (guardSample (beforeSample p w r x c)).ogu := by
    refine (ogu_of_quiet after).trans ?_
    rw [takeSamples_eq]
    exact (congrArg Prod.fst (guardPart_frostSample _)).trans (congrArg Prod.fst (guardPart_fillSample _))
  generalize beforeSample p w r x c = y at *
  have state : y.ogu.state = .watch := (congrArg (fun g : Guard × Position => g.1.state) part).trans watch
  have position : y.odu.position ≠ .closed := fun k => unshut ((congrArg Prod.snd part).symm.trans k)
  have calm : spillCalled false y = false := by
    rw [← Bool.not_eq_true, spillCalled_iff, msu, image]
    rintro (k | ⟨_, k⟩)
    · cases k
    · exact absurd low (not_lt.mpr k)
  have top : topReached y = true := topReached_iff.mpr (.inl (by rw [msu, image]; exact ⟨fresh, high⟩))
  have moved : guardMove false y = some (enterCut y) := by
    rw [guardMove_watch (.inr calm) state, if_pos top, if_neg position]
  have rests : guardMove false (enterCut y) = none := by
    rw [guardMove_cut (s := enterCut y) (.inr calm) rfl]; exact if_neg position
  have cut : guardSample y = enterCut y := by
    have kept : guardSample y = guardExamine false y := by
      unfold guardSample
      split
      · rw [state]; rfl
      · rfl
    rw [kept, guardExamine_once moved rests]
  rw [ogu, cut, ← image]
  exact ⟨rfl, rfl⟩

/-! ### What a minute mark does after the leak comparison -/

theorem posture_reofferOwed (s : State) : (reofferOwed s).ogu = s.ogu ∧ faultFlags (reofferOwed s) = faultFlags s := by
  unfold reofferOwed
  dsimp only
  (repeat' split) <;> simp only [ogu_queueNotice, faultFlags_queueNotice, and_self]

theorem floatCheck_keeps (s : State) : (floatCheck s).ogu = { s.ogu with floatCount := (floatCheck s).ogu.floatCount } ∧
    ∀ c ≠ .floatDisagree, codeFlags c (floatCheck s) = codeFlags c s := by
  have set : ∀ (present : Bool) (t : State), (setCondition .floatDisagree present t).ogu = t.ogu := fun present t =>
    congrArg Prod.fst (guardPart_setCondition rfl present t)
  unfold floatCheck
  dsimp only
  split
  · exact ⟨rfl, fun _ _ => rfl⟩
  · split
    · split
      · have same := set true { s with ogu := { s.ogu with floatCount := satSucc 3 s.ogu.floatCount } }
        exact ⟨by rw [show raiseCondition .floatDisagree _ = setCondition .floatDisagree true _ from rfl, same],
          fun c other => (codeFlags_setCondition_ne other true _).trans rfl⟩
      · exact ⟨rfl, fun _ _ => rfl⟩
    · have same := set false { s with ogu := { s.ogu with floatCount := 0 } }
      exact ⟨by rw [show clearCondition .floatDisagree _ = setCondition .floatDisagree false _ from rfl, same],
        fun c other => (codeFlags_setCondition_ne other false _).trans rfl⟩

theorem quiet_stagnationMinute_part (s : State) : guardPart (stagnationMinute s) = guardPart s ∧
    faultFlags (stagnationMinute s) = faultFlags s := by
  unfold stagnationMinute; exact ⟨rfl, rfl⟩

/-- The mark's record, before the jobs take it. -/
def marked (s : State) : State := { s with msu := { markRecord s.msu with minuteDue := false } }

theorem minutePasses_of_active (on : active s = true) : minutePasses s =
    stagnationMinute (fillFollows (reofferOwed (floatCheck (leakCheck (fillMinute (changeRule (marked s))))))) := by
  unfold minutePasses
  exact if_pos on

/-- The guard and a code's flags after a mark are those of the leak comparison. -/
theorem after_leakCheck (u : State) {c : FaultCode} (other : c ≠ .floatDisagree) :
    let t := stagnationMinute (fillFollows (reofferOwed (floatCheck (leakCheck u))))
    t.ogu = { (leakCheck u).ogu with floatCount := t.ogu.floatCount } ∧ codeFlags c t = codeFlags c (leakCheck u) := by
  obtain ⟨float, flags⟩ := floatCheck_keeps (leakCheck u)
  obtain ⟨owed, owedFlags⟩ := posture_reofferOwed (floatCheck (leakCheck u))
  obtain ⟨last, lastFlags⟩ := quiet_stagnationMinute_part (fillFollows (reofferOwed (floatCheck (leakCheck u))))
  have follows := quiet_fillFollows (reofferOwed (floatCheck (leakCheck u)))
  intro t
  have guard : t.ogu = (floatCheck (leakCheck u)).ogu :=
    (congrArg Prod.fst last).trans ((ogu_of_quiet follows).trans owed)
  refine ⟨?_, ?_⟩
  · rw [guard]; exact float
  · exact (codeFlags_of_faultFlags c (lastFlags.trans ((faultFlags_of_quiet follows).trans owedFlags))).trans (flags c other)

end

end Sys2Proof.Machine

namespace Sys2Proof.Proofs
open Sys2Proof Sys2Proof.Machine

/-- The guard's departures of R127 to R133, state by state. -/
theorem guardMoves (ovfOnset : Bool) (s : State) :
    let spills := ovfOnset = true ∨ s.msu.level = .fresh ∧ (setting s).hOvf ≤ s.msu.lf
    s.ogu.state = .spill ∨ ¬ spills ↔ stays ovfOnset s := by
  intro spills
  unfold stays
  exact or_congr_right (by rw [← Bool.not_eq_true]; exact not_congr spillCalled_iff.symm)

/-- Settles O45: each departure by its conditions; the sample and the mark go one departure on. -/
theorem guardStateMoves : Obligations.GuardStateMoves := by
  refine ⟨fun ovfOnset s => ?_, fun p w r x s on running watch unshut => ?_, fun b s on due fresh shut baseline leaks out refill => ?_⟩
  · intro valid refill spills top acked held goes calm
    have calm_iff : calm ↔ stays ovfOnset s := guardMoves ovfOnset s
    refine ⟨fun state called => ?_, fun c state => ⟨fun k closed => ?_, fun k closed => ?_, fun k => ?_⟩,
      fun c state => ⟨fun closed => ?_, fun closed => ?_⟩, fun c state => ?_, fun c state => ?_, fun state => ?_⟩
    · have posture := posture_enterSpill s
      refine ⟨_, guardMove_spills state (spillCalled_iff.mpr called), congrArg Prod.fst posture, congrArg (fun x => x.2.1) posture,
        congrArg (fun x => x.2.2.1) posture, congrArg (fun x => x.2.2.2.1) posture, congrArg (fun x => x.2.2.2.2.1) posture,
        _, stop_enterSpill s, ?_⟩
      cases s.ogu.stop <;> rfl
    · refine ⟨enterShut s, ?_, rfl, rfl⟩
      rw [guardMove_watch (calm_iff.mp c) state, if_pos (topReached_iff.mpr k), if_pos closed]
    · refine ⟨enterCut s, ?_, rfl, rfl⟩
      rw [guardMove_watch (calm_iff.mp c) state, if_pos (topReached_iff.mpr k), if_neg closed]
    · rw [guardMove_watch (calm_iff.mp c) state, if_neg (mt topReached_iff.mp k)]
    · have kept := posture_endDemand (enterShut s)
      refine ⟨endDemand (enterShut s), ?_, congrArg Prod.fst kept, congrArg (fun x => x.2.2.1) kept,
        congrArg (fun x => x.2.2.2.1) kept, fun free => ?_⟩
      · rw [guardMove_cut (calm_iff.mp c) state, if_pos closed]
      · rw [stop_endDemand]; exact if_neg (by rw [show (enterShut s).ftu.safeHold = s.ftu.safeHold from rfl, free]; decide)
    · rw [guardMove_cut (calm_iff.mp c) state, if_neg closed]
    · intro below
      have same : (belowRefill s && !debounced .hifl s && !latchSet .hifl s) = true ↔ below := by
        rw [Bool.and_eq_true, Bool.and_eq_true, belowRefill_iff, Bool.not_eq_true', Bool.not_eq_true', and_assoc, and_assoc]
        rfl
      have move := guardMove_shut (calm_iff.mp c) state
      exact ⟨fun k => ⟨shutToWatch s, move.trans (if_pos (same.mpr k)), rfl, rfl⟩, fun k => move.trans (if_neg (mt same.mp k))⟩
    · intro safe
      have same : (belowRefill s && s.odu.position == .closed && holdAcked s) = true ↔ safe := by
        rw [Bool.and_eq_true, Bool.and_eq_true, belowRefill_iff, beq_iff_eq, holdAcked_iff, and_assoc, and_assoc]
        rfl
      have move := guardMove_held (calm_iff.mp c) state
      exact ⟨fun k => ⟨holdToWatch s, move.trans (if_pos (same.mpr k)), holdToWatch_spec s⟩, fun k => move.trans (if_neg (mt same.mp k))⟩
    · intro isOver
      have same : (!latchSet .ovf s && !debounced .ovf s && levelValid s && decide (s.msu.lf < refillLevel s)) = true ↔ isOver := by
        simp only [Bool.and_eq_true, Bool.not_eq_true', levelValid_iff, decide_eq_true_iff, and_assoc]
        rfl
      have move := guardMove_spill (b := ovfOnset) state
      exact ⟨fun k => ⟨leaveSpill s, move.trans (if_pos (same.mpr k)), leaveSpill_spec s⟩, fun k => move.trans (if_neg (mt same.mp k))⟩
  · have a : arises (.secondEvent p w r x) s = true := arises_and (loaded_of_active on) running
    have answer : exec (.secondEvent p w r x) s = .next (event (secondPasses p w r x) s) := exec_of_arises a
    obtain ⟨c, counted⟩ : ∃ c, c = countTimers (countSecond (beginEvent s)) := ⟨_, rfl⟩
    have sampled : secondPasses p w r x (beginEvent s) = takeSamples p w r x c := by
      rw [counted]; exact if_pos on
    have after : quiet (event (secondPasses p w r x) s) = quiet (takeSamples p w r x c) := sampled ▸ quiet_event _ _
    have before : c.ogu.state = .watch ∧ c.odu.position = s.odu.position := by
      obtain ⟨state, position⟩ := guardPart_countTimers (countSecond (beginEvent s))
      rw [counted]
      exact ⟨state.trans watch, position⟩
    have settings : setting c = setting s := by
      rw [counted]; exact congrArg Steady.settings (steady_countTimers (countSecond (beginEvent s)))
    exact ⟨_, answer, cutOnSample p w r x before.1 (fun k => unshut (before.2.symm.trans k)) settings after⟩
  · have a : arises .minuteMark s = true := arises_and (loaded_of_active on) due
    have answer : exec .minuteMark s = .next (event minutePasses s) := exec_of_arises a
    obtain ⟨v, recorded⟩ : ∃ v, v = fillMinute (changeRule (marked (beginEvent s))) := ⟨_, rfl⟩
    have part : leakPart v = leakPart (marked (beginEvent s)) :=
      recorded ▸ (leakPart_fillMinute _).trans (leakPart_of_beside (beside_changeRule _))
    have ogu : v.ogu = s.ogu := congrArg (fun x => x.1.1) part
    have settings : setting v = setting s := congrArg (fun x => x.2.2.2) part
    have record : v.msu = { markRecord s.msu with minuteDue := false } := congrArg (fun x => x.2.2.1) part
    have flags : codeFlags .inletLeak v = codeFlags .inletLeak s :=
      congrArg (fun x => (x.2.1.1[faultIndex .inletLeak], x.2.1.2.1[faultIndex .inletLeak], x.2.1.2.2.1[faultIndex .inletLeak])) part
    have freshMark : markRecord s.msu = _ := if_pos fresh
    have lm : v.msu.lm = s.msu.lf := by rw [record, freshMark]
    have lf : v.msu.lf = s.msu.lf := by rw [record, freshMark]
    have level : v.msu.level = .fresh := by rw [record, freshMark]; exact fresh
    have compared : leakCheck v = guardPass Config.guardPassBound (raiseCondition .inletLeak (leaking v)) :=
      leakCheck_of_leak (by rw [ogu]; exact baseline) (by rw [ogu]; exact shut) (by rw [record, freshMark])
        (by rw [settings, lm]; exact leaks)
    have outNow : inFaultSet .inletLeak v = false := (congrArg (fun x : Bool × Bool × Bool => x.2.1) flags).trans out
    have low : refillLevel v < (setting v).hOvf := by unfold refillLevel; rw [settings]; exact refill
    obtain ⟨hold, raised, ended, demand, state⟩ := leakFound low outNow
    rw [← compared] at hold raised ended demand state
    have passed : minutePasses (beginEvent s) = stagnationMinute (fillFollows (reofferOwed (floatCheck (leakCheck v)))) := by
      rw [recorded]; exact minutePasses_of_active (s := beginEvent s) on
    obtain ⟨guard, codes⟩ := after_leakCheck v (c := .inletLeak) (by decide)
    rw [← passed] at guard codes
    have after : quiet (event minutePasses s) = quiet (minutePasses (beginEvent s)) := quiet_event _ _
    have final := (ogu_of_quiet after).trans guard
    refine ⟨_, answer, ?_, ?_, ?_, ?_, ?_⟩
    · rw [final]; exact hold
    · refine raised_of_flags flags (raised_of_quiet after ?_)
      exact ⟨(congrArg Prod.fst codes).trans raised.1,
        fun absent => (congrArg (fun x : Bool × Bool × Bool => x.2.1) codes).trans (raised.2 absent)⟩
    · rw [final]; exact ended
    · rw [final]; exact demand
    · rw [final]
      refine state.trans (if_congr ?_ rfl rfl)
      rw [spillCalled_iff, settings, lf]
      exact ⟨fun k => k.elim (fun f => absurd f (by decide)) (fun f => f.2), fun k => .inr ⟨level, k⟩⟩

end Sys2Proof.Proofs
end

section
/-! PROOFS. A notice queued where there is room, and what a HOLD fault entering the set brings about. -/

namespace Sys2Proof.Machine

section
variable {s t u : State} {c : FaultCode}

/-! ### A notice other than a CLAIM or RELEASE, where the queue has room (R52 to R54) -/

/-- A notice stands in a queue at an urgency or above it: as the entry's own, or as what the one on the line is renewed by. -/
def Stands (item : Outgoing) (v : Nat) (q : List QueueEntry) : Prop :=
  ∃ e ∈ q, keyOf e.item = keyOf item ∧ v ≤ e.urgency ∧ (if e.sending then e.renewed = some item else e.item = item)

/-- Only the queue differs, and it has grown by an entry at most. -/
def Grown (item : Outgoing) (v : Nat) (s t : State) : Prop :=
  ∃ q n, t = { s with lnu := { s.lnu with queue := q, nextAge := n } } ∧ q.length ≤ s.lnu.queue.length + 1 ∧ Stands item v q ∧
    ∀ other w, keyOf other ≠ keyOf item → Stands other w s.lnu.queue → Stands other w q

theorem stands_changeUnder {item other : Outgoing} {w : Nat} {q : List QueueEntry} (ne : keyOf other ≠ keyOf item)
    (f : QueueEntry → QueueEntry) (h : Stands other w q) : Stands other w (changeUnder (keyOf item) f q) := by
  obtain ⟨e, mem, key, rest⟩ := h
  refine ⟨e, List.mem_map.mpr ⟨e, mem, if_neg ?_⟩, key, rest⟩
  rw [beq_iff_eq, key]
  exact ne

theorem grown_queueNotice {item : Outgoing} {v : Nat} (plain : isClaim item = false) (kept : isRelease item = false)
    (on : active s = true) (room : s.lnu.queue.length < 8) : Grown item v s (queueNotice item v s) := by
  have may : ∀ {p : Prop}, isClaim item = true → p := fun claim => absurd claim (by rw [plain]; decide)
  cases found : entryUnder (keyOf item) s.lnu.queue with
  | none =>
    rw [queueNotice_enters on may room (ne_of_entryUnder found)]
    refine ⟨_, _, rfl, by simp, ⟨newEntry item v s.lnu.nextAge, by simp, rfl, Nat.le_refl v, rfl⟩, fun other w _ h => ?_⟩
    obtain ⟨e, mem, rest⟩ := h
    exact ⟨e, List.mem_append_left _ mem, rest⟩
  | some e =>
    obtain ⟨mem, key⟩ := mem_of_entryUnder found
    have under : (keyOf e.item == keyOf item) = true := beq_iff_eq.mpr key
    rw [queueNotice_over on may found]
    unfold queueOver
    rw [kept, Bool.false_and, Bool.false_and, if_neg (by decide : ¬ (false = true))]
    split
    next sending =>
      refine ⟨_, s.lnu.nextAge, rfl, by simp [changeUnder], ⟨_, List.mem_map.mpr ⟨e, mem, if_pos under⟩, key, Nat.le_max_right _ _, ?_⟩,
        fun other w ne => stands_changeUnder ne _⟩
      exact (if_pos sending).mpr rfl
    next waiting =>
      refine ⟨_, s.lnu.nextAge, rfl, by simp [changeUnder], ⟨_, List.mem_map.mpr ⟨e, mem, if_pos under⟩, rfl, Nat.le_max_right _ _, ?_⟩,
        fun other w ne => stands_changeUnder ne _⟩
      exact (if_neg waiting).mpr rfl

theorem Grown.clu {item : Outgoing} {v : Nat} (h : Grown item v s t) : t.clu = s.clu := by obtain ⟨_, _, rfl, _⟩ := h; rfl
theorem Grown.ftu {item : Outgoing} {v : Nat} (h : Grown item v s t) : t.ftu = s.ftu := by obtain ⟨_, _, rfl, _⟩ := h; rfl
theorem Grown.mode {item : Outgoing} {v : Nat} (h : Grown item v s t) : active t = active s := by obtain ⟨_, _, rfl, _⟩ := h; rfl
theorem Grown.length {item : Outgoing} {v : Nat} (h : Grown item v s t) : t.lnu.queue.length ≤ s.lnu.queue.length + 1 := by
  obtain ⟨_, _, rfl, length, _⟩ := h; exact length
theorem Grown.stands {item : Outgoing} {v : Nat} (h : Grown item v s t) : Stands item v t.lnu.queue := by
  obtain ⟨_, _, rfl, _, stands, _⟩ := h; exact stands
theorem Grown.keeps {item other : Outgoing} {v w : Nat} (h : Grown item v s t) (ne : keyOf other ≠ keyOf item)
    (k : Stands other w s.lnu.queue) : Stands other w t.lnu.queue := by
  obtain ⟨_, _, rfl, _, _, keeps⟩ := h; exact keeps other w ne k

/-! ### A code enters (R182, R185, R187, R188) -/

theorem unnoted_announceHold (c : FaultCode) (s : State) : unnoted (announceHold c s) = unnoted s :=
  unnoted_of_beside (beside_announceHold c s)

/-- The fault unit after a condition raised whose code enters the set. -/
theorem unnoted_raiseCondition (h : enters c s = true) : unnoted (raiseCondition c s) =
    if secondHold c s then
      { unnoted (faultEntered c s) with snapshot := some (takeSnapshot (announceHold c (faultEntered c s))), safeHold := true }
    else unnoted (faultEntered c s) := by
  rw [raiseCondition_enters h]
  split
  · rw [unnoted_enterSafeHold, unnoted_announceHold]
  · exact unnoted_announceHold _ _

/-- Otherwise nothing but the condition flag has moved. -/
theorem unnoted_raiseCondition_stands (h : enters c s = false) :
    (raiseCondition c s).ftu.total = s.ftu.total ∧ (raiseCondition c s).ftu.safeHold = s.ftu.safeHold ∧
      (raiseCondition c s).ftu.snapshot = s.ftu.snapshot := by
  rcases raiseCondition_stands h with same | same <;> rw [same] <;> exact ⟨rfl, rfl, rfl⟩

theorem enters_iff : enters c s = true ↔ conditionPresent c s = false ∧ inFaultSet c s = false := by
  unfold enters; rw [Bool.and_eq_true, Bool.not_eq_true', Bool.not_eq_true']

theorem anyHold_iff : anyHold s = true ↔
    inFaultSet .inletStuck s = true ∨ inFaultSet .inletLeak s = true ∨ inFaultSet .stopUnconfirmed s = true := by
  unfold anyHold holdCodes; simp

/-- What the snapshot of a fault that enters records, but for the claims and the NOTE count (R188). -/
theorem takeSnapshot_entered (c : FaultCode) (s : State) :
    let x := takeSnapshot (announceHold c (faultEntered c s))
    x.lf = s.msu.lf ∧ x.level = s.msu.level ∧ x.volume = s.msu.volume ∧ x.guard = s.ogu.state ∧
      x.faults = put s.ftu.inSet (faultIndex c) true ∧ x.stageMask = s.ftu.stageMask ∧ x.capacity = s.ptb.capacity ∧
      x.elapsed = s.msu.secondCount := by
  have same : beside (announceHold c (faultEntered c s)) = beside (faultEntered c s) := beside_announceHold c _
  have msu : (announceHold c (faultEntered c s)).msu = s.msu := congrArg (fun b : Beside => b.state.msu) same
  have ogu : (announceHold c (faultEntered c s)).ogu = s.ogu := congrArg (fun b : Beside => b.state.ogu) same
  have ptb : (announceHold c (faultEntered c s)).ptb = s.ptb := congrArg (fun b : Beside => b.state.ptb) same
  unfold takeSnapshot
  dsimp only
  rw [msu, ogu, ptb]
  exact ⟨rfl, rfl, rfl, rfl, congrArg (fun b : Beside => b.state.ftu.inSet) same,
    congrArg (fun b : Beside => b.state.ftu.stageMask) same, rfl, rfl⟩

theorem grown_announceHold {a : AlarmCode} (code : holdAlarm c = some a) (on : active s = true) (room : s.lnu.queue.length < 8) :
    Grown (.alarm a) (if c = .stopUnconfirmed then 7 else 6) s (announceHold c s) := by
  unfold announceHold
  rw [code]
  exact grown_queueNotice rfl rfl on room

theorem grown_announceStop (on : active s = true) (room : s.lnu.queue.length < 8) :
    Grown .stop ((s.ogu.stop.map StopDemand.urgency).getD 6) { s with ogu := { s.ogu with stopOwed := true } } (announceStop s) :=
  grown_queueNotice rfl rfl on room

/-! ### The stroke timer (R129) -/

/-- STUCK entered. -/
def sticking (s : State) : State := setGuard .stuck { s with ogu := { s.ogu with stroke := none, hold := .stuck } }

/-- STUCK with its demand set on. -/
def striking (s : State) : State := stopOn .stuck (sticking s)

theorem strokeExpires_eq (s : State) :
    strokeExpires s = guardPass Config.guardPassBound (raiseCondition .inletStuck (striking s)) := rfl

theorem posture_striking (s : State) :
    posture (striking s) = (.stuck, .stuck, none, s.ogu.baseline, s.ogu.spillOwed, s.ogu.floatCount) := posture_stopOn .stuck _

theorem watched_striking (s : State) : watched (striking s) = watched s := by unfold striking sticking; simp

theorem unnoted_striking (s : State) : unnoted (striking s) = unnoted s := (unnoted_stopOn .stuck _).trans rfl

theorem faultFlags_striking (s : State) : faultFlags (striking s) = faultFlags s := (faultFlags_stopOn .stuck _).trans rfl

theorem stop_striking (s : State) : (striking s).ogu.stop = some (demandAfter .stuck s.ftu.safeHold s.ogu.stop) :=
  stop_stopOn .stuck (sticking s)

theorem unnoted_enterSpill (s : State) : unnoted (enterSpill s) = unnoted s := by
  rw [enterSpill_eq]
  exact (unnoted_queueNotice (.alarm .spill) 7 _).trans ((unnoted_stopOn .spill (spilling s)).trans rfl)

/-- The demand set on, where there is room, leaves the claims and the NOTE count. -/
theorem room_stopOn (cause : StopCause) (on : active s = true) (room : s.lnu.queue.length < 8) :
    (stopOn cause s).clu = s.clu ∧ (stopOn cause s).ftu = s.ftu ∧ (stopOn cause s).lnu.queue.length ≤ s.lnu.queue.length + 1 ∧
      active (stopOn cause s) = true := by
  have told : ∀ t : State, t.clu = s.clu → t.ftu = s.ftu → t.lnu = s.lnu → active t = true →
      (announceStop t).clu = s.clu ∧ (announceStop t).ftu = s.ftu ∧ (announceStop t).lnu.queue.length ≤ s.lnu.queue.length + 1 ∧
        active (announceStop t) = true := by
    intro t clu ftu lnu here
    have grown := grown_announceStop here (by rw [lnu]; exact room)
    exact ⟨grown.clu.trans clu, grown.ftu.trans ftu, lnu ▸ grown.length, grown.mode.trans here⟩
  cases demand : s.ogu.stop with
  | none => unfold stopOn; rw [demand]; exact told _ rfl rfl rfl on
  | some d =>
    rcases stopOn_of_some demand cause with same | same <;> rw [same]
    · exact ⟨rfl, rfl, Nat.le_succ _, on⟩
    · exact told _ rfl rfl rfl on

/-- The state in which the stroke timer's fault has been raised. -/
def struck (s : State) : State := raiseCondition .inletStuck (striking s)

theorem posture_struck (s : State) :
    posture (struck s) = (.stuck, .stuck, none, s.ogu.baseline, s.ogu.spillOwed, s.ogu.floatCount) :=
  (posture_raiseCondition _ _).trans (posture_striking s)

theorem watched_struck (s : State) : watched (struck s) = watched s :=
  (watched_raiseCondition _ _).trans (watched_striking s)

theorem strokeExpires_of_unshut (unshut : s.odu.position ≠ .closed) (refill : refillLevel s < (setting s).hOvf) :
    strokeExpires s = if spillCalled false s then enterSpill (struck s) else struck s := by
  have beyond := watched_struck s
  have msu : (struck s).msu = s.msu := congrArg (fun b : Beside => b.state.msu) beyond
  have settings : setting (struck s) = setting s := congrArg (fun b : Beside => b.state.sld.settings) beyond
  have position : (struck s).odu.position = s.odu.position := congrArg (fun b : Beside => b.state.odu.position) beyond
  have called : spillCalled false (struck s) = spillCalled false s := by unfold spillCalled levelValid; rw [msu, settings]
  have low : refillLevel (struck s) < (setting (struck s)).hOvf := by unfold refillLevel; rw [settings]; exact refill
  rw [strokeExpires_eq, ← called]
  exact guardPass_of_hold 2 (.inl (congrArg Prod.fst (posture_struck s))) low (.inl fun k => unshut (position.symm.trans k))

/-- The further HOLD fault of R187, in the words of the statement. -/
def secondStuck (s : State) : Prop :=
  (conditionPresent .inletStuck s = false ∧ inFaultSet .inletStuck s = false) ∧ s.ftu.safeHold = false ∧
    (inFaultSet .inletLeak s = true ∨ inFaultSet .stopUnconfirmed s = true)

theorem enters_striking (s : State) : enters .inletStuck (striking s) = enters .inletStuck s := by
  have flags := codeFlags_of_faultFlags .inletStuck (faultFlags_striking s)
  unfold enters
  rw [show conditionPresent .inletStuck (striking s) = _ from congrArg Prod.fst flags,
    show inFaultSet .inletStuck (striking s) = _ from congrArg (fun x : Bool × Bool × Bool => x.2.1) flags]
  rfl

theorem secondHold_striking (h : enters .inletStuck s = true) : secondHold .inletStuck (striking s) = true ↔ secondStuck s := by
  have standing : ∀ d, inFaultSet d (striking s) = inFaultSet d s := fun d =>
    congrArg (fun x : Bool × Bool × Bool => x.2.1) (codeFlags_of_faultFlags d (faultFlags_striking s))
  have held : (striking s).ftu.safeHold = s.ftu.safeHold := safeHold_of_unnoted (unnoted_striking s)
  obtain ⟨absent, out⟩ := enters_iff.mp h
  unfold secondHold secondStuck
  rw [Bool.and_eq_true, Bool.and_eq_true, anyHold_iff, Bool.not_eq_true', held, standing, standing, standing, out]
  simp [isHold, absent, and_comm]

/-- The fault unit once the stroke timer's fault has been raised. -/
theorem ftu_struck (s : State) :
    (enters .inletStuck s = true → (struck s).ftu.total = min 65535 (s.ftu.total + 1)) ∧
    (enters .inletStuck s = false → (struck s).ftu.total = s.ftu.total) ∧
    ((struck s).ftu.safeHold = true ↔ s.ftu.safeHold = true ∨ secondStuck s) ∧
    (¬ secondStuck s → (struck s).ftu.snapshot = s.ftu.snapshot) ∧
    (secondStuck s → (struck s).ftu.snapshot = some (takeSnapshot (announceHold .inletStuck (faultEntered .inletStuck (striking s))))) := by
  have before := unnoted_striking s
  have total : (striking s).ftu.total = s.ftu.total := (congrArg Faults.total before :)
  have held : (striking s).ftu.safeHold = s.ftu.safeHold := safeHold_of_unnoted before
  have snapshot : (striking s).ftu.snapshot = s.ftu.snapshot := (congrArg Faults.snapshot before :)
  cases e : enters .inletStuck s with
  | false =>
    have none : ¬ secondStuck s := fun k => by rw [enters_iff.mpr k.1] at e; cases e
    obtain ⟨t, h, x⟩ := unnoted_raiseCondition_stands (c := .inletStuck) (s := striking s) ((enters_striking s).trans e)
    refine ⟨fun k => (by cases k), fun _ => t.trans total, ?_, fun _ => x.trans snapshot, fun k => absurd k none⟩
    rw [show (struck s).ftu.safeHold = s.ftu.safeHold from h.trans held]
    simp [none]
  | true =>
    have raised := unnoted_raiseCondition (c := .inletStuck) (s := striking s) ((enters_striking s).trans e)
    have second := secondHold_striking e
    have sum : satSucc 65535 (striking s).ftu.total = min 65535 (s.ftu.total + 1) := by rw [total]; rfl
    by_cases k : secondStuck s
    · rw [if_pos (second.mpr k)] at raised
      refine ⟨fun _ => ((congrArg Faults.total raised :)).trans sum, fun f => (by cases f), ?_, fun f => absurd k f,
        fun _ => (congrArg Faults.snapshot raised :)⟩
      rw [show (struck s).ftu.safeHold = true from (congrArg Faults.safeHold raised :)]
      simp [k]
    · rw [if_neg (mt second.mp k)] at raised
      refine ⟨fun _ => ((congrArg Faults.total raised :)).trans sum, fun f => (by cases f), ?_,
        fun _ => ((congrArg Faults.snapshot raised :)).trans snapshot, fun f => absurd f k⟩
      rw [show (struck s).ftu.safeHold = s.ftu.safeHold from ((congrArg Faults.safeHold raised :)).trans held]
      simp [k]

/-- The demand once the stroke timer's fault has been raised (R135, R137). -/
theorem stop_struck (stops : StopsInSafeHold s) : ∃ d, (struck s).ogu.stop = some d ∧
    d.cause = if (struck s).ftu.safeHold = true then .safe else .stuck := by
  have held : (striking s).ftu.safeHold = s.ftu.safeHold := safeHold_of_unnoted (unnoted_striking s)
  have before := stop_striking s
  have hold := (ftu_struck s).2.2.1
  have ogu := ogu_raiseCondition .inletStuck (striking s)
  cases safe : s.ftu.safeHold with
  | true =>
    obtain ⟨d, on, cause⟩ := stops safe
    have first : (enters .inletStuck (striking s) && secondHold .inletStuck (striking s)) = false := by
      unfold secondHold; rw [held, safe]; simp
    rw [first] at ogu
    refine ⟨demandAfter .stuck true s.ogu.stop, (congrArg Guard.stop ogu).trans (before.trans (by rw [safe])), ?_⟩
    rw [if_pos (hold.mpr (.inl safe)), on]
    exact cause
  | false =>
    cases second : enters .inletStuck (striking s) && secondHold .inletStuck (striking s) with
    | false =>
      rw [second] at ogu
      have not : ¬ (struck s).ftu.safeHold = true := fun k => by
        rcases hold.mp k with f | f
        · rw [safe] at f; cases f
        · have e := enters_iff.mpr f.1
          rw [enters_striking, e, (secondHold_striking e).mpr f] at second
          cases second
      refine ⟨demandAfter .stuck false s.ogu.stop, (congrArg Guard.stop ogu).trans (before.trans (by rw [safe])), ?_⟩
      rw [if_neg not]
      cases s.ogu.stop <;> rfl
    | true =>
      rw [second] at ogu
      rw [Bool.and_eq_true, enters_striking] at second
      have yes : (struck s).ftu.safeHold = true := hold.mpr (.inr ((secondHold_striking second.1).mp second.2))
      have safe : (struck s).ogu.stop = _ := congrArg Guard.stop ogu
      rw [if_pos rfl] at safe
      unfold safeDemand at safe
      rw [before] at safe
      exact ⟨_, safe, (if_pos yes).symm⟩

/-- Where the queue has room the snapshot's claims and NOTE count are those before (log 55). -/
theorem snapshot_room (on : active s = true) (room : s.lnu.queue.length ≤ 6) :
    let x := takeSnapshot (announceHold .inletStuck (faultEntered .inletStuck (striking s)))
    x.supplyClaim = s.clu.ownSupply.state ∧ x.loadClaim = s.clu.ownLoad.state ∧ x.notes = s.ftu.notes := by
  obtain ⟨clu, ftu, length, here⟩ := room_stopOn (s := sticking s) .stuck on (Nat.lt_of_le_of_lt room (by decide))
  have before : (sticking s).lnu.queue = s.lnu.queue := rfl
  rw [before] at length
  have grown := grown_announceHold (c := .inletStuck) (s := faultEntered .inletStuck (striking s)) rfl here
    (Nat.lt_of_le_of_lt length (by omega))
  have claims := grown.clu.trans clu
  have entered : (faultEntered .inletStuck (striking s)).ftu.notes = s.ftu.notes := (congrArg Faults.notes ftu :)
  have notes := (congrArg Faults.notes grown.ftu).trans entered
  exact ⟨congrArg (fun x : Claims => x.ownSupply.state) claims, congrArg (fun x : Claims => x.ownLoad.state) claims, notes⟩

/-! ### A HOLD code entering the set, entry by entry -/

theorem grown_stopForSafeHold (on : active s = true) (room : s.lnu.queue.length < 8) :
    ∃ x : State, x.lnu = s.lnu ∧ Grown .stop ((s.ogu.stop.map StopDemand.urgency).getD 6) x (stopForSafeHold s) := by
  unfold stopForSafeHold
  split
  next none =>
    unfold stopOn
    rw [none]
    refine ⟨_, ?_, grown_announceStop on room⟩
    rfl
  next d demand =>
    rw [demand]
    refine ⟨_, ?_, grown_announceStop on room⟩
    rfl

/-- The notices of a HOLD fault entering the set and, where it is a further one, of safe hold (R185, R187, R137). -/
theorem stands_raiseCondition {a : AlarmCode} (code : holdAlarm c = some a) (on : active s = true)
    (e : enters c s = true) (room : s.lnu.queue.length ≤ 5) :
    Stands (.alarm a) (if c = .stopUnconfirmed then 7 else 6) (raiseCondition c s).lnu.queue ∧
    (secondHold c s = true → Stands .trip 7 (raiseCondition c s).lnu.queue ∧
      Stands .stop ((s.ogu.stop.map StopDemand.urgency).getD 6) (raiseCondition c s).lnu.queue) ∧
    (secondHold c s = false → (raiseCondition c s).ftu.safeHold = s.ftu.safeHold ∧
      (raiseCondition c s).ftu.snapshot = s.ftu.snapshot) ∧
    (announceHold c (faultEntered c s)).clu = s.clu ∧ (announceHold c (faultEntered c s)).ftu.notes = s.ftu.notes := by
  have announced := grown_announceHold (s := faultEntered c s) code on (Nat.lt_of_le_of_lt room (by decide))
  have kept : (announceHold c (faultEntered c s)).clu = s.clu ∧ (announceHold c (faultEntered c s)).ftu.notes = s.ftu.notes :=
    ⟨announced.clu, (congrArg Faults.notes announced.ftu :)⟩
  rw [raiseCondition_enters e]
  cases second : secondHold c s with
  | false =>
    rw [if_neg (by decide : ¬ (false = true))]
    exact ⟨announced.stands, fun k => (by cases k),
      fun _ => ⟨(congrArg Faults.safeHold announced.ftu :), (congrArg Faults.snapshot announced.ftu :)⟩, kept⟩
  | true =>
    rw [if_pos rfl]
    have grows := announced.length
    have here := announced.mode.trans on
    have demand : (announceHold c (faultEntered c s)).ogu = s.ogu := (ogu_of_beside (beside_announceHold _ _)).trans rfl
    generalize announceHold c (faultEntered c s) = u at *
    unfold enterSafeHold
    dsimp only
    have before : (faultEntered c s).lnu.queue = s.lnu.queue := rfl
    rw [before] at grows
    have tripped := grown_queueNotice (item := .trip) (v := 7) (s := { u with ftu := { u.ftu with snapshot := some (takeSnapshot u) } })
      rfl rfl here (Nat.lt_of_le_of_lt grows (by omega))
    have more := tripped.length
    have stays := tripped.keeps (other := .alarm a) (by simp [keyOf]) announced.stands
    have tripStands := tripped.stands
    have still := tripped.mode.trans here
    have sameGuard : (queueNotice .trip 7 { u with ftu := { u.ftu with snapshot := some (takeSnapshot u) } }).ogu = s.ogu :=
      (ogu_queueNotice .trip 7 _).trans demand
    generalize queueNotice .trip 7 { u with ftu := { u.ftu with snapshot := some (takeSnapshot u) } } = v at *
    obtain ⟨w, line, stopped⟩ := grown_stopForSafeHold (s := { v with ftu := { v.ftu with safeHold := true } }) still
      (Nat.lt_of_le_of_lt more (by show u.lnu.queue.length + 1 < 8; omega))
    have lineV : w.lnu.queue = v.lnu.queue := congrArg Line.queue line
    refine ⟨stopped.keeps (other := .alarm a) (by simp [keyOf]) (by rw [lineV]; exact stays), fun _ => ⟨stopped.keeps (other := .trip) (by simp [keyOf])
      (by rw [lineV]; exact tripStands), ?_⟩, fun k => (by cases k), kept⟩
    rw [← sameGuard]
    exact stopped.stands

end

end Sys2Proof.Machine

namespace Sys2Proof.Proofs
open Sys2Proof Sys2Proof.Machine

/-- Settles O46: the stroke's fault in STUCK, SPILL passed to where the level calls for it; and a HOLD code entering the set, its
notices entry by entry where the queue has room. -/
theorem strokeTimerFindsStuck : Obligations.StrokeTimerFindsStuck := by
  refine ⟨fun s on due cut unshut refill => ?_, ?_⟩
  · have a : arises .strokeTimerExpiry s = true :=
      arises_and (arises_and (arises_and on (runOut_iff.mpr due)) (by simp [cut])) (by simp [unshut])
    have answer : exec .strokeTimerExpiry s = .next (event (effect .strokeTimerExpiry) s) := exec_of_arises a
    have after : quiet (event (effect .strokeTimerExpiry) s) = quiet (strokeExpires (beginEvent s)) :=
      (quiet_event _ _).trans (quiet_fillFollows _)
    rw [strokeExpires_of_unshut (s := beginEvent s) unshut refill] at after
    have called : spillCalled false (beginEvent s) = true ↔ s.msu.level = .fresh ∧ (setting s).hOvf ≤ s.msu.lf :=
      spillCalled_iff.trans ⟨fun k => k.elim (fun f => absurd f (by decide)) id, .inr⟩
    have raised : Raised .inletStuck s (struck (beginEvent s)) :=
      raised_of_flags (codeFlags_of_faultFlags _ (faultFlags_striking (beginEvent s))) (raised_raiseCondition _ _)
    have stands := posture_struck (beginEvent s)
    have unnotedAfter : unnoted (event (effect .strokeTimerExpiry) s) = unnoted (struck (beginEvent s)) := by
      refine (unnoted_of_quiet after).trans ?_
      split
      · exact unnoted_enterSpill _
      · rfl
    have flagsAfter : faultFlags (event (effect .strokeTimerExpiry) s) = faultFlags (struck (beginEvent s)) :=
      (congrArg (fun f : Faults => (f.condition, f.inSet, f.acked, f.stageMask)) unnotedAfter :)
    have codes := codeFlags_of_faultFlags .inletStuck flagsAfter
    have guard : (event (effect .strokeTimerExpiry) s).ogu =
        (if spillCalled false (beginEvent s) then enterSpill (struck (beginEvent s)) else struck (beginEvent s)).ogu := ogu_of_quiet after
    obtain ⟨total, kept, held, snapshot, frozen⟩ := ftu_struck (beginEvent s)
    have position : (event (effect .strokeTimerExpiry) s).odu.position = s.odu.position := by
      refine (position_of_quiet after).trans ((position_of_watched (s := struck (beginEvent s)) ?_).trans
        (position_of_watched (watched_struck (beginEvent s)) :))
      split
      · exact watched_enterSpill _
      · rfl
    have safe : (event (effect .strokeTimerExpiry) s).ftu.safeHold = (struck (beginEvent s)).ftu.safeHold := safeHold_of_unnoted unnotedAfter
    have sum : (event (effect .strokeTimerExpiry) s).ftu.total = (struck (beginEvent s)).ftu.total := (congrArg Faults.total unnotedAfter :)
    have shot : (event (effect .strokeTimerExpiry) s).ftu.snapshot = (struck (beginEvent s)).ftu.snapshot :=
      (congrArg Faults.snapshot unnotedAfter :)
    have raisedAfter : Raised .inletStuck s (event (effect .strokeTimerExpiry) s) :=
      ⟨(congrArg Prod.fst codes).trans raised.1,
        fun absent => (congrArg (fun x : Bool × Bool × Bool => x.2.1) codes).trans (raised.2 absent)⟩
    have entersNow : (conditionPresent .inletStuck s = false ∧ inFaultSet .inletStuck s = false) ↔
        enters .inletStuck (beginEvent s) = true := enters_iff.symm
    have second : (conditionPresent .inletStuck s = false ∧ inFaultSet .inletStuck s = false) ∧ s.ftu.safeHold = false ∧
        (inFaultSet .inletLeak s = true ∨ inFaultSet .stopUnconfirmed s = true) ↔ secondStuck (beginEvent s) := Iff.rfl
    have demand : StopsInSafeHold s → ∃ d, (struck (beginEvent s)).ogu.stop = some d ∧
        d.cause = if (struck (beginEvent s)).ftu.safeHold = true then .safe else .stuck := fun stops => stop_struck (s := beginEvent s) stops
    have stopped : (struck (beginEvent s)).ogu.stop.isSome = true := by
      rcases stop_raiseCondition (stop_striking (beginEvent s)) .inletStuck with k | k <;> exact congrArg Option.isSome k
    have measured : (event (effect .strokeTimerExpiry) s).msu = s.msu := msu_taken a (by simp) (by simp) (by simp)
    have inputs : (event (effect .strokeTimerExpiry) s).ilu = s.ilu := ilu_taken (c := .strokeTimerExpiry) rfl s
    have peers : (event (effect .strokeTimerExpiry) s).ptb = s.ptb := ptb_taken (c := .strokeTimerExpiry) rfl s
    refine ⟨_, answer, ?_⟩
    generalize event (effect .strokeTimerExpiry) s = t at *
    have guardFacts : t.ogu.hold = .stuck ∧ t.ogu.stroke = none ∧
        t.ogu.state = (if s.msu.level = .fresh ∧ (setting s).hOvf ≤ s.msu.lf then .spill else .stuck) ∧ t.ogu.stop.isSome = true ∧
        (StopsInSafeHold s → ∃ d, t.ogu.stop = some d ∧
          d.cause = (if t.ftu.safeHold = true then .safe else
            if s.msu.level = .fresh ∧ (setting s).hOvf ≤ s.msu.lf then .spill else .stuck) ∧
          (s.msu.level = .fresh ∧ (setting s).hOvf ≤ s.msu.lf → d.urgency = 7)) := by
      rw [guard, safe]
      by_cases spills : s.msu.level = .fresh ∧ (setting s).hOvf ≤ s.msu.lf
      · rw [if_pos (called.mpr spills), if_pos spills, if_pos spills]
        have posture := posture_enterSpill (struck (beginEvent s))
        refine ⟨(congrArg (fun x => x.2.1) posture).trans (congrArg (fun x => x.2.1) stands), congrArg (fun x => x.2.2.1) posture,
          congrArg Prod.fst posture, by rw [stop_enterSpill]; rfl, fun stops => ⟨_, stop_enterSpill _, ?_, fun _ => ?_⟩⟩
        · obtain ⟨d, on, cause⟩ := demand stops
          rw [on]
          show (if (struck (beginEvent s)).ftu.safeHold = true then d.cause else _) = _
          split
          next yes => rw [cause, if_pos yes]
          next => rfl
        · cases (struck (beginEvent s)).ogu.stop <;> rfl
      · rw [if_neg (mt called.mp spills), if_neg spills, if_neg spills]
        refine ⟨congrArg (fun x => x.2.1) stands, congrArg (fun x => x.2.2.1) stands, congrArg Prod.fst stands, stopped,
          fun stops => ?_⟩
        obtain ⟨d, on, cause⟩ := demand stops
        exact ⟨d, on, cause, fun k => absurd k spills⟩
    obtain ⟨hold, stroke, state, stop, cause⟩ := guardFacts
    refine ⟨hold, stroke, raisedAfter, state, stop, cause, ⟨fun e => sum.trans (total (entersNow.mp e)),
      fun e => sum.trans (kept (Bool.eq_false_iff.mpr (mt entersNow.mpr e))), by rw [safe]; exact held,
      fun k => shot.trans (snapshot k), fun k => ?_⟩, measured, inputs, peers, position⟩
    obtain ⟨lf, level, volume, state, faults, mask, capacity, elapsed⟩ := takeSnapshot_entered .inletStuck (striking (beginEvent s))
    have before := watched_striking (beginEvent s)
    have msu : (striking (beginEvent s)).msu = s.msu := (congrArg (fun b : Beside => b.state.msu) before :)
    have ptb : (striking (beginEvent s)).ptb = s.ptb := (congrArg (fun b : Beside => b.state.ptb) before :)
    refine ⟨_, shot.trans (frozen k), state.trans (congrArg Prod.fst (posture_striking (beginEvent s))), by rw [lf, msu],
      by rw [level, msu], by rw [volume, msu], by rw [capacity, ptb], by rw [elapsed, msu],
      mask.trans (stageMask_of_faultFlags (faultFlags_striking (beginEvent s)) :), fun c => ?_,
      fun room => snapshot_room (s := beginEvent s) on room⟩
    have standing : (striking (beginEvent s)).ftu.inSet = s.ftu.inSet :=
      (congrArg (fun v : Vector Bool 13 × Vector Bool 13 × Vector Bool 13 × Vector Bool 4 => v.2.1) (faultFlags_striking (beginEvent s)) :)
    rw [faults, standing]
    by_cases same : c = .inletStuck
    · subst same; rw [getElem_put_same]; rfl
    · rw [getElem_put_ne _ fun k => same (faultIndex_injective k).symm]
      simp [same, inFaultSet]
  · intro x mem s on absent out room
    have code : holdAlarm x.1 = some x.2.1 ∧ isHold x.1 = true ∧ (if x.1 = .stopUnconfirmed then 7 else 6) = x.2.2 := by
      simp only [List.mem_cons, List.not_mem_nil, or_false] at mem
      rcases mem with rfl | rfl | rfl <;> exact ⟨rfl, rfl, rfl⟩
    obtain ⟨alarm, hold, urgency⟩ := code
    have e : enters x.1 s = true := enters_iff.mpr ⟨absent, out⟩
    obtain ⟨queued, further, calm, claims, notes⟩ := stands_raiseCondition alarm on e room
    have second : secondHold x.1 s = true ↔ s.ftu.safeHold = false ∧
        (inFaultSet .inletStuck s = true ∨ inFaultSet .inletLeak s = true ∨ inFaultSet .stopUnconfirmed s = true) := by
      unfold secondHold
      rw [hold, Bool.true_and, Bool.and_eq_true, anyHold_iff, Bool.not_eq_true', and_comm]
    have flags := codeFlags_raiseCondition x.1 x.1 s
    rw [if_pos ⟨rfl, absent⟩, out, Bool.false_and] at flags
    have unit := unnoted_raiseCondition e
    have total : (raiseCondition x.1 s).ftu.total = min 65535 (s.ftu.total + 1) := by
      split at unit <;> exact (congrArg Faults.total unit :)
    have ogu := ogu_raiseCondition x.1 s
    rw [e, Bool.true_and] at ogu
    refine ⟨congrArg Prod.fst flags, congrArg (fun y : Bool × Bool × Bool => y.2.1) flags,
      congrArg (fun y : Bool × Bool × Bool => y.2.2) flags, total, urgency ▸ queued, fun k => ?_, fun k => ?_⟩
    · have none : secondHold x.1 s = false := Bool.eq_false_iff.mpr (mt second.mp k)
      rw [none] at ogu
      exact ⟨(calm none).1, (calm none).2, ogu⟩
    · have yes := second.mpr k
      rw [if_pos yes] at ogu unit
      have held : (raiseCondition x.1 s).ftu.safeHold = true := (congrArg Faults.safeHold unit :)
      have shot : (raiseCondition x.1 s).ftu.snapshot = some (takeSnapshot (announceHold x.1 (faultEntered x.1 s))) :=
        (congrArg Faults.snapshot unit :)
      obtain ⟨trip, stop⟩ := further yes
      obtain ⟨lf, level, volume, guard, faults, mask, capacity, elapsed⟩ := takeSnapshot_entered x.1 s
      refine ⟨held, trip, stop, ?_, ?_, shot.trans (congrArg some ?_)⟩
      · rw [ogu]; unfold safeDemand; cases s.ogu.stop <;> rfl
      · rw [ogu]; unfold safeDemand; cases s.ogu.stop <;> rfl
      · unfold takeSnapshot at lf level volume guard faults mask capacity elapsed ⊢
        dsimp only at lf level volume guard faults mask capacity elapsed
        rw [lf, level, volume, guard, faults, mask, capacity, elapsed, claims, notes]

end Sys2Proof.Proofs
end

section
/-! PROOFS. The fill states: the plan-time transitions row by row, what entering a state asks and withdraws, and the block causes. -/

namespace Sys2Proof.Machine

/-! ### The mark of a change of the machine's state -/

/-- The mark that a due event is owed (R177). -/
def seen (s : State) : Bool := s.rpu.changeSeen

@[simp] theorem seen_emit (h : HandOn) (s : State) : seen (emit h s) = seen s := rfl
@[simp] theorem seen_setOwn (r : Resource) (c : OwnClaim) (s : State) : seen (setOwn r c s) = seen s := by cases r <;> rfl

@[simp] theorem seen_setEntry (r : Resource) (n : Nat) (e : Option Holding) (s : State) : seen (setEntry r n e s) = seen s := by
  unfold setEntry; split <;> cases r <;> rfl

@[simp] theorem seen_claimBackToWaiting (r : Resource) (s : State) : seen (claimBackToWaiting r s) = seen s := by
  unfold claimBackToWaiting; dsimp only; (repeat' split) <;> simp

theorem seen_giveUp {release : State → State} (h : ∀ t, seen (release t) = seen t) (r : Resource) (s : State) :
    seen (giveUp release r s) = seen s := by
  have told : ∀ t, seen (tellLost r t) = seen t := by intro t; cases r <;> rfl
  simp [giveUp, told, h, dropOwnEntry]

theorem seen_dropNotice {release : Resource → State → State} (h : ∀ r t, seen (release r t) = seen t) (item : Outgoing)
    (s : State) : seen (dropNotice release item s) = seen s := by
  have noted : seen (noteOccurrence s) = seen s := rfl
  have skipped : seen (reportDropped (noteOccurrence s)) = seen s := rfl
  have marked : ∀ q, seen (markIncompleteFor q (noteOccurrence s)) = seen s := by
    intro q
    unfold markIncompleteFor setIncomplete
    split
    next r => cases r <;> rfl
    next => rfl
  unfold dropNotice tellDropped
  (repeat' split) <;> simp only [seen_giveUp (h _), seen_claimBackToWaiting, seen_emit, noted, skipped, marked]

theorem seen_queueNew {release : Resource → State → State} (h : ∀ r t, seen (release r t) = seen t) (item : Outgoing) (u : Nat)
    (s : State) : seen (queueNew release item u s) = seen s := by
  have entered : ∀ t, seen (enqueue item u t) = seen t := fun t => rfl
  unfold queueNew
  (repeat' split) <;> simp [seen_dropNotice h, entered]
  rfl

theorem seen_queueWith {release : Resource → State → State} (h : ∀ r t, seen (release r t) = seen t) (item : Outgoing) (u : Nat)
    (s : State) : seen (queueWith release item u s) = seen s := by
  have renewed : ∀ e, seen (queueOver item u e s) = seen s := by intro e; unfold queueOver; (repeat' split) <;> rfl
  unfold queueWith claimRefused
  (repeat' split) <;> simp [seen_queueNew h, renewed]

theorem seen_queueRelease (n : Nat) (r : Resource) (s : State) : seen (queueRelease n r s) = seen s := by
  induction n generalizing r s with
  | zero => rfl
  | succ n ih => exact seen_queueWith ih _ _ _

@[simp] theorem seen_queueNotice (item : Outgoing) (u : Nat) (s : State) : seen (queueNotice item u s) = seen s :=
  seen_queueWith (seen_queueRelease 2) item u s

@[simp] theorem seen_announce (r : Resource) (s : State) : seen (announce r s) = seen s := by
  unfold announce; dsimp only; (repeat' split) <;> simp

@[simp] theorem seen_changeUrgency (r : Resource) (u : Nat) (s : State) : seen (changeUrgency r u s) = seen s := by
  unfold changeUrgency ownEntryUrgency; dsimp only; (repeat' split) <;> simp

@[simp] theorem seen_withdrawOwn (r : Resource) (s : State) : seen (withdrawOwn r s) = seen s := by
  unfold withdrawOwn dropOwnEntry; split <;> simp

@[simp] theorem seen_askFresh (r : Resource) (a u : Nat) (s : State) : seen (askFresh r a u s) = seen s := by simp [askFresh]

@[simp] theorem seen_askAmount (r : Resource) (a : Nat) (s : State) : seen (askAmount r a s) = seen s := by
  unfold askAmount lowerOwn raiseOwn; dsimp only; (repeat' split) <;> simp

@[simp] theorem seen_askOwn (r : Resource) (a u : Nat) (s : State) : seen (askOwn r a u s) = seen s := by
  unfold askOwn; (repeat' split) <;> simp

/-! ### A fill state entered (R107) -/

/-- A state entered is a change of the machine's state. -/
theorem seen_setFill {new : FillState} {s : State} (ne : s.flc.state ≠ new) : seen (setFill new s) = true := by
  have moved : seen (moveFill new s) = true := rfl
  unfold setFill
  dsimp only
  rw [if_neg ne]
  (repeat' split) <;> simp [moved]

theorem causes_setFill (new : FillState) (s : State) : (setFill new s).flc.causes = s.flc.causes := by
  by_cases same : s.flc.state = new
  · unfold setFill; rw [if_pos same]
  · rw [flc_setFill same]; rfl

/-- A claim withdrawn stands in NONE. -/
theorem own_withdrawOwn (r : Resource) (s : State) : (own r (withdrawOwn r s)).state = .none := by
  have reset : ∀ t, (own r (setOwn r .atReset t)).state = .none := by intro t; rw [own_setOwn_same]; rfl
  unfold withdrawOwn
  split
  next none => exact none
  next => exact reset s
  next =>
    rw [own_of_side (side_queueNotice_release 5 _ rfl)]
    exact reset s
  next =>
    rw [own_of_side (side_queueNotice_release 5 _ rfl)]
    unfold dropOwnEntry
    rw [own_setEntry]
    exact reset s

/-- What the drops make of a claim that is announced: it stays announced or waits again, as it was asked. -/
theorem announced_of_sinks {c : OwnClaim} {e : Option Holding} (announcing : c.state = .announcing) {y : OwnClaim × Option Holding}
    (noRaise : c.raise = none) (h : Sinks (c, e) y) :
    (y.1.state = .waiting ∨ y.1.state = .announcing) ∧ y.1.amount = c.amount ∧ y.1.urgency = c.urgency ∧ y.1.raise = none := by
  induction h with
  | refl => exact ⟨.inr announcing, rfl, rfl, noRaise⟩
  | waits _ _ ih => exact ⟨.inl rfl, ih.2⟩
  | raiseWaits _ raised _ ih => exact absurd (raised.symm.trans ih.2.2.2) nofun
  | lost _ held ih => rcases ih.1 with h | h <;> exact absurd (held.symm.trans h) nofun

/-- A WAITING claim without a raise stays WAITING or is announced, as it was asked (R85). -/
theorem own_announce {r : Resource} {s : State} (waiting : (own r s).state = .waiting) (noRaise : (own r s).raise = none) :
    ((own r (announce r s)).state = .waiting ∨ (own r (announce r s)).state = .announcing) ∧
      (own r (announce r s)).amount = (own r s).amount ∧ (own r (announce r s)).urgency = (own r s).urgency := by
  by_cases may : mayAnnounce r (own r s).amount s = true
  · rw [announce_of_waiting waiting may]
    have sinks := sinks_queueNotice (.claim r false) (own r s).urgency
      (Sinks.refl (x := standing r (setOwn r { own r s with state := .announcing } s)))
    rw [standing_setOwn] at sinks
    obtain ⟨state, amount, urgency, _⟩ := announced_of_sinks (c := { own r s with state := .announcing }) rfl noRaise sinks
    exact ⟨state, amount, urgency⟩
  · have stays : announce r s = s := by
      unfold announce
      dsimp only
      rw [waiting]
      exact if_neg may
    rw [stays]
    exact ⟨.inl waiting, rfl, rfl⟩

/-- A new claim waits or is announced, as it was asked (R83). -/
theorem own_askFresh (r : Resource) (a u : Nat) (s : State) :
    ((own r (askFresh r a u s)).state = .waiting ∨ (own r (askFresh r a u s)).state = .announcing) ∧
      (own r (askFresh r a u s)).amount = a ∧ (own r (askFresh r a u s)).urgency = u := by
  have asked : own r (setOwn r { OwnClaim.atReset with state := .waiting, amount := a, urgency := u } s) =
      { OwnClaim.atReset with state := .waiting, amount := a, urgency := u } := own_setOwn_same r _ s
  have entered := own_announce (s := setOwn r { OwnClaim.atReset with state := .waiting, amount := a, urgency := u } s)
    (by rw [asked]) (by rw [asked]; rfl)
  rw [asked] at entered
  exact entered

/-- The states in which the SUPPLY claim stands asked are all but REST, WAIT, a relief fill and BLOCKED. -/
theorem holdsRequest_iff (f : FillState) :
    holdsRequest f = true ↔ f ≠ .rest ∧ f ≠ .wait ∧ f ≠ .fill .relief ∧ f ≠ .blocked := by
  cases f with
  | fill why => cases why <;> simp [holdsRequest]
  | _ => simp [holdsRequest]

theorem isFill_iff (f : FillState) : isFill f = true ↔ ∃ why, f = .fill why := by cases f <;> simp [isFill]

section
variable {new : FillState} {s : State}

/-- A claim that no longer stands asked is withdrawn. -/
theorem setFill_withdraws (old : holdsRequest s.flc.state = true) (unasked : ¬ holdsRequest new = true) :
    setFill new s = withdrawOwn .supply (moveFill new s) := by
  have ne : s.flc.state ≠ new := fun same => unasked (same ▸ old)
  unfold setFill
  dsimp only
  rw [if_neg ne]
  split
  next => exact absurd rfl unasked
  next => exact absurd rfl unasked
  next => exact absurd rfl unasked
  next => exact if_pos old

/-- A state entered with the claim standing asked leaves the claim alone. -/
theorem setFill_continues (ne : s.flc.state ≠ new) (old : holdsRequest s.flc.state = true) (asked : holdsRequest new = true) :
    setFill new s = moveFill new s := by
  unfold setFill
  dsimp only
  rw [if_neg ne]
  split
  next => exact if_pos old
  next => rfl
  next => rfl
  next n1 n2 n3 =>
    cases new with
    | claim why => exact absurd rfl (n1 why)
    | fill why => cases why with
      | tariff => exact absurd rfl n2
      | turnover => exact absurd rfl n3
      | relief => cases asked
    | _ => cases asked

/-- A CLAIM state entered with no claim standing asks for one. -/
theorem setFill_asks {why : ClaimReason} (old : ¬ holdsRequest s.flc.state = true) (none : s.clu.ownSupply.state = .none) :
    setFill (.claim why) s = askFresh .supply 1 (claimAskUrgency why s) (moveFill (.claim why) s) := by
  have ne : s.flc.state ≠ .claim why := fun same => old (by rw [same]; rfl)
  have asked : askOwn .supply 1 (claimAskUrgency why s) (moveFill (.claim why) s) =
      askFresh .supply 1 (claimAskUrgency why s) (moveFill (.claim why) s) := by
    unfold askOwn
    rw [if_neg (by decide), if_pos (show (own .supply (moveFill (.claim why) s)).state = .none from none)]
    rfl
  unfold setFill
  dsimp only
  rw [if_neg ne, if_neg old, asked]

end

/-! ### The plan-time transitions (R108, R110, R114) -/

/-- The relief conditions, with the refill level written out (R114). -/
theorem reliefHolds_iff (s : State) : reliefHolds s = true ↔ (ordersNow s).relief = true ∧ s.ptb.anySpill = true ∧
    s.msu.lf ≤ max 0 ((setting s).hHi - (setting s).hHys) - (setting s).reliefMargin ∧ s.ogu.state = .watch := by
  unfold reliefHolds
  rw [Bool.and_eq_true, Bool.and_eq_true, Bool.and_eq_true, decide_eq_true_iff, beq_iff_eq, and_assoc, and_assoc]
  rfl

theorem onlyNotJoined_iff (c : BlockCauses) : onlyNotJoined c = true ↔
    c = { guard := false, maint := false, level := false, safeHold := false, inlet := false, notJoined := true } := by
  obtain ⟨g, m, l, h, i, n⟩ := c
  simp [onlyNotJoined, and_assoc]

theorem noCause_iff (c : BlockCauses) : noCause c = true ↔
    c = { guard := false, maint := false, level := false, safeHold := false, inlet := false, notJoined := false } := by
  obtain ⟨g, m, l, h, i, n⟩ := c
  simp [noCause, and_assoc]

/-- In REST and WAIT the first row whose conditions hold is taken. -/
theorem state_planStep_resting {s : State} (h : s.flc.state = .rest ∨ s.flc.state = .wait) :
    (planStep s).flc.state = restRow s := by
  unfold planStep
  rcases h with h | h <;> rw [h] <;> exact state_setFill _ s

/-- In BLOCKED a relief fill begins where not joined is the only cause. -/
theorem state_planStep_blocked {s : State} (h : s.flc.state = .blocked) :
    (planStep s).flc.state = if onlyNotJoined s.flc.causes && reliefHolds s then .fill .relief else .blocked := by
  unfold planStep reliefStart
  rw [h]
  dsimp only
  split
  · exact state_setFill _ s
  · exact h

theorem causes_planStep (s : State) : (planStep s).flc.causes = s.flc.causes := by
  unfold planStep reliefStart
  (repeat' split) <;> first
    | rfl
    | exact causes_setFill _ s

theorem flc_handUrgency (s : State) : (handUrgency s).flc = s.flc := by
  unfold handUrgency
  split
  · exact flc_of_beside (beside_changeUrgency _ _ _)
  · exact flc_of_beside (beside_changeUrgency _ _ _)
  · rfl

theorem causes_planAndStep (handsSlack : Bool) (s : State) : (planAndStep handsSlack s).flc.causes = s.flc.causes := by
  unfold planAndStep
  rw [causes_planStep, flc_handUrgency]
  unfold replan
  dsimp only
  split <;> rfl

/-! ### The block causes (R116, R117) -/

/-- The causes as the statement lists them. -/
theorem causesNow_eq (s : State) : causesNow s = {
    guard := decide (s.ogu.state ≠ .watch), maint := debounced .maint s, level := decide (s.msu.level ≠ .fresh)
    safeHold := s.ftu.safeHold, inlet := conditionPresent .inletNoOpen s, notJoined := decide (s.sld.mode ≠ .joined) } := by
  have guard : (s.ogu.state != .watch) = decide (s.ogu.state ≠ .watch) := by cases s.ogu.state <;> decide
  have level : (!levelValid s) = decide (s.msu.level ≠ .fresh) := by unfold levelValid; cases s.msu.level <;> decide
  have mode : (s.sld.mode != .joined) = decide (s.sld.mode ≠ .joined) := by cases s.sld.mode <;> decide
  show BlockCauses.mk _ _ _ _ _ _ = _
  rw [guard, level, mode]

/-- The state with its block causes as their owners now stand. -/
def caused (s : State) : State := { s with flc := { s.flc with causes := causesNow s } }

theorem takeCauses_eq (s : State) : takeCauses s =
    if noCause (causesNow s) then if s.flc.state = .blocked then planAndStep true (setFill .rest (caused s)) else caused s
    else if s.flc.state = .fill .relief ∧ onlyNotJoined (causesNow s) = true then caused s
    else setFill .blocked (caused s) := rfl

theorem causes_takeCauses (s : State) : (takeCauses s).flc.causes = causesNow s := by
  rw [takeCauses_eq]
  (repeat' split)
  · rw [causes_planAndStep, causes_setFill]; rfl
  · rfl
  · rfl
  · rw [causes_setFill]; rfl

end Sys2Proof.Machine

namespace Sys2Proof.Proofs

open Sys2Proof Sys2Proof.Machine

/-- The rows of the plan-time table (R108, R110, R114). -/
theorem fill_rows (s : State) :
    let refill := max 0 ((setting s).hHi - (setting s).hHys)
    let relief := (ordersNow s).relief = true ∧ s.ptb.anySpill = true ∧ s.msu.lf ≤ refill - (setting s).reliefMargin ∧
      s.ogu.state = .watch
    let needed := s.flc.night = true ∧ s.flc.plan.need = true
    let turnover := s.frc.turnoverRequest = true ∧ (ordersNow s).turnover = true
    let room := s.msu.lf ≤ refill - (setting s).turnoverAmount
    (relief → restRow s = .fill .relief) ∧
      (¬ relief → needed ∧ s.flc.plan.slack ≤ (setting s).tDefer → restRow s = .claim .tariff) ∧
      (¬ relief → ¬ (needed ∧ s.flc.plan.slack ≤ (setting s).tDefer) →
        (turnover ∧ room → restRow s = .claim .turnover) ∧ (¬ (turnover ∧ room) → needed → restRow s = .wait) ∧
        (¬ (turnover ∧ room) → ¬ needed → restRow s = .rest)) := by
  have relief := reliefHolds_iff s
  dsimp only
  rw [← relief]
  unfold restRow turnoverRoom refillLevel
  simp only [Bool.and_eq_true, decide_eq_true_eq]
  refine ⟨fun r => if_pos r, fun r n => ?_, fun r n => ⟨fun t => ?_, fun t n' => ?_, fun t n' => ?_⟩⟩ <;> rw [if_neg r]
  · exact if_pos n
  · rw [if_neg n, if_pos t]
  · rw [if_neg n, if_neg t, if_pos n']
  · rw [if_neg n, if_neg t, if_neg n']

/-- Settles O44: row by row of the table, then by the two ways a state entered asks or withdraws. -/
theorem fillStateMoves : Obligations.FillStateMoves := by
  unfold Obligations.FillStateMoves
  refine ⟨fun s => ?rows, fun new s ne => ?entered, fun s => ?told, fun s => ?causes⟩
  case rows =>
    have relief := reliefHolds_iff s
    refine ⟨fun resting => ?_, fun claim => ⟨fun ended => ?_, fun need short => ?_⟩, fun claim => ⟨fun asked => ?_, fun gone => ?_⟩,
      fun fill => ⟨fun reached => ?_, fun short => ?_⟩, fun fill => ?_, fun blocked => ⟨fun r c => ?_, fun other => ?_⟩⟩
    · rw [state_planStep_resting resting]
      exact fill_rows s
    · unfold planStep
      rw [claim]
      dsimp only
      rw [if_pos (by simpa [targetReached] using ended)]
      exact state_setFill _ s
    · unfold planStep
      rw [claim]
      dsimp only
      rw [if_neg (by simpa [targetReached, need] using short)]
      exact claim
    · unfold planStep
      rw [claim]
      dsimp only
      rw [if_pos (by simpa using asked)]
      exact claim
    · unfold planStep
      rw [claim]
      dsimp only
      rw [if_neg (by simpa using gone)]
      exact state_setFill _ s
    · unfold planStep
      rw [fill]
      dsimp only
      rw [if_pos (by simpa [targetReached] using reached)]
      exact state_setFill _ s
    · unfold planStep
      rw [fill]
      dsimp only
      rw [if_neg (by simpa [targetReached] using short)]
      exact fill
    · unfold planStep
      rcases fill with fill | fill <;> rw [fill] <;> exact fill
    · rw [state_planStep_blocked blocked, if_pos]
      rw [Bool.and_eq_true, onlyNotJoined_iff, relief]
      exact ⟨c, r⟩
    · rw [state_planStep_blocked blocked, if_neg]
      rw [Bool.and_eq_true, onlyNotJoined_iff, relief]
      exact fun both => other.elim (fun r => r both.2) (fun c => c both.1)
  case entered =>
    dsimp only
    refine ⟨state_setFill new s, ?_, seen_setFill ne, fun old unasked => ?_, fun why claim unasked none => ?_, fun old asked => ?_⟩
    · rw [flc_setFill ne]
      exact isFill_iff new
    · rw [setFill_withdraws ((holdsRequest_iff _).mpr old) (fun h => unasked ((holdsRequest_iff _).mp h))]
      exact own_withdrawOwn .supply _
    · subst claim
      rw [setFill_asks (fun h => unasked ((holdsRequest_iff _).mp h)) none]
      obtain ⟨state, amount, urgency⟩ := own_askFresh .supply 1 (claimAskUrgency why s) (moveFill (.claim why) s)
      refine ⟨state, amount, urgency.trans ?_⟩
      cases why <;> rfl
    · rw [setFill_continues ne ((holdsRequest_iff _).mpr old) ((holdsRequest_iff _).mpr asked)]
      rfl
  case told =>
    unfold fillGranted fillLost
    constructor
    · cases is : s.flc.state with
      | claim why => cases why <;> exact state_setFill _ s
      | _ => exact is
    · cases is : s.flc.state with
      | fill why =>
        cases why with
        | tariff => exact state_setFill _ s
        | turnover => exact state_setFill _ s
        | relief => exact is
      | _ => exact is
  case causes =>
    dsimp only
    rw [← causesNow_eq]
    refine ⟨causes_takeCauses s, fun none other => ?_, fun none blocked => ?_, fun some fill only => ?_, fun some other => ?_⟩ <;>
      rw [takeCauses_eq]
    · rw [if_pos ((noCause_iff _).mpr none), if_neg other]; rfl
    · rw [if_pos ((noCause_iff _).mpr none), if_pos blocked]; rfl
    · rw [if_neg (fun h => some ((noCause_iff _).mp h)), if_pos ⟨fill, (onlyNotJoined_iff _).mpr only⟩]; exact fill
    · rw [if_neg (fun h => some ((noCause_iff _).mp h)), if_neg (fun h => other.elim (fun n => n h.1) (fun n => n ((onlyNotJoined_iff _).mp h.2)))]
      exact state_setFill _ _

end Sys2Proof.Proofs
end

section
/-! PROOFS. The frost controller: the air state and the critical flag of a sample, and what an evaluation decides stage by stage. -/

namespace Sys2Proof.Machine

/-! ### The air state and the critical flag of a second (R146, R147) -/

/-- The air state and the critical flag. -/
def cold (s : State) : Bool × Bool := (s.frc.airWatch, s.frc.critical)

section
variable {s t : State}

theorem cold_of_quiet (h : quiet t = quiet s) : cold t = cold s := congrArg (fun q : Quiet => (q.airWatch, q.critical)) h

theorem cold_of_watched (h : watched t = watched s) : cold t = cold s := by unfold cold; rw [frc_of_watched h]

theorem cold_withdrawTurnover (s : State) : cold (withdrawTurnover s) = cold s := by
  have entered : ∀ new u, cold (setFill new u) = cold u := fun new u => cold_of_quiet (quiet_setFill new u)
  unfold withdrawTurnover
  dsimp only
  split
  · split
    · exact (entered _ _).trans rfl
    · exact (entered _ _).trans rfl
    · rfl
  · rfl

theorem cold_fillSample (s : State) : cold (fillSample s) = cold s := by
  have causes : cold (takeCauses s) = cold s := cold_of_quiet (quiet_takeCauses s)
  have entered : cold (setFill .rest (takeCauses s)) = cold s := (cold_of_quiet (quiet_setFill _ _)).trans causes
  unfold fillSample
  dsimp only
  split
  · split; exacts [entered, causes]
  · split; exacts [entered, causes]
  · split; exacts [(cold_withdrawTurnover _).trans entered, causes]
  · exact (cold_of_quiet (quiet_reliefEnd _)).trans causes
  · exact causes

theorem cold_beforeSample (p tw tr ta : AnalogCode) (s : State) : cold (beforeSample p tw tr ta s) = cold s := by
  have pending : cold (takePending s) = cold s := cold_of_quiet (by unfold takePending; split <;> simp)
  have set : ∀ c present u, cold (setCondition c present u) = cold u := fun c present u =>
    cold_of_watched (watched_setCondition c present u)
  have pressure : ∀ u, cold (samplePressure p u) = cold u := by
    intro u
    unfold samplePressure
    split
    · exact (set .lvlSensor false _).trans rfl
    · exact (set .lvlSensor true _).trans rfl
  unfold beforeSample sampleTemperatures
  refine Eq.trans (b := cold (samplePressure p (takePending s))) ?_ ((pressure _).trans pending)
  exact (set _ _ _).trans ((set _ _ _).trans ((set _ _ _).trans rfl))

theorem cold_sampleWishes (s : State) : cold (sampleWishes s) = cold s := by unfold sampleWishes; split <;> rfl

theorem cold_turnoverWarm (s : State) : cold (turnoverWarm s) = cold s := by
  unfold turnoverWarm
  split
  · exact cold_withdrawTurnover s
  · rfl

/-- A sample judges the air and the critical flag; the evaluation leaves both. -/
theorem cold_frostSample (s : State) : cold (frostSample s) = (airAfter s, criticalAfter s) := by
  unfold frostSample
  exact (cold_of_quiet (quiet_frostEvaluate _)).trans ((cold_sampleWishes _).trans ((cold_turnoverWarm _).trans rfl))

/-- The state in which the frost controller takes a sample. -/
def beforeFrost (p tw tr ta : AnalogCode) (s : State) : State := fillSample (guardSample (beforeSample p tw tr ta s))

theorem cold_beforeFrost (p tw tr ta : AnalogCode) (s : State) : cold (beforeFrost p tw tr ta s) = cold s :=
  (cold_fillSample _).trans ((cold_of_watched (watched_guardSample _)).trans (cold_beforeSample p tw tr ta s))

theorem ilu_beforeFrost (p tw tr ta : AnalogCode) (s : State) : (beforeFrost p tw tr ta s).ilu = s.ilu := by
  have pressure : (samplePressure p (takePending s)).ilu = s.ilu := by
    unfold samplePressure; split <;> simp
  unfold beforeFrost beforeSample sampleTemperatures
  simp [pressure]

theorem steady_beforeFrost (p tw tr ta : AnalogCode) (s : State) :
    steady (beforeFrost p tw tr ta s) = steady (takeSamples p tw tr ta s) := by
  rw [takeSamples_eq]
  unfold beforeFrost
  simp

theorem cold_countTimers (s : State) : cold (countTimers s) = cold s := by
  have table : ∀ r v u, (setTable r v u).frc = u.frc := by intro r v u; cases r <;> rfl
  have frc : (countTimers s).frc = s.frc := by
    unfold countTimers countReport countClaims countTable
    dsimp only
    rw [table, table]
  unfold cold
  rw [frc]

/-- A channel sampled is GOOD or HELD. -/
theorem channelAfter_read (t : Int) (c : TempChannel) : (channelAfter t c).state ≠ .unread := by
  unfold channelAfter; split <;> exact nofun

/-- The air state where the channel has been read (R146). -/
theorem airAfter_of_read (read : s.msu.ta.state ≠ .unread) : airAfter s = (if s.msu.ta.state = .held then true
    else if s.frc.airWatch then decide (s.msu.ta.value < (setting s).tAirOn + 20)
    else decide (s.msu.ta.value ≤ (setting s).tAirOn)) := by
  unfold airAfter
  cases state : s.msu.ta.state with
  | unread => exact absurd state read
  | held => rfl
  | good => rfl

/-- The critical flag where the channel has been read (R147). -/
theorem criticalAfter_of_read (read : s.msu.tr.state ≠ .unread) : criticalAfter s =
    (if latchSet .frostgrp s = true ∨ s.msu.tr.state = .good ∧ s.msu.tr.value ≤ (setting s).tCrit then true
    else if s.msu.tr.state = .good then (if (setting s).tCrit + 10 ≤ s.msu.tr.value then false else s.frc.critical)
    else s.frc.critical && [0, 1, 2, 3].any (fun k : Fin 4 => debounced (.fst k) s)) := by
  unfold criticalAfter
  dsimp only
  simp only [Bool.or_eq_true, Bool.and_eq_true, beq_iff_eq, decide_eq_true_eq]
  split
  · rfl
  · cases state : s.msu.tr.state with
    | unread => exact absurd state read
    | good => rfl
    | held =>
      show (if latchCause .frostgrp s = true then _ else _) = (s.frc.critical && latchCause .frostgrp s)
      cases latchCause .frostgrp s <;> simp
end

/-! ### What commands to the stages do (R35, R153) -/

/-- What commands to the stages leave: all but the stages and what is handed on. -/
def unstaged (s : State) : State :=
  { s with handOns := [], odu := { s.odu with stages := .replicate 4 .atReset } }

section
variable {s t : State} {k j : Fin 4}

theorem unstaged_commandStage (k : Fin 4) (on : Bool) (s : State) : unstaged (commandStage k on s) = unstaged s := by
  unfold commandStage
  dsimp only
  (repeat' split) <;> rfl

theorem frc_of_unstaged (h : unstaged t = unstaged s) : t.frc = s.frc := (congrArg State.frc h :)
theorem clu_of_unstaged (h : unstaged t = unstaged s) : t.clu = s.clu := (congrArg State.clu h :)
theorem lnu_of_unstaged (h : unstaged t = unstaged s) : t.lnu = s.lnu := (congrArg State.lnu h :)
theorem setting_of_unstaged (h : unstaged t = unstaged s) : setting t = setting s := (congrArg setting h :)

theorem command_commandStage (k : Fin 4) (on : Bool) (s : State) : (stageAt k (commandStage k on s)).command = on := by
  unfold commandStage
  dsimp only
  split
  next same => exact same
  next =>
    have set : ∀ x : Stage, stageAt k (setStage k x s) = x := fun x => stageAt_setStage_same k x s
    have moved : ∀ x : Stage, stageAt k (moveStage k x s) = x := fun x => stageAt_moveStage k x s
    cases on <;> (repeat' split) <;> first
      | contradiction
      | rw [moved]
      | rw [set]

theorem stageAt_commandStage_ne (ne : j ≠ k) (on : Bool) (s : State) : stageAt j (commandStage k on s) = stageAt j s := by
  have set : ∀ x : Stage, stageAt j (setStage k x s) = stageAt j s := fun x => stageAt_setStage_ne (Ne.symm ne) x s
  unfold commandStage
  dsimp only
  (repeat' split) <;> first
    | rfl
    | exact set _

/-- A stage commanded OFF no longer proves. -/
theorem proving_commandStage_off (was : (stageAt k s).command = true) :
    (stageAt k (commandStage k false s)).state ≠ .proving := by
  have set : ∀ x : Stage, stageAt k (setStage k x s) = x := fun x => stageAt_setStage_same k x s
  have moved : ∀ x : Stage, stageAt k (moveStage k x s) = x := fun x => stageAt_moveStage k x s
  unfold commandStage
  dsimp only
  rw [was, if_neg nofun, if_neg nofun]
  split
  · split <;> rw [moved] <;> exact nofun
  · rw [moved]; exact nofun
  · rw [set]; assumption

/-- A stage in OFF or DROPPING commanded ON proves (R35). -/
theorem stageAt_commandStage_on (was : (stageAt k s).command = false)
    (idle : (stageAt k s).state = .off ∨ (stageAt k s).state = .dropping) :
    stageAt k (commandStage k true s) = { command := true, state := .proving, timer := some (setting s).proofTime } := by
  have moved : ∀ x : Stage, stageAt k (moveStage k x s) = x := fun x => stageAt_moveStage k x s
  unfold commandStage
  dsimp only
  rw [was, if_neg nofun, if_pos rfl]
  rcases idle with h | h <;> rw [h] <;> exact moved _

/-! ### The drops (R153) -/

/-- One stage of the drops. -/
def shed (kept : List (Fin 4)) (s : State) (k : Fin 4) : State :=
  if (stageAt k s).command && !kept.contains k then commandStage k false s else s

theorem dropStages_eq (s : State) : dropStages s = allStages.foldl (shed (keptStages s)) s := rfl

theorem unstaged_shed (kept : List (Fin 4)) (s : State) (k : Fin 4) : unstaged (shed kept s k) = unstaged s := by
  unfold shed
  split
  · exact unstaged_commandStage k false s
  · rfl

theorem stageAt_shed_ne (ne : j ≠ k) (kept : List (Fin 4)) (s : State) : stageAt j (shed kept s k) = stageAt j s := by
  unfold shed
  split
  · exact stageAt_commandStage_ne ne false s
  · rfl

theorem unstaged_sheds (kept l : List (Fin 4)) (s : State) : unstaged (l.foldl (shed kept) s) = unstaged s := by
  induction l generalizing s with
  | nil => rfl
  | cons k ks ih => exact (ih _).trans (unstaged_shed kept s k)

/-- The stages of a list that are not kept lose their command, and with it what they prove; the others stay as they were. -/
theorem stageAt_sheds (kept l : List (Fin 4)) (s : State) (j : Fin 4) :
    (j ∈ l → (stageAt j s).command = true → j ∉ kept →
      (stageAt j (l.foldl (shed kept) s)).command = false ∧ (stageAt j (l.foldl (shed kept) s)).state ≠ .proving) ∧
    (j ∉ l ∨ (stageAt j s).command = false ∨ j ∈ kept → stageAt j (l.foldl (shed kept) s) = stageAt j s) := by
  induction l generalizing s with
  | nil => exact ⟨nofun, fun _ => rfl⟩
  | cons k ks ih =>
    obtain ⟨lost, stays⟩ := ih (shed kept s k)
    have idle : j ≠ k ∨ (stageAt j s).command = false ∨ j ∈ kept → stageAt j (shed kept s k) = stageAt j s := by
      intro h
      by_cases same : j = k
      · subst same
        unfold shed
        rw [if_neg]
        rcases h with h | h | h
        · exact absurd rfl h
        · simp [h]
        · simp [h]
      · exact stageAt_shed_ne same kept s
    refine ⟨fun mem on unkept => ?_, fun h => ?_⟩
    · by_cases same : j = k
      · subst same
        have dropped : shed kept s j = commandStage j false s := by
          unfold shed
          rw [if_pos (by simp [on, unkept])]
        have off : (stageAt j (shed kept s j)).command = false := by rw [dropped]; exact command_commandStage j false s
        have after := stays (.inr (.inl off))
        rw [List.foldl_cons, after]
        exact ⟨off, by rw [dropped]; exact proving_commandStage_off on⟩
      · have before := idle (.inl same)
        exact lost ((List.mem_cons.mp mem).resolve_left same) (by rw [before]; exact on) unkept
    · have before : stageAt j (shed kept s k) = stageAt j s :=
        idle (h.imp (fun n same => n (same ▸ List.mem_cons_self)) id)
      rw [List.foldl_cons, stays (h.imp (fun n mem => n (List.mem_cons_of_mem _ mem)) (by rw [before]; exact id)), before]

end

/-- The stages of an increasing list that the room keeps: those whose running sum lies within it. -/
theorem mem_keep (s : State) (p : Fin 4 → Bool) (k : Fin 4) : ∀ (l : List (Fin 4)) (room : Nat), l.Pairwise (· < ·) →
    (k ∈ keptStages.keep s room (l.filter p) ↔ k ∈ l ∧ p k = true ∧
      (l.map (fun j => if decide (j.val ≤ k.val) && p j then ratingOf j s else 0)).sum ≤ room)
  | [], room, _ => by simp [keptStages.keep]
  | a :: l, room, sorted => by
    obtain ⟨first, rest⟩ := List.pairwise_cons.mp sorted
    have ih := mem_keep s p k l
    by_cases at' : k = a
    · subst at'
      have later : (l.map (fun j => if decide (j.val ≤ k.val) && p j then ratingOf j s else 0)).sum = 0 := by
        rw [List.sum_eq_zero_iff]
        intro x mem
        obtain ⟨j, inList, rfl⟩ := List.mem_map.mp mem
        have after : ¬ j.val ≤ k.val := not_le.mpr (first j inList)
        simp [after]
      have fresh : k ∉ l := fun mem => lt_irrefl k (first k mem)
      rw [List.map_cons, List.sum_cons, later]
      by_cases on : p k = true
      · rw [List.filter_cons_of_pos on]
        unfold keptStages.keep
        split <;> simp_all
      · rw [List.filter_cons_of_neg on, ih room rest]
        simp [fresh, on]
    · rw [List.mem_cons, or_iff_right at', List.map_cons, List.sum_cons]
      by_cases mem : k ∈ l
      · have before : a.val ≤ k.val := le_of_lt (first k mem)
        by_cases on : p a = true
        · rw [List.filter_cons_of_pos on]
          unfold keptStages.keep
          split
          next fits =>
            rw [List.mem_cons, or_iff_right at', ih _ rest]
            simp only [before, on, decide_true, Bool.and_self, if_true]
            refine and_congr_right fun _ => and_congr_right fun _ => ?_
            omega
          next short =>
            simp only [before, on, decide_true, Bool.and_self, if_true]
            refine iff_of_false List.not_mem_nil fun h => short ?_
            have := h.2.2
            omega
        · rw [List.filter_cons_of_neg on, ih room rest]
          simp [on]
      · refine iff_of_false (fun kept => mem ?_) (fun h => mem h.1)
        by_cases on : p a = true
        · rw [List.filter_cons_of_pos on] at kept
          unfold keptStages.keep at kept
          split at kept
          · rw [List.mem_cons, or_iff_right at', ih _ rest] at kept
            exact kept.1
          · exact absurd kept List.not_mem_nil
        · rw [List.filter_cons_of_neg on, ih room rest] at kept
          exact kept.1

/-! ### What an evaluation chooses (R148 to R150) -/

theorem mem_allStages (k : Fin 4) : k ∈ allStages := by fin_cases k <;> decide

/-- The state once the evaluation has chosen its stages. -/
def chosenNow (s : State) : State := updateFrostState (selectNow (standingWishes s))

section
variable {s : State}

theorem frc_updateFrostState (s : State) : (updateFrostState s).frc = { s.frc with state := frostStateNow s } := by
  unfold updateFrostState
  dsimp only
  split
  next same => rw [← same]
  next => rfl

theorem frc_chosenNow (s : State) : (chosenNow s).frc =
    { (selectNow (standingWishes s)).frc with state := frostStateNow (selectNow (standingWishes s)) } :=
  frc_updateFrostState _

/-- Between samples only the wishes move. -/
theorem standingWishes_form (s : State) : ∃ w, standingWishes s = { s with frc := { s.frc with wishes := w } } := by
  unfold standingWishes
  split
  · split
    · exact ⟨_, rfl⟩
    · exact ⟨s.frc.wishes, rfl⟩
  · exact ⟨_, rfl⟩

/-- The choice leaves the claims, the stages, the line and the settings. -/
theorem chosenNow_keeps (s : State) : (chosenNow s).clu = s.clu ∧ (chosenNow s).odu = s.odu ∧ (chosenNow s).lnu = s.lnu ∧
    (chosenNow s).sld = s.sld ∧ (chosenNow s).msu = s.msu ∧ (chosenNow s).ilu = s.ilu ∧ (chosenNow s).ptb = s.ptb ∧
    (chosenNow s).flc = s.flc ∧ (chosenNow s).ogu = s.ogu := by
  have update : ∀ u, (updateFrostState u).clu = u.clu ∧ (updateFrostState u).odu = u.odu ∧ (updateFrostState u).lnu = u.lnu ∧
      (updateFrostState u).sld = u.sld ∧ (updateFrostState u).msu = u.msu ∧ (updateFrostState u).ilu = u.ilu ∧
      (updateFrostState u).ptb = u.ptb ∧ (updateFrostState u).flc = u.flc ∧ (updateFrostState u).ogu = u.ogu := by
    intro u; unfold updateFrostState; dsimp only; split <;> exact ⟨rfl, rfl, rfl, rfl, rfl, rfl, rfl, rfl, rfl⟩
  obtain ⟨w, wishes⟩ := standingWishes_form s
  unfold chosenNow
  rw [wishes]
  exact update _

theorem wishes_standingWishes (s : State) (k : Fin 4) : (standingWishes s).frc.wishes[k] =
    if s.frc.airWatch = true ∨ s.frc.critical = true then
      (if s.msu.tr.state = .held then decide (0 < (setting s).ratings[k]) else s.frc.wishes[k]) else false := by
  unfold standingWishes wishesExamined channelInvalid
  simp only [Bool.or_eq_true, beq_iff_eq]
  split
  · split
    · exact Vector.getElem_ofFn k.isLt
    · rfl
  · simp

/-! ### The stages kept (R153) -/

theorem mem_keptStages (k : Fin 4) (s : State) : k ∈ keptStages s ↔ ((stageAt k s).command && s.frc.selected[k]) = true ∧
    ((s.frc.state = .critical ∧ s.lnu.state = .lineFault) ∨
      (allStages.map (fun j => if decide (j.val ≤ k.val) && ((stageAt j s).command && s.frc.selected[j]) then ratingOf j s else 0)).sum
        ≤ coveredAmount s) := by
  have all := mem_allStages k
  have authority : localAuthority s = true ↔ s.frc.state = .critical ∧ s.lnu.state = .lineFault := by
    simp [localAuthority]
  unfold keptStages
  dsimp only
  rw [← authority]
  by_cases authorised : localAuthority s = true
  · rw [if_pos authorised, List.mem_filter]
    exact ⟨fun h => ⟨h.2, .inl authorised⟩, fun h => ⟨all, h.1⟩⟩
  · rw [if_neg authorised, mem_keep s (fun j => (stageAt j s).command && s.frc.selected[j]) k allStages _ (by decide),
      or_iff_right authorised]
    exact and_iff_right all

/-- After the drops the commanded stages are those kept. -/
theorem command_dropStages (k : Fin 4) (s : State) : (stageAt k (dropStages s)).command = true ↔ k ∈ keptStages s := by
  have all := mem_allStages k
  obtain ⟨lost, stays⟩ := stageAt_sheds (keptStages s) allStages s k
  rw [dropStages_eq]
  by_cases kept : k ∈ keptStages s
  · rw [stays (.inr (.inr kept))]
    exact iff_of_true (Bool.and_eq_true_iff.mp ((mem_keptStages k s).mp kept).1).1 kept
  · by_cases on : (stageAt k s).command = true
    · rw [(lost all on kept).1]
      exact iff_of_false nofun kept
    · rw [stays (.inr (.inl (Bool.not_eq_true _ ▸ on)))]
      exact iff_of_false on kept

/-- After the drops the stages proving are those that were and were not dropped. -/
theorem proving_dropStages (k : Fin 4) (s : State) : (stageAt k (dropStages s)).state = .proving ↔
    (stageAt k s).state = .proving ∧ (k ∈ keptStages s ∨ (stageAt k s).command = false) := by
  have all := mem_allStages k
  obtain ⟨lost, stays⟩ := stageAt_sheds (keptStages s) allStages s k
  rw [dropStages_eq]
  by_cases idle : k ∈ keptStages s ∨ (stageAt k s).command = false
  · rw [stays (.inr idle.symm)]
    exact (and_iff_left idle).symm
  · obtain ⟨unkept, on⟩ := not_or.mp idle
    exact iff_of_false (lost all (Bool.not_eq_false _ ▸ on) unkept).2 (fun h => idle h.2)

/-! ### The request (R151) -/

/-- The amount and urgency an evaluation asks. -/
def asksNow (s : State) : Option (Nat × Nat) :=
  if s.frc.required = 0 then none else some (min 255 s.frc.required, desiredUrgency s)

theorem beside_requestLoad (s : State) :
    beside (requestLoad s) = beside { s with frc := { s.frc with asked := asksNow s } } := by
  unfold requestLoad asksNow
  by_cases zero : s.frc.required = 0
  · rw [if_pos zero, if_pos zero]
    split
    · exact beside_withdrawOwn _ _
    next unasked => rw [← Option.not_isSome_iff_eq_none.mp unasked]
  · rw [if_neg zero, if_neg zero]
    dsimp only
    split
    next => exact beside_askOwn _ _ _ _
    next a u asked =>
      split
      · exact beside_askOwn _ _ _ _
      · split
        · exact beside_changeUrgency _ _ _
        · next amount urgency =>
          rw [← of_not_not amount, ← of_not_not urgency, ← asked]

/-! ### The next stage (R154) -/

/-- The stage an evaluation commands ON. -/
def energises (k : Fin 4) (s : State) : Prop :=
  someProving s = false ∧ nextStage s = some k ∧ (localAuthority s = true ∨
    ratingSum (fun j => (stageAt j s).command) s + ratingOf k s ≤ coveredAmount s)

theorem energiseNext_spec (s : State) : (∃ k, energises k s ∧ energiseNext s = commandStage k true s) ∨
    ((∀ k, ¬ energises k s) ∧ energiseNext s = s) := by
  unfold energiseNext
  split
  next proving => exact .inr ⟨fun k h => absurd (h.1.symm.trans proving) nofun, rfl⟩
  next calm =>
    split
    next none => exact .inr ⟨fun k h => absurd (none.symm.trans h.2.1) nofun, rfl⟩
    next k found =>
      split
      next may =>
        rw [Bool.or_eq_true, decide_eq_true_iff] at may
        exact .inl ⟨k, ⟨Bool.not_eq_true _ ▸ calm, found, may⟩, rfl⟩
      next short =>
        rw [Bool.or_eq_true, decide_eq_true_iff] at short
        refine .inr ⟨fun j h => short ?_, rfl⟩
        obtain rfl : k = j := Option.some.inj (found.symm.trans h.2.1)
        exact h.2.2

theorem unstaged_energiseNext (s : State) : unstaged (energiseNext s) = unstaged s := by
  rcases energiseNext_spec s with ⟨k, -, h⟩ | ⟨-, h⟩ <;> rw [h]
  exact unstaged_commandStage k true s

theorem command_energiseNext (j : Fin 4) (s : State) :
    (stageAt j (energiseNext s)).command = true ↔ (stageAt j s).command = true ∨ energises j s := by
  rcases energiseNext_spec s with ⟨k, energised, h⟩ | ⟨none, h⟩ <;> rw [h]
  · by_cases same : j = k
    · subst same
      exact iff_of_true (command_commandStage j true s) (.inr energised)
    · rw [stageAt_commandStage_ne same, or_iff_left]
      exact fun other => same (Option.some.inj (other.2.1.symm.trans energised.2.1))
  · rw [or_iff_left (none j)]

/-- The stage commanded ON from OFF or DROPPING proves. -/
theorem stageAt_energiseNext {k : Fin 4} (energised : energises k s) (was : (stageAt k s).command = false)
    (idle : (stageAt k s).state = .off ∨ (stageAt k s).state = .dropping) :
    stageAt k (energiseNext s) = { command := true, state := .proving, timer := some (setting s).proofTime } := by
  rcases energiseNext_spec s with ⟨j, other, h⟩ | ⟨none, -⟩
  · obtain rfl : j = k := Option.some.inj (other.2.1.symm.trans energised.2.1)
    rw [h, stageAt_commandStage_on was idle]
  · exact absurd energised (none k)

/-- In an increasing list the first that is found is the least. -/
theorem find?_increasing (p : Fin 4 → Bool) (k : Fin 4) : ∀ l : List (Fin 4), l.Pairwise (· < ·) →
    (l.find? p = some k ↔ k ∈ l ∧ p k = true ∧ ∀ j ∈ l, j.val < k.val → p j = false)
  | [], _ => by simp
  | a :: l, sorted => by
    obtain ⟨first, rest⟩ := List.pairwise_cons.mp sorted
    by_cases on : p a = true
    · rw [List.find?_cons_of_pos on]
      refine ⟨fun h => ?_, fun ⟨mem, _, before⟩ => ?_⟩
      · obtain rfl := Option.some.inj h
        refine ⟨List.mem_cons_self, on, fun j mem less => ?_⟩
        rcases List.mem_cons.mp mem with rfl | mem
        · exact absurd less (lt_irrefl _)
        · exact absurd less (not_lt.mpr (le_of_lt (first j mem)))
      · rcases List.mem_cons.mp mem with same | mem
        · rw [same]
        · exact absurd (on.symm.trans (before a List.mem_cons_self (first k mem))) nofun
    · have other : p k = true → k ≠ a := fun h same => on (same ▸ h)
      rw [List.find?_cons_of_neg on, find?_increasing p k l rest]
      refine ⟨fun ⟨mem, h, before⟩ => ⟨List.mem_cons_of_mem _ mem, h, fun j inList less => ?_⟩,
        fun ⟨mem, h, before⟩ => ⟨(List.mem_cons.mp mem).resolve_left (other h), h,
          fun j inList less => before j (List.mem_cons_of_mem _ inList) less⟩⟩
      rcases List.mem_cons.mp inList with rfl | inList
      · exact Bool.not_eq_true _ ▸ on
      · exact before j inList less

theorem nextStage_iff (k : Fin 4) (s : State) : nextStage s = some k ↔
    s.frc.selected[k] = true ∧ (stageAt k s).command = false ∧
      ∀ j : Fin 4, j.val < k.val → s.frc.selected[j] = true → (stageAt j s).command = true := by
  unfold nextStage
  rw [find?_increasing _ k allStages (by decide)]
  simp [mem_allStages, and_assoc]

theorem someProving_iff (s : State) : someProving s = true ↔ ∃ k : Fin 4, 0 < ratingOf k s ∧ (stageAt k s).state = .proving := by
  unfold someProving stagePresent
  simp [List.any_eq_true, mem_allStages]

theorem starved_judgeStarved (s : State) : (judgeStarved s).frc =
    { s.frc with starved := !localAuthority s && decide (coveredAmount s < s.frc.required) } := by
  unfold judgeStarved
  dsimp only
  split
  next same => rw [← same]
  next => rfl

/-- The starved flag judged leaves the claims and the stages. -/
theorem judgeStarved_keeps (s : State) : (judgeStarved s).clu = s.clu ∧ (judgeStarved s).odu = s.odu := by
  unfold judgeStarved; dsimp only; split <;> exact ⟨rfl, rfl⟩

end

/-! ### The evaluation whole -/

section
variable {s : State}

/-- The state once the claim is in step with what the chosen stages need. -/
def requested (s : State) : State := requestLoad (dropStages (chosenNow s))

theorem frostEvaluate_eq (on : active s = true) : frostEvaluate s = judgeStarved (energiseNext (requested s)) := if_pos on

theorem unstaged_dropStages (s : State) : unstaged (dropStages s) = unstaged s := unstaged_sheds _ _ s

theorem frc_requested (s : State) : (requested s).frc = { (chosenNow s).frc with asked := asksNow (chosenNow s) } := by
  have drops := frc_of_unstaged (unstaged_dropStages (chosenNow s))
  refine (frc_of_beside (beside_requestLoad (dropStages (chosenNow s)))).trans ?_
  show ({ (dropStages (chosenNow s)).frc with asked := asksNow (dropStages (chosenNow s)) } : Frost) = _
  have asks : asksNow (dropStages (chosenNow s)) = asksNow (chosenNow s) := by
    unfold asksNow desiredUrgency; rw [drops]
  rw [asks, drops]

theorem requestLoad_keeps (s : State) :
    (requestLoad s).odu = s.odu ∧ (requestLoad s).lnu.state = s.lnu.state ∧ setting (requestLoad s) = setting s := by
  have asks := beside_requestLoad s
  generalize requestLoad s = t at asks ⊢
  exact ⟨(odu_of_beside asks :), (congrArg (fun b : Beside => b.state.lnu.state) asks :), (setting_of_beside asks :)⟩

/-- The request leaves the stages, the line's state and the settings. -/
theorem requested_keeps (s : State) : (∀ k, stageAt k (requested s) = stageAt k (dropStages (chosenNow s))) ∧
    (requested s).lnu.state = s.lnu.state ∧ setting (requested s) = setting s := by
  obtain ⟨stages, state, settings⟩ := requestLoad_keeps (dropStages (chosenNow s))
  have drops := unstaged_dropStages (chosenNow s)
  obtain ⟨-, -, line, image, -⟩ := chosenNow_keeps s
  unfold requested
  refine ⟨fun k => congrArg (fun o : Outputs => o.stages[k]) stages, ?_, ?_⟩
  · exact state.trans ((congrArg Line.state (lnu_of_unstaged drops)).trans (congrArg Line.state line))
  · exact settings.trans ((setting_of_unstaged drops).trans (congrArg Loader.settings image))

/-- The frost block after an evaluation. -/
theorem frc_frostEvaluate (on : active s = true) : (frostEvaluate s).frc =
    { (chosenNow s).frc with
      asked := asksNow (chosenNow s)
      starved := !localAuthority (requested s) && decide (coveredAmount (requested s) < (requested s).frc.required) } := by
  have energised := unstaged_energiseNext (requested s)
  have frc := frc_of_unstaged energised
  have authority : localAuthority (energiseNext (requested s)) = localAuthority (requested s) := by
    unfold localAuthority; rw [frc, lnu_of_unstaged energised]
  have covered : coveredAmount (energiseNext (requested s)) = coveredAmount (requested s) := by
    unfold coveredAmount; rw [clu_of_unstaged energised]
  rw [frostEvaluate_eq on, starved_judgeStarved, authority, covered, frc, frc_requested]

theorem clu_frostEvaluate (on : active s = true) : (frostEvaluate s).clu = (requested s).clu := by
  rw [frostEvaluate_eq on, (judgeStarved_keeps _).1]
  exact clu_of_unstaged (unstaged_energiseNext _)

theorem stageAt_frostEvaluate (on : active s = true) (k : Fin 4) :
    stageAt k (frostEvaluate s) = stageAt k (energiseNext (requested s)) := by
  rw [frostEvaluate_eq on]
  exact congrArg (fun o : Outputs => o.stages[k]) (judgeStarved_keeps _).2

/-- An evaluation leaves the fill controller and the settings' block. -/
theorem frostEvaluate_keeps (on : active s = true) : (frostEvaluate s).flc = s.flc ∧ (frostEvaluate s).sld = s.sld := by
  have judged : ∀ u, (judgeStarved u).flc = u.flc ∧ (judgeStarved u).sld = u.sld := by
    intro u; unfold judgeStarved; dsimp only; split <;> exact ⟨rfl, rfl⟩
  have commanded : ∀ {u v}, unstaged u = unstaged v → u.flc = v.flc ∧ u.sld = v.sld := fun h =>
    ⟨(congrArg State.flc h :), (congrArg State.sld h :)⟩
  have asked : ∀ u, (requestLoad u).flc = u.flc ∧ (requestLoad u).sld = u.sld := by
    intro u
    have asks := beside_requestLoad u
    generalize requestLoad u = v at asks ⊢
    exact ⟨(flc_of_beside asks :), (sld_of_beside asks :)⟩
  obtain ⟨-, -, -, sld, -, -, -, flc, -⟩ := chosenNow_keeps s
  have energised := commanded (unstaged_energiseNext (requested s))
  have drops := commanded (unstaged_dropStages (chosenNow s))
  rw [frostEvaluate_eq on]
  exact ⟨(judged _).1.trans (energised.1.trans ((asked _).1.trans (drops.1.trans flc))),
    (judged _).2.trans (energised.2.trans ((asked _).2.trans (drops.2.trans sld)))⟩

/-- The stages that stay, in the state before the evaluation. -/
theorem mem_kept_chosenNow (k : Fin 4) : k ∈ keptStages (chosenNow s) ↔
    ((stageAt k s).command && (chosenNow s).frc.selected[k]) = true ∧
    (((chosenNow s).frc.state = .critical ∧ s.lnu.state = .lineFault) ∨
      (allStages.map (fun j => if decide (j.val ≤ k.val) && ((stageAt j s).command && (chosenNow s).frc.selected[j])
        then ratingOf j s else 0)).sum ≤ coveredAmount s) := by
  obtain ⟨clu, odu, line, image, -⟩ := chosenNow_keeps s
  have stages : ∀ j, stageAt j (chosenNow s) = stageAt j s := fun j => congrArg (fun o : Outputs => o.stages[j]) odu
  have ratings : ∀ j, ratingOf j (chosenNow s) = ratingOf j s := fun j =>
    congrArg (fun x : Loader => x.settings.ratings[j]) image
  have covered : coveredAmount (chosenNow s) = coveredAmount s := by unfold coveredAmount; rw [clu]
  rw [mem_keptStages, covered, line]
  simp only [stages, ratings]

/-- The stage that an evaluation commands ON (R154), in the state before it. -/
theorem energises_requested (k : Fin 4) : energises k (requested s) ↔
    (¬ ∃ j : Fin 4, 0 < ratingOf j s ∧ (stageAt j s).state = .proving ∧
      (j ∈ keptStages (chosenNow s) ∨ (stageAt j s).command = false)) ∧
    ((chosenNow s).frc.selected[k] = true ∧ k ∉ keptStages (chosenNow s) ∧
      ∀ j : Fin 4, j.val < k.val → (chosenNow s).frc.selected[j] = true → j ∈ keptStages (chosenNow s)) ∧
    (((chosenNow s).frc.state = .critical ∧ s.lnu.state = .lineFault) ∨
      (allStages.map (fun j => if decide (j ∈ keptStages (chosenNow s)) then ratingOf j s else 0)).sum + ratingOf k s
        ≤ coveredAmount (requested s)) := by
  obtain ⟨stages, line, image⟩ := requested_keeps s
  have odu := (chosenNow_keeps s).2.1
  have before : ∀ j, stageAt j (chosenNow s) = stageAt j s := fun j => congrArg (fun o : Outputs => o.stages[j]) odu
  have ratings : ∀ j, ratingOf j (requested s) = ratingOf j s := fun j => congrArg (fun x : Settings => x.ratings[j]) image
  have commanded : ∀ j, (stageAt j (requested s)).command = decide (j ∈ keptStages (chosenNow s)) := by
    intro j
    rw [stages, Bool.eq_iff_iff, command_dropStages, decide_eq_true_iff]
  have proves : ∀ j, (stageAt j (requested s)).state = .proving ↔
      (stageAt j s).state = .proving ∧ (j ∈ keptStages (chosenNow s) ∨ (stageAt j s).command = false) := by
    intro j
    rw [stages, proving_dropStages, before]
  unfold energises
  refine and_congr ?_ (and_congr ?_ (or_congr ?_ ?_))
  · rw [← Bool.not_eq_true, someProving_iff]
    simp only [ratings, proves]
  · rw [nextStage_iff, frc_requested]
    simp only [commanded, decide_eq_true_eq, decide_eq_false_iff_not]
  · simp [localAuthority, frc_requested, line]
  · unfold ratingSum
    simp only [commanded, ratings]

end

end Sys2Proof.Machine

namespace Sys2Proof.Proofs

open Sys2Proof Sys2Proof.Machine

/-- The air state and the critical flag after the sample of a second (R146, R147). -/
theorem coldOnSample {s c u : State} {p w r a : AnalogCode} (flags : cold c = cold s) (inputs : c.ilu = s.ilu)
    (settings : setting c = setting s) (after : quiet u = quiet (takeSamples p w r a c)) :
    let x := setting s
    u.frc.airWatch = (if u.msu.ta.state = .held then true
      else if s.frc.airWatch then decide (u.msu.ta.value < x.tAirOn + 20) else decide (u.msu.ta.value ≤ x.tAirOn)) ∧
    u.frc.critical =
      (if latchSet .frostgrp s = true ∨ u.msu.tr.state = .good ∧ u.msu.tr.value ≤ x.tCrit then true
      else if u.msu.tr.state = .good then (if x.tCrit + 10 ≤ u.msu.tr.value then false else s.frc.critical)
      else s.frc.critical && [0, 1, 2, 3].any (fun k : Fin 4 => debounced (.fst k) s)) := by
  have judged : cold u = (airAfter (beforeFrost p w r a c), criticalAfter (beforeFrost p w r a c)) :=
    (cold_of_quiet after).trans (cold_frostSample (beforeFrost p w r a c))
  have steadily := steady_beforeFrost p w r a c
  have whole := steady_takeSamples p w r a c
  have measured : (beforeFrost p w r a c).msu = u.msu := (msu_of_steady steadily).trans (msu_of_quiet after).symm
  have sample : u.msu = sampled (setting c) p w r a c.msu := (msu_of_quiet after).trans (congrArg Steady.msu whole)
  have image : setting (beforeFrost p w r a c) = setting s :=
    (setting_of_steady steadily).trans ((congrArg Steady.settings whole).trans settings)
  have latched : (beforeFrost p w r a c).ilu = s.ilu := (ilu_beforeFrost p w r a c).trans inputs
  have before : cold (beforeFrost p w r a c) = cold s := (cold_beforeFrost p w r a c).trans flags
  have readAir : u.msu.ta.state ≠ .unread := by rw [sample]; exact channelAfter_read _ _
  have readRiser : u.msu.tr.state ≠ .unread := by rw [sample]; exact channelAfter_read _ _
  generalize beforeFrost p w r a c = y at judged measured image latched before
  have air : y.frc.airWatch = s.frc.airWatch := congrArg Prod.fst before
  have critical : y.frc.critical = s.frc.critical := congrArg Prod.snd before
  have latch : latchSet .frostgrp y = latchSet .frostgrp s := congrArg (fun i : Inputs => i.latch[latchIndex .frostgrp]) latched
  have members : ∀ k, debounced (.fst k) y = debounced (.fst k) s := fun k =>
    congrArg (fun i : Inputs => i.debounced[inputIndex (.fst k)]) latched
  constructor
  · refine (congrArg Prod.fst judged).trans ?_
    rw [airAfter_of_read (measured ▸ readAir), measured, image, air]
  · refine (congrArg Prod.snd judged).trans ?_
    rw [criticalAfter_of_read (measured ▸ readRiser), measured, image, critical, latch]
    simp only [members]

/-- Settles O47: the evaluation part by part; the air state and the critical flag by what a sample leaves before the frost block. -/
theorem frostEvaluationDecides : Obligations.FrostEvaluationDecides := by
  refine ⟨fun s on => ?decides, fun p w r a s on running => ?sampled⟩
  case sampled =>
    have arising : arises (.secondEvent p w r a) s = true := by
      simp [arises, loaded_of_active on, running]
    have answer : exec (.secondEvent p w r a) s = .next (event (secondPasses p w r a) s) := exec_of_arises arising
    obtain ⟨c, counted⟩ : ∃ c, c = countTimers (countSecond (beginEvent s)) := ⟨_, rfl⟩
    have sampled : secondPasses p w r a (beginEvent s) = takeSamples p w r a c := by
      rw [counted]; exact if_pos on
    have after : quiet (event (secondPasses p w r a) s) = quiet (takeSamples p w r a c) := sampled ▸ quiet_event _ _
    refine ⟨_, answer, ?_⟩
    have flags : cold c = cold s := by rw [counted, cold_countTimers]; rfl
    have inputs : c.ilu = s.ilu := by rw [counted, ilu_countTimers]; rfl
    have settings : setting c = setting s := by
      rw [counted]; exact congrArg Steady.settings (steady_countTimers (countSecond (beginEvent s)))
    exact coldOnSample flags inputs settings after
  case decides =>
    obtain ⟨w, form⟩ := standingWishes_form s
    have wishes : ∀ k : Fin 4, w[k] = (standingWishes s).frc.wishes[k] := fun k => by rw [form]
    have quietly := quiet_frostEvaluate s
    have chosen := frc_chosenNow s
    rw [form] at chosen
    have frc := frc_frostEvaluate on
    have selected : (frostEvaluate s).frc.selected = (chosenNow s).frc.selected := by rw [frc]
    have state : (frostEvaluate s).frc.state = (chosenNow s).frc.state := by rw [frc]
    have authority : localAuthority (requested s) = true ↔ (frostEvaluate s).frc.state = .critical ∧ s.lnu.state = .lineFault := by
      rw [state]; simp [localAuthority, frc_requested, (requested_keeps s).2.1]
    have covered : ∀ x : State, coveredAmount x = if x.clu.ownLoad.state = .held then x.clu.ownLoad.held else 0 := by
      intro x; simp [coveredAmount]
    have coveredAfter : coveredAmount (requested s) = coveredAmount (frostEvaluate s) := by
      unfold coveredAmount; rw [clu_frostEvaluate on]
    have kept : ∀ k, _ ↔ k ∈ keptStages (chosenNow s) := fun k => (mem_kept_chosenNow k).symm
    have energised := fun k => energises_requested (s := s) k
    rw [← selected, ← state, covered] at kept
    rw [← selected, ← state, coveredAfter, covered] at energised
    have command : ∀ k : Fin 4, (stageAt k (frostEvaluate s)).command = true ↔
        k ∈ keptStages (chosenNow s) ∨ energises k (requested s) := by
      intro k
      rw [stageAt_frostEvaluate on, command_energiseNext, (requested_keeps s).1, command_dropStages]
    intro t present examined healthy
    refine ⟨fun k => ?_, ?_, fun k => ?_, ?_, ?_, ?_, ?_, ?_, fun k unselected => ?_, ?_, ?_, ?_, msu_of_quiet quietly,
      ilu_of_quiet quietly, ptb_of_quiet quietly, (frostEvaluate_keeps on).1, ogu_of_quiet quietly, (frostEvaluate_keeps on).2⟩
    · show (frostEvaluate s).frc.wishes[k] = _
      rw [frc, chosen]
      exact (wishes k).trans (wishes_standingWishes s k)
    · show (frostEvaluate s).frc.target = min _ (List.filter (fun k => _ && (frostEvaluate s).frc.wishes[k]) _).length
      rw [frc, chosen]
      rfl
    · show (frostEvaluate s).frc.selected[k] = (healthy.take (frostEvaluate s).frc.target).contains k
      rw [frc, chosen]
      exact Vector.getElem_ofFn k.isLt
    · show (frostEvaluate s).frc.required = ((healthy.take (frostEvaluate s).frc.target).map _).sum
      rw [frc, chosen]
      rfl
    · show (frostEvaluate s).frc.state = if _ then _ else if 1 ≤ (frostEvaluate s).frc.target then _ else _
      rw [frc, chosen]
      rfl
    · show (frostEvaluate s).frc.asked = if (frostEvaluate s).frc.required = 0 then none
        else some (min 255 (frostEvaluate s).frc.required, if (frostEvaluate s).frc.state = .critical then 6 else 3)
      rw [frc]
      rfl
    · show (frostEvaluate s).frc.starved = true ↔ ¬ ((frostEvaluate s).frc.state = .critical ∧ s.lnu.state = .lineFault) ∧ _
      rw [← authority, ← covered, ← coveredAfter]
      show (frostEvaluate s).frc.starved = true ↔ _ ∧ _ < (frostEvaluate s).frc.required
      have need : (requested s).frc.required = (frostEvaluate s).frc.required := by rw [frc_requested, frc]
      rw [← need, frc]
      simp
    · intro local_ covers stands sumOf stays proving next turnsOn
      have staysIff : ∀ k, stays k ↔ k ∈ keptStages (chosenNow s) := kept
      have turnsIff : ∀ k, turnsOn k ↔ energises k (requested s) := by
        intro k
        rw [energised k]
        refine and_congr (not_congr (exists_congr fun j => and_congr_right fun _ => and_congr_right fun _ =>
          or_congr_left (staysIff j))) (and_congr (and_congr_right fun _ => and_congr (not_congr (staysIff k))
            (forall_congr' fun j => imp_congr_right fun _ => imp_congr_right fun _ => staysIff j)) (or_congr_right ?_))
        refine ⟨fun fit => fit _ fun j => by rw [staysIff j, decide_eq_true_iff], fun fit chosen' same => ?_⟩
        obtain rfl : chosen' = fun j => decide (j ∈ keptStages (chosenNow s)) := by
          funext j
          rw [Bool.eq_iff_iff, same j, staysIff j, decide_eq_true_iff]
        exact fit
      refine ⟨fun k => ?_, fun k turns was idle => ?_⟩
      · rw [staysIff, turnsIff]
        exact command k
      · have before : stageAt k (requested s) = stageAt k s := by
          have untouched : stageAt k (chosenNow s) = stageAt k s :=
            congrArg (fun o : Outputs => o.stages[k]) (chosenNow_keeps s).2.1
          rw [(requested_keeps s).1, dropStages_eq,
            (stageAt_sheds _ allStages (chosenNow s) k).2 (.inr (.inl (untouched.symm ▸ was))), untouched]
        have proves := stageAt_energiseNext ((turnsIff k).mp turns) (before.symm ▸ was) (before.symm ▸ idle)
        rw [(requested_keeps s).2.2, ← stageAt_frostEvaluate on] at proves
        refine ⟨proves, ?_⟩
        show ((stageAt k (frostEvaluate s)).state == .proving || _) = true
        rw [proves]
        rfl
    · rw [← Bool.not_eq_true]
      refine fun commanded => ?_
      have off : (frostEvaluate s).frc.selected[k] ≠ true := fun h => absurd (h.symm.trans unselected) nofun
      rcases (command k).mp commanded with stays | turns
      · exact off (Bool.and_eq_true_iff.mp ((kept k).mpr stays).1).2
      · exact off ((energised k).mp turns).2.1.1
    · exact congrArg Quiet.airWatch quietly
    · exact congrArg Quiet.critical quietly
    · exact congrArg Quiet.failed quietly

end Sys2Proof.Proofs
end

section
/-! PROOFS. The counts of a second event, and what its samples leave of them. -/

namespace Sys2Proof.Machine

section
variable {s t : State}

/-! ### What the samples of a second leave alone -/

/-- What neither the quiet operations nor the guard and the fault unit move, nor the measurement and the frost block hold, the
samples of a second leave. -/
theorem view_takeSamples {α : Type} {view : State → α} (calm : ∀ {s t}, quiet t = quiet s → view t = view s)
    (guarded : ∀ {s t}, watched t = watched s → view t = view s) (measure : ∀ s m, view { s with msu := m } = view s)
    (frost : ∀ s f, view { s with frc := f } = view s) (p tw tr ta : AnalogCode) (s : State) :
    view (takeSamples p tw tr ta s) = view s := by
  have set : ∀ c present u, view (setCondition c present u) = view u := fun c present u =>
    guarded (watched_setCondition c present u)
  have entered : ∀ new u, view (setFill new u) = view u := fun new u => calm (quiet_setFill new u)
  have withdrawn : ∀ u, view (withdrawTurnover u) = view u := by
    intro u
    unfold withdrawTurnover
    dsimp only
    split
    · split
      · exact (entered _ _).trans (frost u _)
      · exact (entered _ _).trans (frost u _)
      · exact frost u _
    · rfl
  have filled : ∀ u, view (fillSample u) = view u := by
    intro u
    have causes : view (takeCauses u) = view u := calm (quiet_takeCauses u)
    have rests : view (setFill .rest (takeCauses u)) = view u := (entered _ _).trans causes
    unfold fillSample
    dsimp only
    split
    · split; exacts [rests, causes]
    · split; exacts [rests, causes]
    · split; exacts [(withdrawn _).trans rests, causes]
    · exact (calm (quiet_reliefEnd _)).trans causes
    · exact causes
  have frosted : ∀ u, view (frostSample u) = view u := by
    intro u
    have warm : ∀ v, view (turnoverWarm v) = view v := by
      intro v; unfold turnoverWarm; split; exacts [withdrawn v, rfl]
    have wishes : ∀ v, view (sampleWishes v) = view v := by
      intro v; unfold sampleWishes; split; exacts [frost v _, rfl]
    unfold frostSample
    exact (calm (quiet_frostEvaluate _)).trans ((wishes _).trans ((warm _).trans (frost u _)))
  have pending : view (takePending s) = view s := calm (by unfold takePending; split <;> simp)
  have pressure : ∀ u, view (samplePressure p u) = view u := by
    intro u
    unfold samplePressure
    split
    · exact (set .lvlSensor false _).trans (measure u _)
    · exact (set .lvlSensor true _).trans (measure u _)
  have sampled : view (beforeSample p tw tr ta s) = view s := by
    unfold beforeSample sampleTemperatures
    exact (calm (quiet_handField _ _)).trans ((set _ _ _).trans ((set _ _ _).trans ((set _ _ _).trans
      ((measure _ _).trans ((pressure _).trans pending)))))
  rw [takeSamples_eq]
  exact (frosted _).trans ((filled _).trans ((guarded (watched_guardSample _)).trans sampled))

/-- The counts of a second that no sample reads or writes: the peers, the entries of others, the duplicate and the clearing timer. -/
def counts (s : State) : Peers × (Resource → Nat → Option Holding) × Option Nat × Option Nat :=
  (s.ptb, othersOf s, s.lnu.dupTimer, s.flc.clearing)

theorem counts_of_quiet (h : quiet t = quiet s) : counts t = counts s :=
  congrArg (fun q : Quiet => (q.ptb, q.others, q.line.dupTimer, q.clearing)) h

theorem counts_of_watched (h : watched t = watched s) : counts t = counts s :=
  congrArg (fun b : Beside => (b.state.ptb, b.others, b.state.lnu.dupTimer, b.state.flc.clearing)) h

theorem counts_takeSamples (p tw tr ta : AnalogCode) (s : State) : counts (takeSamples p tw tr ta s) = counts s :=
  view_takeSamples counts_of_quiet counts_of_watched (fun _ _ => rfl) (fun _ _ => rfl) p tw tr ta s

/-! ### The counts -/

/-- The samples leave the time base's own counts. -/
theorem sampled_counts (x : Settings) (p tw tr ta : AnalogCode) (m : Measure) :
    let n := sampled x p tw tr ta m
    n.secondCount = m.secondCount ∧ n.sixty = m.sixty ∧ n.minuteDue = m.minuteDue := by
  unfold sampled pressed volumeFollows enterLevel missLevel
  dsimp only
  (repeat' split) <;> exact ⟨rfl, rfl, rfl⟩

theorem tickDown_eq (x : Option Nat) : tickDown x = x.map (fun n => n - 1) := by cases x <;> rfl

theorem tickUp_eq (top : Nat) (x : Option Nat) : tickUp top x = x.map (fun n => min top (n + 1)) := by cases x <;> rfl

/-- The claims table of a resource after a second. -/
def countedTable (r : Resource) (s : State) : Vector (Option Holding) 24 :=
  Vector.ofFn (fun (i : Fin 24) =>
    if i.val + 1 = (setting s).station then (claimTable r s)[i] else ((claimTable r s)[i]).map countHolding)

/-- The claim unit after a second. -/
theorem clu_countTimers (s : State) : ∃ supply load, supply = countedTable .supply s ∧ load = countedTable .load s ∧
    (countTimers s).clu = { s.clu with
      supplyTable := supply, loadTable := load
      ownSupply := countOwn s.clu.ownSupply, ownLoad := countOwn s.clu.ownLoad
      incompleteSupply := tickDown s.clu.incompleteSupply, incompleteLoad := tickDown s.clu.incompleteLoad
      listening := tickDown s.clu.listening, answer := tickDown s.clu.answer } := by
  have first : ∃ v, v = countedTable .supply s ∧ countTable .supply s = setTable .supply v s := ⟨_, rfl, rfl⟩
  obtain ⟨supply, supplyIs, first⟩ := first
  have second : ∃ v, v = countedTable .load s ∧ countTable .load (setTable .supply supply s) =
      setTable .load v (setTable .supply supply s) := ⟨_, rfl, rfl⟩
  obtain ⟨load, loadIs, second⟩ := second
  refine ⟨supply, load, supplyIs, loadIs, ?_⟩
  unfold countTimers countReport countClaims
  dsimp only
  rw [first, second]
  rfl

/-- The other blocks after a second. -/
theorem countTimers_blocks (s : State) :
    (countTimers s).sld = s.sld ∧ (countTimers s).stu = s.stu ∧
    (countTimers s).ptb = { s.ptb with records := s.ptb.records.map countSilence } ∧
    (countTimers s).lnu = { s.lnu with dupTimer := tickUp 600 s.lnu.dupTimer } ∧
    (countTimers s).flc = { s.flc with openTimer := tickDown s.flc.openTimer, clearing := tickUp 900 s.flc.clearing } ∧
    (countTimers s).ogu = { s.ogu with stroke := tickDown s.ogu.stroke, confirmTimer := tickDown s.ogu.confirmTimer } ∧
    (countTimers s).rpu = { s.rpu with
      age := satSucc 4294967295 s.rpu.age
      timerDue := s.rpu.timerDue || decide (reportLimit s ≤ satSucc 4294967295 s.rpu.age) } := by
  have first : ∃ v, countTable .supply s = setTable .supply v s := ⟨_, rfl⟩
  obtain ⟨supply, first⟩ := first
  have second : ∃ v, countTable .load (setTable .supply supply s) = setTable .load v (setTable .supply supply s) := ⟨_, rfl⟩
  obtain ⟨load, second⟩ := second
  unfold countTimers countReport countClaims
  dsimp only
  rw [first, second]
  exact ⟨rfl, rfl, rfl, rfl, rfl, rfl, rfl⟩

/-- The entries of the other stations count (R81, R82). -/
theorem othersOf_countTimers (r : Resource) (n : Nat) (s : State) :
    othersOf (countTimers s) r n = (othersOf s r n).map countHolding := by
  obtain ⟨supply, load, supplyIs, loadIs, clu⟩ := clu_countTimers s
  have settings : setting (countTimers s) = setting s := congrArg Loader.settings (countTimers_blocks s).1
  have table : claimTable r (countTimers s) = countedTable r s := by
    unfold claimTable
    rw [clu]
    cases r
    · exact supplyIs
    · exact loadIs
  unfold othersOf
  rw [settings]
  split
  next => rfl
  next other =>
    unfold entryAt
    rw [table]
    split
    next range =>
      unfold countedTable
      rw [Vector.getElem_ofFn, if_neg (by show n - 1 + 1 ≠ _; omega)]
      rfl
    next => rfl

end

end Sys2Proof.Machine

namespace Sys2Proof.Proofs

open Sys2Proof Sys2Proof.Machine

/-- Settles O10: the counts come before the samples, which leave what was counted. -/
theorem secondEventCounts : Obligations.SecondEventCounts := by
  intro p w r a s on running
  have arising : arises (.secondEvent p w r a) s = true := arises_and (loaded_of_active on) running
  have answer : exec (.secondEvent p w r a) s = .next (event (secondPasses p w r a) s) := exec_of_arises arising
  have steadily : steady (event (secondPasses p w r a) s) =
      { steady s with msu := sampled (setting s) p w r a (countSecond s).msu } :=
    (steady_event _ _).trans (steady_secondPasses (s := beginEvent s) on)
  have measure : (event (secondPasses p w r a) s).msu = sampled (setting s) p w r a (countSecond s).msu :=
    congrArg Steady.msu steadily
  obtain ⟨seconds, sixty, due⟩ := sampled_counts (setting s) p w r a (countSecond s).msu
  obtain ⟨b, begun⟩ : ∃ b, b = countSecond (beginEvent s) := ⟨_, rfl⟩
  have sampled : secondPasses p w r a (beginEvent s) = takeSamples p w r a (countTimers b) := by
    rw [begun]; exact if_pos on
  have counted : counts (event (secondPasses p w r a) s) = counts (countTimers b) :=
    (counts_of_quiet (sampled ▸ quiet_event _ _)).trans (counts_takeSamples p w r a _)
  obtain ⟨-, -, ptb, lnu, flc, ogu, rpu⟩ := countTimers_blocks b
  obtain ⟨supply, load, -, -, clu⟩ := clu_countTimers b
  refine ⟨_, answer, ?_, ?_, ?_, ?_, fun k n => ?_, ?_, ?_, ?_, congrArg Steady.pins steadily, congrArg Steady.settings steadily,
    congrArg Steady.qEst steadily, countTimers b, ?_, fun k => ⟨?_, ?_⟩, ?_, ?_, ?_, ?_, ?_⟩
  · rw [measure]; exact seconds
  · rw [measure]; exact sixty
  · rw [measure]; exact due
  · refine (congrArg Prod.fst counted).trans (ptb.trans ?_)
    rw [begun]
    rfl
  · refine (congrFun (congrFun (congrArg (fun x => x.2.1) counted) k) n).trans ((othersOf_countTimers k n b).trans ?_)
    rw [begun]
    rfl
  · refine (congrArg (fun x => x.2.2.1) counted).trans ((congrArg Line.dupTimer lnu).trans ?_)
    rw [begun]
    exact tickUp_eq _ _
  · refine (congrArg (fun x => x.2.2.2) counted).trans ((congrArg Fill.clearing flc).trans ?_)
    rw [begun]
    exact tickUp_eq _ _
  · exact ilu_taken (c := .secondEvent p w r a) rfl s
  · rw [answer]
    exact congrArg Host.Outcome.next (event_congr sampled)
  · unfold own
    rw [clu, begun]
    cases k
    · show countOwn s.clu.ownSupply = _
      unfold countOwn
      rw [tickDown_eq, tickDown_eq]
    · show countOwn s.clu.ownLoad = _
      unfold countOwn
      rw [tickDown_eq, tickDown_eq]
  · unfold incomplete
    rw [clu, begun]
    cases k <;> exact tickDown_eq _
  · rw [clu, begun]; exact tickDown_eq _
  · rw [clu, begun]; exact tickDown_eq _
  · rw [flc, begun, tickDown_eq, tickUp_eq]; rfl
  · rw [ogu, begun, tickDown_eq, tickDown_eq]; rfl
  · rw [rpu, begun]; rfl

end Sys2Proof.Proofs
end

section
/-! PROOFS. The head of the queue, the notice a full queue drops, and what its owner does at once. -/

namespace Sys2Proof.Machine

/-! ### The head and the drop candidate (R52, R55) -/

theorem sending_of_queueHead_none {q : List QueueEntry} (h : queueHead q = none) : ∀ x ∈ q, x.sending = true := by
  induction q with
  | nil => exact nofun
  | cons a l ih =>
    unfold queueHead at h
    split at h
    next sending => exact List.forall_mem_cons.mpr ⟨sending, ih h⟩
    next => split at h <;> cases h

theorem sending_of_dropCandidate_none {q : List QueueEntry} (h : dropCandidate q = none) : ∀ x ∈ q, x.sending = true := by
  induction q with
  | nil => exact nofun
  | cons a l ih =>
    unfold dropCandidate at h
    split at h
    next sending => exact List.forall_mem_cons.mpr ⟨sending, ih h⟩
    next => split at h <;> cases h

/-- The head comes before every WAITING entry: more urgent, or of the same urgency and no younger. -/
theorem queueHead_first {q : List QueueEntry} {e : QueueEntry} (h : queueHead q = some e) :
    ∀ x ∈ q, x.sending = false → x.urgency < e.urgency ∨ x.urgency = e.urgency ∧ e.age ≤ x.age := by
  induction q generalizing e with
  | nil => cases h
  | cons a l ih =>
    unfold queueHead at h
    intro x mem waiting
    split at h
    next sending =>
      rcases List.mem_cons.mp mem with rfl | mem
      · exact absurd (sending.symm.trans waiting) nofun
      · exact ih h x mem waiting
    next =>
      split at h
      next none =>
        obtain rfl := Option.some.inj h
        rcases List.mem_cons.mp mem with rfl | mem
        · exact .inr ⟨rfl, le_rfl⟩
        · exact absurd ((sending_of_queueHead_none none x mem).symm.trans waiting) nofun
      next b head =>
        obtain rfl := Option.some.inj h
        have before := ih head
        unfold moreUrgent
        rcases List.mem_cons.mp mem with rfl | mem
        · (repeat' split) <;> omega
        · have := before x mem waiting
          (repeat' split) <;> omega

/-- The drop candidate comes after every WAITING entry: less urgent, or of the same urgency and no older. -/
theorem dropCandidate_last {q : List QueueEntry} {e : QueueEntry} (h : dropCandidate q = some e) :
    ∀ x ∈ q, x.sending = false → e.urgency < x.urgency ∨ e.urgency = x.urgency ∧ x.age ≤ e.age := by
  induction q generalizing e with
  | nil => cases h
  | cons a l ih =>
    unfold dropCandidate at h
    intro x mem waiting
    split at h
    next sending =>
      rcases List.mem_cons.mp mem with rfl | mem
      · exact absurd (sending.symm.trans waiting) nofun
      · exact ih h x mem waiting
    next =>
      split at h
      next none =>
        obtain rfl := Option.some.inj h
        rcases List.mem_cons.mp mem with rfl | mem
        · exact .inr ⟨rfl, le_rfl⟩
        · exact absurd ((sending_of_dropCandidate_none none x mem).symm.trans waiting) nofun
      next b last =>
        obtain rfl := Option.some.inj h
        have after := ih last
        unfold lessUrgent
        rcases List.mem_cons.mp mem with rfl | mem
        · (repeat' split) <;> omega
        · have := after x mem waiting
          (repeat' split) <;> omega

/-! ### What the owner of a dropped notice does (R55, R92, R180) -/

/-- A WAITING claim without a raise is left alone by the drops of the queue. -/
theorem eq_of_sinks_waiting {c : OwnClaim} {e : Option Holding} {y : OwnClaim × Option Holding} (waiting : c.state = .waiting)
    (noRaise : c.raise = none) (h : Sinks (c, e) y) : y = (c, e) := by
  induction h with
  | refl => rfl
  | waits _ announcing ih => cases ih; exact absurd (waiting.symm.trans announcing) nofun
  | raiseWaits _ raised _ ih => cases ih; exact absurd (noRaise.symm.trans raised) nofun
  | lost _ held ih => cases ih; exact absurd (waiting.symm.trans held) nofun

/-- A claim given up with its RELEASE is LOST with its entry, whatever that RELEASE drops. -/
theorem standing_giveUp (n : Nat) (r : Resource) (s : State) :
    standing r (giveUp (queueRelease n r) r s) = (lostRecord (own r s), none) := by
  have told : ∀ t, standing r (emit (.reexamine r) (tellLost r t)) = standing r t := by intro t; cases r <;> rfl
  have lost : standing r (dropOwnEntry r (setOwn r (lostRecord (own r s)) s)) = (lostRecord (own r s), none) := by
    rw [standing_dropOwnEntry, own_setOwn_same]
  have sinks := sinks_queueRelease n r (Sinks.refl (x := standing r (dropOwnEntry r (setOwn r (lostRecord (own r s)) s))))
  rw [lost] at sinks
  unfold giveUp
  rw [told]
  exact eq_of_sinks_waiting rfl rfl sinks

/-- A claim that is announced waits again. -/
theorem own_claimBackToWaiting {r : Resource} {s : State} (announcing : (own r s).state = .announcing) :
    claimBackToWaiting r s = setOwn r { own r s with state := .waiting } s := if_pos announcing

/-- Every drop but that of a held claim's refresh leaves the queue, and counts one NOTE. -/
theorem queue_dropNotice {release : Resource → State → State} {item : Outgoing} {s : State}
    (lost : ∀ r, item = .claim r true → (own r s).state ≠ .held) :
    (dropNotice release item s).lnu.queue = s.lnu.queue ∧ (dropNotice release item s).ftu.notes = min 255 (s.ftu.notes + 1) := by
  have set : ∀ r c t, (setOwn r c t).lnu = t.lnu ∧ (setOwn r c t).ftu = t.ftu := by intro r c t; cases r <;> exact ⟨rfl, rfl⟩
  have back : ∀ r t, (claimBackToWaiting r t).lnu = t.lnu ∧ (claimBackToWaiting r t).ftu = t.ftu := by
    intro r t; unfold claimBackToWaiting; dsimp only; (repeat' split) <;> first
      | exact set _ _ _
      | exact ⟨rfl, rfl⟩
  unfold dropNotice tellDropped
  split
  next => exact ⟨rfl, rfl⟩
  next r => exact ⟨congrArg Line.queue (back r _).1, congrArg Faults.notes (back r _).2⟩
  next r => rw [if_neg (show (own r (noteOccurrence s)).state ≠ .held from lost r rfl)]; exact ⟨rfl, rfl⟩
  next q =>
    unfold markIncompleteFor setIncomplete
    split
    next r => cases r <;> exact ⟨rfl, rfl⟩
    next => exact ⟨rfl, rfl⟩
  all_goals exact ⟨rfl, rfl⟩

/-- What a drop makes of the claims and the reports. -/
theorem told_dropNotice (n : Nat) (item : Outgoing) (s : State) :
    (∀ r, item = .claim r true → (own r s).state = .held →
      standing r (dropNotice (queueRelease n) item s) = (lostRecord (own r s), none)) ∧
    (∀ r, item = .claim r false → (own r s).state = .announcing →
      (own r (dropNotice (queueRelease n) item s)).state = .waiting) ∧
    (item = .report → (dropNotice (queueRelease n) item s).rpu.skipped = s.rpu.skipped + 1 ∧
      (dropNotice (queueRelease n) item s).rpu.queued = false) := by
  refine ⟨?_, ?_, ?_⟩
  · rintro r rfl held
    refine Eq.trans (congrArg (standing r) ?_) (standing_giveUp n r (noteOccurrence s))
    exact if_pos held
  · rintro r rfl announcing
    have back : dropNotice (queueRelease n) (.claim r false) s =
        setOwn r { own r (noteOccurrence s) with state := .waiting } (noteOccurrence s) :=
      own_claimBackToWaiting (s := noteOccurrence s) announcing
    rw [back, own_setOwn_same]
  · rintro rfl
    exact ⟨rfl, rfl⟩

/-! ### A notice under a new key (R52, R55) -/

/-- A notice under a new key is queued as such, unless it is a CLAIM that a joining station may not queue. -/
theorem queueNotice_new {item : Outgoing} {u : Nat} {s : State} (on : active s = true)
    (may : isClaim item = true → s.sld.mode = .joined ∨ 6 ≤ u) (fresh : ∀ e ∈ s.lnu.queue, keyOf e.item ≠ keyOf item) :
    queueNotice item u s = queueNew (queueRelease 2) item u s := by
  have placed : (match entryUnder (keyOf item) s.lnu.queue with
      | some e => queueOver item u e s
      | none => queueNew (queueRelease 2) item u s) = queueNew (queueRelease 2) item u s := by rw [entryUnder_eq_none fresh]
  unfold queueNotice queueWith
  rw [if_pos on]
  split
  next r refresh =>
    refine (if_neg ?_).trans placed
    rintro ⟨joining, low⟩
    rcases may rfl with joined | high
    · rw [joined] at joining; cases joining
    · omega
  next => exact placed

/-- The state with the newcomer in the place of a dropped entry. -/
def replaced (dropped item : Outgoing) (u : Nat) (s : State) : State :=
  enqueue item u { s with lnu := { s.lnu with queue := removeUnder (keyOf dropped) s.lnu.queue } }

/-- A full queue drops a less urgent entry for the newcomer. -/
theorem queueNew_replaces {release : Resource → State → State} {item : Outgoing} {u : Nat} {s : State} {e : QueueEntry}
    (full : s.lnu.queue.length = 8) (last : dropCandidate s.lnu.queue = some e) (less : e.urgency < u) :
    queueNew release item u s = dropNotice release e.item (replaced e.item item u s) := by
  unfold queueNew
  rw [if_neg (by omega), last]
  exact if_pos less

/-- A full queue without a less urgent entry drops the newcomer. -/
theorem queueNew_refuses {release : Resource → State → State} {item : Outgoing} {u : Nat} {s : State}
    (full : s.lnu.queue.length = 8) (urgent : ∀ e ∈ s.lnu.queue, e.sending = false → u ≤ e.urgency) :
    queueNew release item u s = dropNotice release item s := by
  unfold queueNew
  rw [if_neg (by omega)]
  split
  next => rfl
  next e last =>
    obtain ⟨mem, waiting⟩ := dropCandidate_mem last
    exact if_neg (not_lt.mpr (urgent e mem waiting))

end Sys2Proof.Machine

namespace Sys2Proof.Proofs

open Sys2Proof Sys2Proof.Machine

/-- Settles O22: the head is first by induction on the queue; a drop goes to the owner of the candidate or of the newcomer. -/
theorem queueHeadAndDrops : Obligations.QueueHeadAndDrops := by
  refine ⟨fun q => ⟨fun e head => ?_, sending_of_queueHead_none⟩, fun item u s on may full _ fresh => ?_⟩
  · obtain ⟨mem, waiting⟩ := queueHead_mem head
    exact ⟨mem, waiting, queueHead_first head⟩
  · have new : queueNotice item u s = queueNew (queueRelease 2) item u s :=
      queueNotice_new on (fun claim => may.imp id (fun h => h.resolve_right (by rw [claim]; nofun))) fresh
    intro t afterDrop
    have settings : setting t = setting s := setting_of_beside (beside_queueNotice item u s)
    have told : ∀ (dropped : Outgoing) (v : State), v.clu = s.clu → v.rpu = s.rpu → v.ftu = s.ftu →
        queueNotice item u s = dropNotice (queueRelease 2) dropped v → afterDrop dropped v.lnu.queue := by
      intro dropped v clu rpu ftu drops
      have owned : ∀ r, own r v = own r s := fun r => by unfold own; rw [clu]
      obtain ⟨lost, waits, skipped⟩ := told_dropNotice 2 dropped v
      rw [← drops] at lost waits skipped
      refine ⟨fun kept => ?_, fun r is held => ?_, fun r is announcing => ?_, fun is => ?_⟩
      · have left := queue_dropNotice (release := queueRelease 2) (item := dropped) (s := v) (fun r is => owned r ▸ kept r is)
        rw [← drops, ftu] at left
        exact left
      · have stands := lost r is (owned r ▸ held)
        rw [owned] at stands
        have record : own r t = lostRecord (own r s) := congrArg Prod.fst stands
        refine ⟨by rw [record]; rfl, by rw [record]; rfl, by rw [record]; rfl, ?_⟩
        rw [← settings]
        exact congrArg Prod.snd stands
      · exact waits r is (owned r ▸ announcing)
      · rw [← rpu]; exact skipped is
    refine ⟨fun ⟨x, mem, waiting, low⟩ => ?_, fun urgent => told item s rfl rfl rfl (new.trans (queueNew_refuses full urgent))⟩
    cases last : dropCandidate s.lnu.queue with
    | none => exact absurd ((sending_of_dropCandidate_none last x mem).symm.trans waiting) nofun
    | some e =>
      obtain ⟨inQueue, idle⟩ := dropCandidate_mem last
      have after := dropCandidate_last last
      have less : e.urgency < u := by
        have := after x mem waiting
        omega
      exact ⟨e, inQueue, idle, less, after, told e.item (replaced e.item item u s) rfl rfl rfl
        (new.trans (queueNew_replaces full last less))⟩

end Sys2Proof.Proofs
end

section
/-! PROOFS. Win-time: the head is sent at its slot, or cancelled there. -/

namespace Sys2Proof.Machine

section
variable {s : State} {e : QueueEntry} {slot : Nat}

/-- The state in which a slot has begun. -/
def atSlot (slot : Nat) (s : State) : State := { s with lnu := { s.lnu with slot := slot } }

/-- The state with a cancelled notice gone. -/
def withdrawn (item : Outgoing) (slot : Nat) (s : State) : State :=
  { s with lnu := { s.lnu with slot := slot, queue := removeUnder (keyOf item) s.lnu.queue } }

theorem headStarts_iff (quiet : s.lnu.state = .quiet) (head : queueHead s.lnu.queue = some e) :
    headStarts slot s = true ↔ slot = startSlot e s := by
  unfold headStarts
  rw [quiet, head]
  simp

/-- The head that is not cancelled is sent (R46, R48). -/
theorem winTime_sends (head : queueHead s.lnu.queue = some e) (kept : cancelled e.item e.urgency s = false) :
    winTime slot s = startSending e (atSlot slot s) := by
  have same : cancelled e.item e.urgency (atSlot slot s) = false := kept
  show winSlot slot 8 (atSlot slot s) = _
  unfold winSlot
  rw [show queueHead (atSlot slot s).lnu.queue = some e from head]
  dsimp only
  rw [same]
  rfl

/-- Where the next head has another slot, none is asked after the one cancelled. -/
theorem winTime_cancels (head : queueHead s.lnu.queue = some e) (goes : cancelled e.item e.urgency s = true)
    (queue : (cancelHead e.item (atSlot slot s)).lnu.queue = removeUnder (keyOf e.item) s.lnu.queue)
    (others : ∀ x, queueHead (removeUnder (keyOf e.item) s.lnu.queue) = some x →
      startSlot x (cancelHead e.item (atSlot slot s)) ≠ slot) :
    winTime slot s = cancelHead e.item (atSlot slot s) := by
  have same : cancelled e.item e.urgency (atSlot slot s) = true := goes
  show winSlot slot 8 (atSlot slot s) = _
  unfold winSlot
  rw [show queueHead (atSlot slot s).lnu.queue = some e from head]
  dsimp only
  rw [if_pos same, queue]
  split
  next => rfl
  next x found => exact if_neg (others x found)

/-- An entry whose own slot is another one does not start at the slot just begun (R47). -/
theorem startSlot_ne {x : QueueEntry} {t : State} (begun : t.lnu.slot = slot) (other : slotOf x t ≠ slot) :
    startSlot x t ≠ slot := by
  unfold startSlot
  dsimp only
  rw [begun]
  (repeat' split) <;> omega

/-- The state with a cancelled initial CLAIM gone and its claim WAITING again. -/
def returned (r : Resource) (item : Outgoing) (slot : Nat) (s : State) : State :=
  setOwn r { own r s with state := .waiting } (withdrawn item slot s)

/-- That an initial CLAIM may not be announced (R85, R86). -/
def barred (r : Resource) (u : Nat) (s : State) : Prop :=
  dupPresent s = true ∨ u < 6 ∧ (own r s).urgency < 6 ∧
    (capacityOf r s < (own r s).amount + othersSum r s ∨ (incomplete r s).isSome = true)

variable {r : Resource} {item : Outgoing}

theorem cancelled_of_barred (announced : (own r s).state = .announcing) {u : Nat} (bar : barred r u s) :
    cancelled (.claim r false) u s = true := by
  have amount : claimAmount r false s = (own r s).amount := by simp [claimAmount, announced]
  unfold cancelled
  dsimp only
  rw [amount, Bool.or_eq_true, Bool.or_eq_true, Bool.and_eq_true, Bool.or_eq_true, decide_eq_true_iff]
  rcases bar with dup | ⟨low, -, full | open_⟩
  · exact .inl (.inl dup)
  · exact .inr ⟨low, .inl (by simpa [fits] using full)⟩
  · exact .inr ⟨low, .inr open_⟩

theorem own_returned : own r (beginEvent (returned r item slot s)) = { own r s with state := .waiting } := by cases r <;> rfl

theorem othersSum_returned (announced : (own r s).state = .announcing) :
    othersSum r (beginEvent (returned r item slot s)) = othersSum r s := by
  have settling : ownSettling r (beginEvent (returned r item slot s)) = ownSettling r s := by
    unfold ownSettling
    rw [own_returned, announced]
    rfl
  unfold othersSum
  rw [settling]
  cases r <;> rfl

/-- The claim of a barred CLAIM is not announced again. -/
theorem reexamineNow_returned (announced : (own r s).state = .announcing) {u : Nat} (bar : barred r u s) :
    reexamineNow r (beginEvent (returned r item slot s)) = beginEvent (returned r item slot s) := by
  have waiting : (own r (beginEvent (returned r item slot s))).state = .waiting := by rw [own_returned]
  have sums := othersSum_returned (item := item) (slot := slot) announced
  have same : dupPresent (beginEvent (returned r item slot s)) = dupPresent s ∧
      capacityOf r (beginEvent (returned r item slot s)) = capacityOf r s ∧
      incomplete r (beginEvent (returned r item slot s)) = incomplete r s := by
    cases r <;> exact ⟨rfl, rfl, rfl⟩
  obtain ⟨dup, capacity, open_⟩ := same
  have may : ¬ mayAnnounce r (own r (beginEvent (returned r item slot s))).amount (beginEvent (returned r item slot s)) = true := by
    unfold mayAnnounce fits
    rw [dup, capacity, open_, sums, own_returned]
    simp only [Bool.and_eq_true, Bool.not_eq_true', Bool.or_eq_true, decide_eq_true_iff, Option.isNone_iff_eq_none]
    rintro ⟨⟨-, single⟩, high⟩
    rcases bar with present | ⟨-, low, full⟩
    · exact absurd (present.symm.trans single) nofun
    · rcases high with high | ⟨⟨-, closed⟩, fit⟩
      · exact absurd low (not_lt.mpr high)
      · rcases full with full | incomplete'
        · exact absurd full (not_lt.mpr fit)
        · rw [closed] at incomplete'; cases incomplete'
  unfold reexamineNow
  rw [settleCheck_of_idle (by rw [waiting]; decide) (by rw [waiting]; decide)]
  unfold announce
  dsimp only
  rw [waiting]
  exact if_neg may

end

end Sys2Proof.Machine

namespace Sys2Proof.Proofs

open Sys2Proof Sys2Proof.Machine

/-- Settles O23: the head's slot by definition; there it is sent or cancelled, and the next head has another slot. -/
theorem winTimeSendsHead : Obligations.WinTimeSendsHead := by
  intro e s h on quietLine head mine fair slot rest cancelledFrom
  have starts : ∀ n, headStarts n s = true ↔ n = slot := fun n => headStarts_iff quietLine head
  have arising : arises (.winTime slot) s = true := arises_and on ((starts slot).mpr rfl)
  refine ⟨fun other ne => ?_, fun kept => ?_, fun next => ⟨fun r item goes => ?_, fun r item announced goes => ?_⟩⟩
  · have never : (active s && headStarts other s) = false := by
      rw [on, Bool.true_and, ← Bool.not_eq_true, starts]
      exact ne
    show Host.Outcome.next (if (active s && headStarts other s) = true then _ else s) = _
    rw [never]
    rfl
  · refine exec_of_rested (u := startSending e (atSlot slot s)) arising ?_ ?_
    · exact winTime_sends (s := beginEvent s) head kept
    · exact ⟨h.1, h.2⟩
  · have gone : cancelHead e.item (atSlot slot (beginEvent s)) = beginEvent (withdrawn e.item slot s) := by rw [item]; rfl
    have cancels : cancelled e.item e.urgency (beginEvent s) = true := by
      rw [item]
      exact (Bool.or_eq_true _ _).mpr (goes.imp id (fun other => bne_iff_ne.mpr other))
    refine exec_of_rested (u := withdrawn e.item slot s) arising ?_ ⟨h.1, h.2⟩
    refine Eq.trans (winTime_cancels (s := beginEvent s) head cancels (by rw [gone]; rfl) fun x found => ?_) gone
    rw [gone]
    exact startSlot_ne rfl (next x found)
  · have waits : Rested (returned r e.item slot s) := by cases r <;> exact ⟨h.1, h.2⟩
    have gone : cancelHead e.item (atSlot slot (beginEvent s)) = emit (.reexamine r) (beginEvent (returned r e.item slot s)) := by
      rw [item]
      have back := own_claimBackToWaiting (r := r) (s := beginEvent (withdrawn (.claim r false) slot s))
        (by cases r <;> exact announced)
      refine (congrArg (emit (.reexamine r)) back).trans ?_
      cases r <;> rfl
    have cancels : cancelled e.item e.urgency (beginEvent s) = true := by
      rw [item]
      exact cancelled_of_barred announced goes
    have taken : winTime slot (beginEvent s) = cancelHead e.item (atSlot slot (beginEvent s)) := by
      refine winTime_cancels (s := beginEvent s) head cancels (by rw [gone]; cases r <;> rfl) fun x found => ?_
      rw [gone]
      exact startSlot_ne (by cases r <;> rfl) (by cases r <;> exact next x found)
    refine (exec_of_arises arising).trans (congrArg _ ?_)
    refine (event_handing (taken.trans gone) waits (reexamineNow_returned announced goes) waits).trans ?_
    cases r <;> rfl

end Sys2Proof.Proofs
end

section
/-! PROOFS. What this station sends another reads: bytes and fields, the check, and the contents kind by kind. -/

namespace Sys2Proof.Machine

/-! ### Bytes and fields -/

theorem length_bytesOf (k n : Nat) : (bytesOf k n).length = k := by
  induction k with
  | zero => rfl
  | succ k ih => exact congrArg (· + 1) ih

theorem toNat_char (n : Nat) : (char n).toNat = n % 256 := BitVec.toNat_ofNat n 8

theorem byteAt_cons_zero (c : Byte) (bs : List Byte) : byteAt (c :: bs) 0 = c.toNat := rfl

theorem byteAt_cons_succ (c : Byte) (bs : List Byte) (i : Nat) : byteAt (c :: bs) (i + 1) = byteAt bs i := rfl

/-- A two-byte field as sent is read modulo 65536. -/
theorem natOfBytes_two (n : Nat) : natOfBytes (bytesOf 2 n) = n % 65536 := by
  simp only [bytesOf, natOfBytes, List.foldl_cons, List.foldl_nil, BitVec.toNat_ofNat]
  omega

/-- The two-byte field that follows a run of bytes. -/
theorem fieldAt_append {front : List Byte} {i : Nat} (len : front.length = i) (n : Nat) (rest : List Byte) :
    fieldAt (front ++ (bytesOf 2 n ++ rest)) i 2 = n % 65536 := by
  unfold fieldAt
  rw [List.drop_left' len, List.take_left' (length_bytesOf 2 n), natOfBytes_two]

/-! ### The check (R40) -/

theorem crcBit_lt (reg : Nat) (b : Bool) : crcBit reg b < 65536 := by
  have shifted : 2 * reg % 65536 < 2 ^ 16 := Nat.mod_lt _ (by decide)
  unfold crcBit
  dsimp only
  split
  · exact shifted
  · exact Nat.xor_lt_two_pow shifted (by decide)

theorem foldl_crcBit_lt (l : List Nat) (c : Byte) (reg : Nat) (h : reg < 65536) :
    l.foldl (fun acc i => crcBit acc (c.toNat.testBit i)) reg < 65536 := by
  induction l generalizing reg with
  | nil => exact h
  | cons i l ih => exact ih _ (crcBit_lt _ _)

theorem crcOf_lt (bs : List Byte) : crcOf bs < 65536 := by
  have folded : ∀ (l : List Byte) (reg : Nat), reg < 65536 → l.foldl crcByte reg < 65536 := by
    intro l
    induction l with
    | nil => exact fun _ h => h
    | cons c l ih => exact fun reg h => ih _ (foldl_crcBit_lt _ c reg h)
  exact folded bs _ (by decide)

/-! ### The frame read (R40, R41, R42) -/

/-- Header and body of a notice, over which the check is taken. -/
def covered (item : Outgoing) (u station : Nat) (body : List Byte) : List Byte :=
  [char (kindCode item + 16 * u), char station, char body.length] ++ body

theorem kindCode_range (item : Outgoing) : 1 ≤ kindCode item ∧ kindCode item ≤ 8 := by cases item <;> simp [kindCode]

theorem frame_eq (item : Outgoing) (u station : Nat) (body : List Byte) :
    frame item u station body = covered item u station body ++ bytesOf 2 (crcOf (covered item u station body)) := rfl

section
variable {item : Outgoing} {u station : Nat} {body : List Byte}

theorem checkAgrees_frame : checkAgrees (frame item u station body) = true := by
  have len : (frame item u station body).length - 2 = (covered item u station body).length := by
    rw [frame_eq, List.length_append, length_bytesOf]
    omega
  have field := fieldAt_append (front := covered item u station body) rfl (crcOf (covered item u station body)) []
  unfold checkAgrees
  rw [len, frame_eq, List.take_left' rfl, beq_iff_eq]
  rw [List.append_nil] at field
  rw [field, Nat.mod_eq_of_lt (crcOf_lt _)]

theorem header_frame (low : u < 8) (short : station ≤ 24) (len : body.length < 256) :
    byteAt (frame item u station body) 0 = kindCode item + 16 * u ∧ byteAt (frame item u station body) 1 = station ∧
      byteAt (frame item u station body) 2 = body.length ∧ ((frame item u station body).drop 3).take body.length = body := by
  have kind : kindCode item ≤ 8 := (kindCode_range item).2
  have first : byteAt (frame item u station body) 0 = (kindCode item + 16 * u) % 256 := toNat_char _
  have second : byteAt (frame item u station body) 1 = station % 256 := toNat_char _
  have third : byteAt (frame item u station body) 2 = body.length % 256 := toNat_char _
  refine ⟨by omega, by omega, by omega, ?_⟩
  exact List.take_left' rfl

/-- No kind's body is longer than 28 characters. -/
theorem small_of_lengthFits {kind len : Nat} (h : lengthFits kind len = true) : len < 256 := by
  unfold lengthFits at h
  split at h <;> simp at h <;> omega

/-- A frame with a body of its kind's length is read with that body's contents. -/
theorem readNotice_frame (low : u < 8) (one : 1 ≤ station) (short : station ≤ 24) {c : Content}
    (len : lengthFits (kindCode item) body.length = true)
    (content : contentOf (kindCode item) body = some c) :
    readNotice (frame item u station body) = .ok { urgency := u, station := station, role := .tower, content := c } := by
  obtain ⟨first, second, third, inside⟩ := header_frame (item := item) low short (small_of_lengthFits len)
  have kind := kindCode_range item
  have kindRead : (kindCode item + 16 * u) % 16 = kindCode item := by omega
  have urgencyRead : (kindCode item + 16 * u) / 16 % 8 = u := by omega
  have stationRead : station % 32 = station := by omega
  have roleRead : station / 32 % 4 = 0 := by omega
  unfold readNotice
  dsimp only
  rw [checkAgrees_frame, first, second, third, inside, kindRead, urgencyRead, stationRead, roleRead]
  rw [if_neg (by decide), if_neg (by omega)]
  show (if station = 0 ∨ 24 < station then _ else _) = _
  rw [if_neg (by omega), len, content]
  rfl

end

/-! ### The contents kind by kind (section 11.5) -/

section
variable (s : State)

/-- The bit of a flag character is the flag. -/
theorem testBit_flagChar (b : Bool) : (flagChar b s).toNat.testBit 0 = b := by
  unfold flagChar
  rw [toNat_char, Nat.testBit_zero]
  cases b <;> simp only [flag, decide_eq_true_eq, decide_eq_false_iff_not, if_true, Bool.false_eq_true, if_false] <;> omega

theorem refreshFlag_ne_zero : (refreshFlag s).toNat ≠ 0 := by
  unfold refreshFlag
  dsimp only
  split
  next => decide
  next ne => exact fun h => ne (BitVec.eq_of_toNat_eq h)

theorem length_reportBody : (reportBody s).length = 28 := by
  simp [reportBody]

theorem length_tripBody (x : Snapshot) : (tripBody x).length = 14 := by
  simp [tripBody]

theorem lengthFits_bodyOf (item : Outgoing) : lengthFits (kindCode item) (bodyOf item s).length = true := by
  cases item with
  | report => rw [show bodyOf .report s = reportBody s from rfl, length_reportBody]; rfl
  | stop => unfold bodyOf; dsimp only; split <;> rfl
  | rollcall q =>
    cases q with
    | hold r => cases r <;> rfl
    | _ => rfl
  | trip =>
    unfold bodyOf
    dsimp only
    cases s.ftu.snapshot with
    | none => rfl
    | some x => rw [Option.map_some, Option.getD_some, length_tripBody]; rfl
  | _ => rfl

theorem resourceOf_resourceCode (r : Resource) : resourceOf (char (resourceCode r)).toNat = some r := by cases r <;> rfl

theorem reportStop_stopField (d : Option StopDemand) : reportStop (stopField d) = d.isSome := by
  cases d with
  | none => rfl
  | some x => obtain ⟨cause, u, e⟩ := x; cases cause <;> rfl

/-- The level, the guard code and the STOP field of a REPORT are read as sent. -/
theorem contentOf_reportBody (low : 0 ≤ s.msu.volume) (high : s.msu.volume < 20971520) :
    contentOf 1 (reportBody s) = some (contentSent .report s) := by
  obtain ⟨rest, body⟩ : ∃ rest, reportBody s = bytesOf 2 (s.msu.lf.toNat + 32768 * flag s.ftu.safeHold) ++
      (bytesOf 3 ((floorDiv s.msu.volume 10).toNat + 2097152 * guardCode s.ogu.state) ++
      (bytesOf 2 (lowBits 11 s.msu.rate + 2048 * stopField s.ogu.stop + 16384 * modeCode s.sld.mode) ++ rest)) :=
    ⟨_, by simp only [reportBody, List.append_assoc]; rfl⟩
  have levelRead : fieldAt (reportBody s) 0 2 % 32768 = s.msu.lf.toNat % 32768 := by
    rw [body, ← List.nil_append (bytesOf 2 _ ++ _), fieldAt_append (front := []) (i := 0) rfl]
    omega
  have guardRead : byteAt (reportBody s) 2 / 32 = guardCode s.ogu.state := by
    have code : guardCode s.ogu.state ≤ 5 := by cases s.ogu.state <;> decide
    have volume : (floorDiv s.msu.volume 10).toNat < 2097152 := by unfold floorDiv; omega
    have byte : byteAt (reportBody s) 2 = ((floorDiv s.msu.volume 10).toNat + 2097152 * guardCode s.ogu.state) / 256 ^ 2 % 256 := by
      rw [body]
      exact BitVec.toNat_ofNat _ 8
    rw [byte]
    omega
  have stopRead : reportStop (fieldAt (reportBody s) 5 2 / 2048 % 8) = s.ogu.stop.isSome := by
    have code : stopField s.ogu.stop ≤ 4 := by
      cases s.ogu.stop with
      | none => exact Nat.zero_le _
      | some x => obtain ⟨cause, u, e⟩ := x; cases cause <;> simp [stopField, causeCode]
    have mode : modeCode s.sld.mode ≤ 3 := by cases s.sld.mode <;> decide
    have rate : lowBits 11 s.msu.rate < 2048 := by unfold lowBits; omega
    rw [body, ← List.append_assoc, fieldAt_append (by rw [List.length_append, length_bytesOf, length_bytesOf]), ← reportStop_stopField]
    congr 1
    omega
  show some (Content.report _ _ _) = _
  rw [levelRead, guardRead, stopRead]
  rfl

/-- Every body is read with its contents. -/
theorem contentOf_bodyOf (item : Outgoing) (low : 0 ≤ s.msu.volume) (high : s.msu.volume < 20971520) :
    contentOf (kindCode item) (bodyOf item s) = some (contentSent item s) := by
  cases item with
  | report => exact contentOf_reportBody s low high
  | claim r refresh =>
    have amount : (char (claimAmount r refresh s)).toNat = claimAmount r refresh s % 256 := toNat_char _
    have refreshed : ((if refresh then refreshFlag s else 0 : Byte).toNat != 0) = refresh := by
      cases refresh
      · rfl
      · exact bne_iff_ne.mpr (refreshFlag_ne_zero s)
    show (resourceOf (char (resourceCode r)).toNat).map (fun x => Content.claim x (char (claimAmount r refresh s)).toNat
      ((if refresh then refreshFlag s else 0 : Byte).toNat != 0)) = _
    rw [resourceOf_resourceCode, amount, refreshed]
    rfl
  | release r =>
    show (resourceOf (char (resourceCode r)).toNat).map Content.release = _
    rw [resourceOf_resourceCode]
    rfl
  | alarm c =>
    have code : (char (alarmCodeNumber c)).toNat = alarmCodeNumber c := by
      cases c with
      | latch l => cases l <;> rfl
      | _ => rfl
    show some (Content.alarm (char (alarmCodeNumber c)).toNat ((flagChar (alarmSet c s) s).toNat.testBit 0)) = _
    rw [code, testBit_flagChar]
    rfl
  | stop =>
    unfold bodyOf contentSent
    dsimp only
    cases s.ogu.stop with
    | none =>
      show some (Content.stop ((flagChar false s).toNat.testBit 0) .stuck) = _
      rw [testBit_flagChar]
    | some d =>
      show some (Content.stop ((flagChar true s).toNat.testBit 0) (causeOf (char (causeCode d.cause)).toNat)) = _
      rw [testBit_flagChar]
      obtain ⟨cause, _, _⟩ := d
      cases cause <;> rfl
  | tariff =>
    have elapsed : fieldAt (bodyOf .tariff s) 1 2 = s.flc.elapsed % 65536 := fieldAt_append (front := [flagChar s.flc.night s]) rfl _ []
    show some (Content.tariff ((flagChar s.flc.night s).toNat.testBit 0) (fieldAt (bodyOf .tariff s) 1 2)) = _
    rw [testBit_flagChar, elapsed]
    rfl
  | rollcall q =>
    cases q with
    | hold r => cases r <;> rfl
    | alarm u =>
      show (questionOf 2 (char u).toNat).map Content.rollcall = _
      rw [toNat_char]
      rfl
    | stopping => rfl
  | trip => rfl

end

end Sys2Proof.Machine

namespace Sys2Proof.Proofs

open Sys2Proof Sys2Proof.Machine

/-- Settles O60: the frame passes the check, the header is read back, and each kind's body with its contents. -/
theorem noticeReadsAsSent : Obligations.NoticeReadsAsSent := by
  intro item u station s low one short _ dry high
  exact readNotice_frame low one short (lengthFits_bodyOf s item) (contentOf_bodyOf s item dry high)

end Sys2Proof.Proofs
end

section
/-! PROOFS. The runs that any event is made of, for what the laws of the claims, the joining and the stages speak about. -/

namespace Sys2Proof.Machine

/-- The part of a state that these laws speak about; whether an evaluation of the frost controller is handed on is in it. -/
structure Kept where
  mode : StationMode
  resetLow : Bool
  settings : Settings
  ownSupply : OwnClaim
  ownLoad : OwnClaim
  supplyTable : Vector (Option Holding) 24
  loadTable : Vector (Option Holding) 24
  questions : List Question
  inFlight : Option Question
  answeredSupply : Bool
  answeredLoad : Bool
  fill : FillState
  request : Bool
  onLine : Option OnLine
  lineState : LineState
  stages : Vector Stage 4
  frost : FrostState
  waits : Bool

/-- That part of a state. -/
def kept (s : State) : Kept :=
  { mode := s.sld.mode, resetLow := s.resetLow, settings := s.sld.settings
    ownSupply := s.clu.ownSupply, ownLoad := s.clu.ownLoad, supplyTable := s.clu.supplyTable, loadTable := s.clu.loadTable
    questions := s.clu.questions, inFlight := s.clu.inFlight
    answeredSupply := s.clu.answeredSupply, answeredLoad := s.clu.answeredLoad
    fill := s.flc.state, request := s.flc.openRequest, onLine := s.lnu.onLine, lineState := s.lnu.state
    stages := s.odu.stages, frost := s.frc.state, waits := decide (.frostEvaluate ∈ s.handOns) }

/-- The amounts of an entry that yields and fits are judged by. -/
def figures (h : Holding) : Nat × Nat := (yieldPart h.share, largerPart h.share)

/-- A claim whose amounts stay; it may go from WAITING to ANNOUNCING and back. -/
def Adjusts (c d : OwnClaim) : Prop :=
  d.amount = c.amount ∧ d.held = c.held ∧ d.raise.map Raise.pending = c.raise.map Raise.pending ∧
    (d.state = c.state ∨ (c.state = .waiting ∨ c.state = .announcing) ∧ (d.state = .waiting ∨ d.state = .announcing))

/-- A table in which the own entry goes or keeps its amounts, and no amount exceeds what a CLAIM carries or what the entry had. -/
def TableKept (r : Resource) (v : Vector (Option Holding) 24) (s : State) : Prop :=
  ∀ i : Fin 24, (i.val + 1 = (setting s).station → v[i] = none ∨ (v[i]).map figures = ((claimTable r s)[i]).map figures) ∧
    ∀ h, v[i] = some h → largerPart h.share ≤ 255 ∨
      ∃ g, (claimTable r s)[i] = some g ∧ largerPart h.share ≤ largerPart g.share

/-- A fill that stands on the own claim: it is entered only where that claim already stands asked (R108, R109). -/
def standsOnClaim : FillState → Bool
  | .fill .tariff => true
  | .fill .turnover => true
  | _ => false

/-- The relay of a stage in this state is energised. -/
def energised (x : Stage) : Bool := x.state == .proving || x.state == .on

/-- The states that an event's operations lead to from a state. The own claims of the resources that `loose` names may change in any
way, and so may the stages where it names LOAD and the fill state where it names SUPPLY; the others change by the named operations
alone. Where `free` holds the questions may change in any way, else only where some wait or one is asked; more than two never come to
wait. -/
inductive Runs (loose : Resource → Prop) (free : Prop) (s : State) : State → Prop where
  | refl : Runs loose free s s
  /-- Anything else. -/
  | still {t u : State} : Runs loose free s t → kept u = kept t → Runs loose free s u
  | emit {t : State} (h : HandOn) : Runs loose free s t → Runs loose free s (emit h t)
  | notice {t : State} (item : Outgoing) (n : Nat) : Runs loose free s t → Runs loose free s (queueNotice item n t)
  | adjust {t : State} (r : Resource) (c : OwnClaim) : Runs loose free s t → Adjusts (own r t) c → Runs loose free s (setOwn r c t)
  | table {t : State} (r : Resource) (v : Vector (Option Holding) 24) : Runs loose free s t → TableKept r v t →
      Runs loose free s (setTable r v t)
  | rawOwn {t : State} (r : Resource) (c : OwnClaim) : loose r → Runs loose free s t → Runs loose free s (setOwn r c t)
  | rawTable {t : State} (r : Resource) (v : Vector (Option Holding) 24) : loose r → Runs loose free s t →
      Runs loose free s (setTable r v t)
  | lose {t : State} (r : Resource) (b : Bool) : ¬ loose r → Runs loose free s t →
      (own r t).state = .settling ∨ (own r t).state = .held ∨ (entryAt r (setting t).station t).isSome = true →
      Runs loose free s (loseOwn r b t)
  | withdraw {t : State} (r : Resource) : ¬ loose r → Runs loose free s t → Runs loose free s (withdrawRaise r t)
  | sent {t : State} (r : Resource) (refresh : Bool) (a u : Nat) : ¬ loose r → Runs loose free s t →
      (∃ o, t.lnu.onLine = some o ∧ o.item = .claim r refresh ∧ byteAt o.body 1 = a) →
      Runs loose free s (claimSent r refresh a u t)
  | grant {t : State} (r : Resource) : ¬ loose r → Runs loose free s t → ownSettling r t = true →
      Runs loose free s (grantOwn r (settlingAmount r t) t)
  | shape {t u : State} : loose .supply → Runs loose free s t →
      kept u = { kept t with fill := u.flc.state, request := u.flc.openRequest } → Runs loose free s u
  | fill {t : State} (new : FillState) : ¬ loose .supply → Runs loose free s t →
      (standsOnClaim new = true → holdsRequest t.flc.state = true) → Runs loose free s (setFill new t)
  | heat {t u : State} : loose .load → Runs loose free s t →
      kept u = { kept t with frost := u.frc.state, waits := decide (.frostEvaluate ∈ u.handOns) } → Runs loose free s u
  | evaluate {t : State} (l : List HandOn) : ¬ loose .load → Runs loose free s t →
      Runs loose free s (frostEvaluate { t with handOns := l })
  | stage {t : State} (k : Fin 4) (x : Stage) : Runs loose free s t →
      (¬ loose .load → energised x = true → energised (stageAt k t) = true ∧ x.command = (stageAt k t).command) → Runs loose free s (setStage k x t)
  | ask {t u : State} : Runs loose free s t → (free ∨ t.clu.inFlight.isSome = true ∨ t.clu.questions ≠ []) →
      u.clu.questions.length ≤ max 2 t.clu.questions.length →
      kept u = { kept t with
        questions := u.clu.questions, inFlight := u.clu.inFlight
        answeredSupply := u.clu.answeredSupply, answeredLoad := u.clu.answeredLoad } → Runs loose free s u
  | join {t u : State} : Runs loose free s t → t.sld.mode = .joining →
      (free ∨ t.clu.answeredSupply = true ∧ t.clu.answeredLoad = true) → kept u = { kept t with mode := .joined } →
      Runs loose free s u
  | line {t u : State} : Runs loose free s t → t.lnu.state ≠ .lineFault → kept u = { kept t with lineState := u.lnu.state } →
      Runs loose free s u
  | off {t u : State} : Runs loose free s t → kept u = { kept t with onLine := none } → Runs loose free s u
  | start {t : State} (e : QueueEntry) : Runs loose free s t → t.lnu.state ≠ .lineFault → cancelled e.item e.urgency t = false →
      Runs loose free s (startSending e t)

section
variable {loose : Resource → Prop} {free : Prop} {s t : State}

theorem runs_of_kept {u : State} (e : kept u = kept t) (m : Runs loose free s t) : Runs loose free s u := m.still e

/-! ### Updates outside that part -/

@[simp] theorem runs_blocks (n : Nat) (m : Measure) (i : Inputs) (p : Peers) (g : Guard) (u : Situation) (r : Reports) (x : Faults)
    (pi : Vector Bool 17) (pe : List Instr) :
    Runs loose free s { t with pending := pe, pins := pi, bodiesFilled := n, msu := m, ilu := i, ptb := p, ogu := g, stu := u
                               rpu := r, ftu := x } ↔ Runs loose free s t := ⟨runs_of_kept rfl, runs_of_kept rfl⟩

@[simp] theorem runs_loader (a : LoadState) (b c : Nat) :
    Runs loose free s { t with sld := { t.sld with load := a, attempt := b, clamped := c } } ↔ Runs loose free s t :=
  ⟨runs_of_kept rfl, runs_of_kept rfl⟩

@[simp] theorem runs_line (i : Inputs) (p : Parser) (n k m e : Nat) (b : Bool) (q : List QueueEntry) (g : Nat) (r : Option RollCall)
    (d : Option Nat) : Runs loose free s { t with ilu := i, lnu := { t.lnu with
      parser := p, recessive := n, slot := k, heldOff := b, dominantRun := m, queue := q, nextAge := g, rollCall := r
      dupTimer := d, errors := e } } ↔ Runs loose free s t := ⟨runs_of_kept rfl, runs_of_kept rfl⟩

@[simp] theorem runs_outputs (i : Inputs) (a b : Bool) (p : Position) :
    Runs loose free s { t with ilu := i, odu := { t.odu with inletOpen := a, position := p, alarm := b } } ↔ Runs loose free s t :=
  ⟨runs_of_kept rfl, runs_of_kept rfl⟩

@[simp] theorem runs_claims (a b c d : Option Nat) :
    Runs loose free s { t with clu := { t.clu with incompleteSupply := a, incompleteLoad := b, listening := c, answer := d } } ↔
      Runs loose free s t := ⟨runs_of_kept rfl, runs_of_kept rfl⟩

@[simp] theorem runs_fillBlock (m : Measure) (f : Faults) (a b : Bool) (d e : Nat) (j : BlockCauses) (q : Plan) (i : Option Int)
    (v y : Bool) (x z : Option Nat) (ts : Option Int) (sf : Int) :
    Runs loose free s { t with msu := m, ftu := f, flc := { t.flc with
      night := a, elapsed := d, silence := e, nightTimeoutDue := b, causes := j, plan := q, qEst := i, learning := v
      openTimer := x, clearing := z, turnoverStart := ts, shortfall := sf, unproductive := y } } ↔ Runs loose free s t :=
  ⟨runs_of_kept rfl, runs_of_kept rfl⟩

@[simp] theorem runs_frostBlock (m : Measure) (a b : Bool) (w : Vector Bool 4) (n : Nat) (v : Vector Bool 4) (r : Nat)
    (q : Option (Nat × Nat)) (f : Vector Bool 4) (c : Bool) (l h : Option Int) (g : Nat) (x : Bool) :
    Runs loose free s { t with msu := m, frc := { t.frc with
      airWatch := a, critical := b, wishes := w, target := n, selected := v, required := r, asked := q, failed := f, starved := c
      stagLow := l, stagHigh := h, stagMinutes := g, turnoverRequest := x } } ↔ Runs loose free s t :=
  ⟨runs_of_kept rfl, runs_of_kept rfl⟩

@[simp] theorem runs_emit (h : HandOn) (m : Runs loose free s t) : Runs loose free s (emit h t) := m.emit h
@[simp] theorem runs_queueNotice (item : Outgoing) (n : Nat) (m : Runs loose free s t) :
    Runs loose free s (queueNotice item n t) := m.notice item n

theorem kept_setPeer (n : Nat) (p : Peer) (t : State) : kept (setPeer n p t) = kept t := by unfold setPeer; split <;> rfl
theorem kept_setIncompleteTimer (r : Resource) (x : Option Nat) (t : State) : kept (setIncompleteTimer r x t) = kept t := by
  cases r <;> rfl

@[simp] theorem runs_setPeer (n : Nat) (p : Peer) : Runs loose free s (setPeer n p t) ↔ Runs loose free s t :=
  ⟨runs_of_kept (kept_setPeer n p t).symm, runs_of_kept (kept_setPeer n p t)⟩
@[simp] theorem runs_setIncompleteTimer (r : Resource) (x : Option Nat) :
    Runs loose free s (setIncompleteTimer r x t) ↔ Runs loose free s t :=
  ⟨runs_of_kept (kept_setIncompleteTimer r x t).symm, runs_of_kept (kept_setIncompleteTimer r x t)⟩

/-- A fold of operations made of runs. -/
theorem runs_foldl {α : Type} (f : State → α → State) (h : ∀ t k, Runs loose free s t → Runs loose free s (f t k)) (l : List α)
    (m : Runs loose free s t) : Runs loose free s (l.foldl f t) := by
  induction l generalizing t with
  | nil => exact m
  | cons k l ih => exact ih (h _ _ m)

/-! ### The tables and the own claims -/

theorem setting_of_kept {u : State} (h : kept u = kept t) : setting u = setting t := congrArg Kept.settings h

/-- An entry written: another station's within the bounds, the own one with its amounts. -/
theorem runs_setEntry {r : Resource} {n : Nat} {e : Option Holding}
    (own : n = (setting t).station → e = none ∨ e.map figures = (entryAt r n t).map figures)
    (bound : ∀ h, e = some h → largerPart h.share ≤ 255 ∨ ∃ g, entryAt r n t = some g ∧ largerPart h.share ≤ largerPart g.share)
    (m : Runs loose free s t) : Runs loose free s (setEntry r n e t) := by
  unfold setEntry
  split
  next range =>
    refine m.table r _ fun i => ?_
    have here : entryAt r n t = (claimTable r t)[n - 1]'(by omega) := by unfold entryAt; rw [dif_pos range]
    by_cases same : n - 1 = i.val
    · have at' : ((claimTable r t).set (n - 1) e (by omega))[i] = e := by
        show ((claimTable r t).set (n - 1) e (by omega))[i.val] = e
        rw [Vector.getElem_set, if_pos same]
      have entry : (claimTable r t)[i] = entryAt r n t := by
        rw [here]
        show (claimTable r t)[i.val] = _
        simp only [← same]
      rw [at', entry]
      exact ⟨fun mine => own (by omega), bound⟩
    · have at' : ((claimTable r t).set (n - 1) e (by omega))[i] = (claimTable r t)[i] := by
        show ((claimTable r t).set (n - 1) e (by omega))[i.val] = _
        rw [Vector.getElem_set, if_neg same]
        rfl
      rw [at']
      exact ⟨fun _ => .inr rfl, fun h found => .inr ⟨h, found, le_rfl⟩⟩
  next => exact m

/-- An own entry of a resource that may change in any way. -/
theorem runs_setEntry_raw {r : Resource} (may : loose r) (n : Nat) (e : Option Holding) (m : Runs loose free s t) :
    Runs loose free s (setEntry r n e t) := by
  unfold setEntry
  split
  · exact m.rawTable r _ may
  · exact m

theorem adjusts_refl (c : OwnClaim) : Adjusts c c := ⟨rfl, rfl, rfl, .inl rfl⟩

@[simp] theorem runs_claimBackToWaiting (r : Resource) (m : Runs loose free s t) : Runs loose free s (claimBackToWaiting r t) := by
  unfold claimBackToWaiting
  dsimp only
  split
  next announcing => exact m.adjust r _ ⟨rfl, rfl, rfl, .inr ⟨.inr announcing, .inl rfl⟩⟩
  next =>
    split
    next x raised =>
      split
      · exact m.adjust r _ ⟨rfl, rfl, by rw [raised]; rfl, .inl rfl⟩
      · exact m
    next => exact m

@[simp] theorem runs_announce (r : Resource) (m : Runs loose free s t) : Runs loose free s (announce r t) := by
  unfold announce
  dsimp only
  split
  next waiting =>
    split
    · refine (m.adjust r _ ?_).notice _ _
      exact ⟨rfl, rfl, rfl, .inr ⟨.inl waiting, .inr rfl⟩⟩
    · exact m
  next held =>
    split
    next x raised =>
      split
      · refine (m.adjust r _ ?_).notice _ _
        exact ⟨rfl, rfl, by rw [raised]; rfl, .inl rfl⟩
      · exact m
    next => exact m
  next => exact m

@[simp] theorem runs_tellLost (r : Resource) (m : Runs loose free s t) : Runs loose free s (tellLost r t) := by
  cases r <;> exact m.emit _
@[simp] theorem runs_tellGranted (r : Resource) (m : Runs loose free s t) : Runs loose free s (tellGranted r t) := by
  cases r <;> exact m.emit _
@[simp] theorem runs_tellRaiseWithdrawn (r : Resource) (m : Runs loose free s t) : Runs loose free s (tellRaiseWithdrawn r t) := by
  cases r
  · exact m
  · exact m.emit _

theorem runs_loseOwn {r : Resource} (b : Bool) (holds : loose r ∨ (own r t).state = .settling ∨ (own r t).state = .held ∨
    (entryAt r (setting t).station t).isSome = true) (m : Runs loose free s t) : Runs loose free s (loseOwn r b t) := by
  by_cases may : loose r
  · have dropped := runs_setEntry_raw may (setting (setOwn r (lostRecord (own r t)) t)).station none
      (m.rawOwn r (lostRecord (own r t)) may)
    unfold loseOwn giveUp
    refine (runs_tellLost r ?_).emit _
    split
    · exact dropped.notice _ _
    · exact dropped
  · exact m.lose r b may (holds.resolve_left may)

@[simp] theorem runs_withdrawRaise (r : Resource) (m : Runs loose free s t) : Runs loose free s (withdrawRaise r t) := by
  by_cases may : loose r
  · unfold withdrawRaise
    dsimp only
    split
    · exact (runs_tellRaiseWithdrawn r ((runs_setEntry_raw may _ _ (m.rawOwn r _ may)).notice _ _)).emit _
    · exact m
  · exact m.withdraw r may

@[simp] theorem runs_settleCheck (r : Resource) (m : Runs loose free s t) : Runs loose free s (settleCheck r t) := by
  unfold settleCheck
  dsimp only
  split
  · exact m
  · split
    next settling =>
      split
      · exact m
      · exact runs_loseOwn true (.inr (.inl settling)) m
    next =>
      split
      · split
        · exact m
        · exact runs_withdrawRaise r m
      · exact m

@[simp] theorem runs_reexamineNow (r : Resource) (m : Runs loose free s t) : Runs loose free s (reexamineNow r t) :=
  runs_announce r (runs_settleCheck r m)

@[simp] theorem runs_ownEntryUrgency (r : Resource) (u : Nat) (m : Runs loose free s t) : Runs loose free s (ownEntryUrgency r u t) := by
  unfold ownEntryUrgency
  split
  next e found =>
    split
    · exact m
    · refine (runs_setEntry (fun _ => .inr ?_) (fun h is => .inr ⟨e, found, ?_⟩) m).emit _
      · rw [found]; rfl
      · obtain rfl := Option.some.inj is
        exact le_rfl
  next => exact m

@[simp] theorem runs_changeUrgency (r : Resource) (u : Nat) (m : Runs loose free s t) : Runs loose free s (changeUrgency r u t) := by
  have urgent : Runs loose free s (setOwn r { own r t with urgency := u } t) := m.adjust r _ (adjusts_refl _)
  unfold changeUrgency
  dsimp only
  split
  · exact m
  · split
    · exact m
    · exact runs_announce r urgent
    · exact urgent.notice _ _
    · split
      · exact runs_announce r ((runs_ownEntryUrgency r u urgent).notice _ _)
      · exact runs_announce r (runs_ownEntryUrgency r u urgent)

/-! ### Requests of a job whose claim may change in any way -/

section
variable {r : Resource} (may : loose r)
include may

theorem runs_withdrawOwn (m : Runs loose free s t) : Runs loose free s (withdrawOwn r t) := by
  unfold withdrawOwn
  split
  · exact m
  · exact m.rawOwn r _ may
  · exact (m.rawOwn r _ may).notice _ _
  · exact (runs_setEntry_raw may _ _ (m.rawOwn r _ may)).notice _ _

theorem runs_askFresh (a u : Nat) (m : Runs loose free s t) : Runs loose free s (askFresh r a u t) :=
  runs_announce r (m.rawOwn r _ may)

theorem runs_lowerOwn (a : Nat) (m : Runs loose free s t) : Runs loose free s (lowerOwn r a t) :=
  (runs_setEntry_raw may _ _ (m.rawOwn r _ may)).notice _ _

theorem runs_raiseOwn (a : Nat) (m : Runs loose free s t) : Runs loose free s (raiseOwn r a t) := by
  unfold raiseOwn
  dsimp only
  split
  · exact runs_announce r (m.rawOwn r _ may)
  · split
    · exact runs_announce r (m.rawOwn r _ may)
    · exact m.rawOwn r _ may
    · exact (runs_setEntry_raw may _ _ (m.rawOwn r _ may)).notice _ _

theorem runs_askAmount (a : Nat) (m : Runs loose free s t) : Runs loose free s (askAmount r a t) := by
  unfold askAmount
  dsimp only
  split
  · exact m
  · split
    · exact m
    · exact runs_announce r (m.rawOwn r _ may)
    · exact m.rawOwn r _ may
    · exact runs_askFresh may _ _ (runs_withdrawOwn may m)
    · split
      · exact runs_lowerOwn may a m
      · exact runs_raiseOwn may a m

theorem runs_askOwn (a u : Nat) (m : Runs loose free s t) : Runs loose free s (askOwn r a u t) := by
  unfold askOwn
  split
  · exact runs_withdrawOwn may m
  · split
    · exact runs_askFresh may _ _ m
    · exact runs_askAmount may _ (runs_changeUrgency r u m)

end

/-! ### Questions -/

@[simp] theorem runs_setIncomplete (r : Resource) (m : Runs loose free s t) : Runs loose free s (setIncomplete r t) :=
  (runs_setIncompleteTimer r _).mpr m

@[simp] theorem runs_markIncompleteFor (q : Question) (m : Runs loose free s t) : Runs loose free s (markIncompleteFor q t) := by
  unfold markIncompleteFor
  split
  · exact runs_setIncomplete _ m
  · exact m

@[simp] theorem runs_askNext (m : Runs loose free s t) : Runs loose free s (askNext t) := by
  unfold askNext
  split
  · exact m
  · split
    · exact m
    next q qs waiting =>
      exact (m.ask (u := { t with clu := { t.clu with inFlight := some q, questions := qs } })
        (.inr (.inr (by rw [waiting]; exact nofun)))
        (by rw [waiting, List.length_cons]; exact (Nat.le_succ _).trans (Nat.le_max_right 2 _)) rfl).notice _ _

end

end Sys2Proof.Machine
end

section
/-! PROOFS. Every operation of the blocks is made of such runs. -/

namespace Sys2Proof.Machine

section
variable {loose : Resource → Prop} {free : Prop} {s t : State}

@[simp] theorem runs_countSkipped (m : Runs loose free s t) : Runs loose free s (countSkipped t) := by
  unfold countSkipped; simp [m]

@[simp] theorem runs_dueEvent (m : Runs loose free s t) : Runs loose free s (dueEvent t) := by
  unfold dueEvent; dsimp only; (repeat' split) <;> simp (maxDischargeDepth := 30) [m]

@[simp] theorem runs_noteOccurrence (m : Runs loose free s t) : Runs loose free s (noteOccurrence t) := by
  unfold noteOccurrence; dsimp only; simp (maxDischargeDepth := 30) [m]

@[simp] theorem runs_lineError (m : Runs loose free s t) : Runs loose free s (lineError t) := by
  unfold lineError; dsimp only; simp (maxDischargeDepth := 30) [m]

@[simp] theorem runs_changeSeen (m : Runs loose free s t) : Runs loose free s (changeSeen t) := by
  unfold changeSeen; dsimp only; simp (maxDischargeDepth := 30) [m]

@[simp] theorem runs_dropOwnEntry (r : Resource) (m : Runs loose free s t) : Runs loose free s (dropOwnEntry r t) :=
  runs_setEntry (fun _ => .inl rfl) nofun m

@[simp] theorem runs_handField (f : KeyField) (m : Runs loose free s t) : Runs loose free s (handField f t) := m.emit _

/-- A listed entry stands in the table. -/
theorem entryAt_of_mem_entriesOf {r : Resource} {e : Nat × Holding} (h : e ∈ entriesOf r t) : (entryAt r e.1 t).isSome = true := by
  unfold entriesOf at h
  obtain ⟨p, mem, found⟩ := List.mem_filterMap.mp h
  obtain ⟨x, is, rfl⟩ := Option.map_eq_some_iff.mp found
  obtain ⟨bound, at'⟩ := List.mem_zipIdx' mem
  have less : p.2 < 24 := by simpa using bound
  have here : entryAt r (p.2 + 1) t = (claimTable r t)[p.2] := by unfold entryAt; rw [dif_pos (by omega)]; rfl
  rw [here, show (claimTable r t)[p.2] = p.1 by rw [at']; simp, is]
  rfl

theorem mem_of_yields {me excess : Nat} {l : List (Nat × Nat × Nat)} (h : me ∈ takeYielders excess (sortYield l)) :
    ∃ u a, (me, u, a) ∈ l := by
  have front : ∀ (l : List (Nat × Nat × Nat)) (x : Nat), me ∈ takeYielders x l → ∃ u a, (me, u, a) ∈ l := by
    intro l
    induction l with
    | nil => intro x m; cases m
    | cons y ys ih =>
      intro x m
      obtain ⟨n, u, a⟩ := y
      unfold takeYielders at m
      split at m
      · cases m
      · rcases List.mem_cons.mp m with rfl | later
        · exact ⟨u, a, List.mem_cons_self⟩
        · obtain ⟨u', a', found⟩ := ih _ later
          exact ⟨u', a', List.mem_cons_of_mem _ found⟩
  obtain ⟨u, a, found⟩ := front _ _ h
  exact ⟨u, a, (sortYield_perm l).mem_iff.mp found⟩

theorem entryAt_of_preempts {r : Resource} {n me : Nat} (h : me ∈ preemptYielders r n t) : (entryAt r me t).isSome = true := by
  obtain ⟨u, a, found⟩ := mem_of_yields h
  obtain ⟨e, mem, is⟩ := List.mem_map.mp found
  cases is
  exact entryAt_of_mem_entriesOf (List.mem_of_mem_filter mem)

theorem entryAt_of_yields {me : Nat} (h : me ∈ capacityYielders t) : (entryAt .supply me t).isSome = true := by
  obtain ⟨u, a, found⟩ := mem_of_yields h
  obtain ⟨e, mem, is⟩ := List.mem_filterMap.mp (List.mem_of_mem_filter found)
  split at is
  · cases is; exact entryAt_of_mem_entriesOf mem
  · cases is

theorem runs_yieldOwn {r : Resource} {yielders : List Nat} (inside : ∀ n ∈ yielders, (entryAt r n t).isSome = true)
    (m : Runs loose free s t) : Runs loose free s (yieldOwn r yielders t) := by
  unfold yieldOwn
  split
  next mine => exact runs_loseOwn true (.inr (.inr (.inr (inside _ (List.contains_iff_mem.mp mine))))) m
  next => exact m

@[simp] theorem runs_takeCapacity (before : Nat) (m : Runs loose free s t) : Runs loose free s (takeCapacity before t) := by
  unfold takeCapacity
  split
  · exact m
  · split
    · exact (runs_yieldOwn (fun _ h => entryAt_of_yields h) m).emit _
    · exact m.emit _

@[simp] theorem runs_removeEntry (r : Resource) (n : Nat) (m : Runs loose free s t) : Runs loose free s (removeEntry r n t) := by
  unfold removeEntry
  split
  · exact m
  · exact (runs_setEntry (fun _ => .inl rfl) nofun m).emit _

theorem runs_enterInitial {n a : Nat} (other : n ≠ (setting t).station) (byte : a ≤ 255) (r : Resource) (u : Nat)
    (m : Runs loose free s t) : Runs loose free s (enterInitial r n a u t) := by
  refine runs_setEntry (fun mine => absurd mine other) (fun h is => ?_) m
  cases Option.some.inj is
  show max a _ ≤ 255 ∨ _
  cases found : entryAt r n t with
  | none => exact .inl (max_le byte (Nat.zero_le _))
  | some e =>
    obtain ⟨share, u', g⟩ := e
    have old : ∀ x : Option Nat, x.getD 0 ≤ largerPart share →
        max a (x.getD 0) ≤ 255 ∨ ∃ g', some (Holding.mk share u' g) = some g' ∧ max a (x.getD 0) ≤ largerPart g'.share := by
      intro x le
      rcases Nat.le_total (x.getD 0) a with low | high
      · exact .inl (max_le byte (low.trans byte))
      · exact .inr ⟨_, rfl, by rw [Nat.max_eq_right high]; exact le⟩
    cases share with
    | held b => exact old (some b) le_rfl
    | settling p b x late => exact old b (Nat.le_max_right _ _)

@[simp] theorem runs_object (r : Resource) (newcomer : Nat) (m : Runs loose free s t) : Runs loose free s (object r newcomer t) := by
  unfold object; dsimp only; (repeat' split) <;> simp (maxDischargeDepth := 30) [m]

theorem runs_initialHeard {n a : Nat} (other : n ≠ (setting t).station) (byte : a ≤ 255) (r : Resource) (u : Nat)
    (m : Runs loose free s t) : Runs loose free s (initialHeard r n a u t) := by
  have entered := runs_enterInitial other byte r u m
  unfold initialHeard
  dsimp only
  split
  · exact (runs_yieldOwn (fun _ h => entryAt_of_preempts h) entered).emit _
  · exact (runs_object r n entered).emit _

theorem runs_refreshHeard {n a : Nat} (other : n ≠ (setting t).station) (byte : a ≤ 255) (r : Resource) (u : Nat)
    (m : Runs loose free s t) : Runs loose free s (refreshHeard r n a u t) :=
  (runs_setEntry (fun mine => absurd mine other) (fun h is => by cases Option.some.inj is; exact .inl byte) m).emit _

theorem runs_claimHeard {n a : Nat} (other : n ≠ (setting t).station) (byte : a ≤ 255) (r : Resource) (refresh : Bool) (u : Nat)
    (m : Runs loose free s t) : Runs loose free s (claimHeard r refresh n a u t) := by
  unfold claimHeard
  split
  · exact runs_removeEntry r n m
  · split
    · exact runs_refreshHeard other byte r u m
    · exact runs_initialHeard other byte r u m

theorem runs_claimSent {o : OnLine} (held : t.lnu.onLine = some o) {r : Resource} {refresh : Bool} (is : o.item = .claim r refresh)
    (u : Nat) (m : Runs loose free s t) : Runs loose free s (claimSent r refresh (byteAt o.body 1) u t) := by
  by_cases may : loose r
  · have renewed : ∀ c, Runs loose free s (setOwn r c t) := fun c => m.rawOwn r c may
    unfold claimSent
    dsimp only
    (repeat' split)
    · exact runs_ownEntryUrgency r u (renewed _)
    · exact m
    · exact (runs_setEntry_raw may _ _ ((renewed _).rawTable r _ may)).emit _
    · exact (runs_setEntry_raw may _ _ ((renewed _).rawTable r _ may)).emit _
    · exact runs_ownEntryUrgency r u (renewed _)
    · exact runs_ownEntryUrgency r u (renewed _)
    · exact m
  · exact m.sent r refresh _ u may ⟨o, held, is, rfl⟩

/-- The refresh timer and its marks set. -/
theorem runs_setRefresh (r : Resource) (x : Option Nat) (lead : Bool) (n : Nat) (owed : Bool) (m : Runs loose free s t) :
    Runs loose free s (setOwn r { own r t with refresh := x, leadDone := lead, missed := n, refreshOwed := owed } t) :=
  m.adjust r _ ⟨rfl, rfl, rfl, .inl rfl⟩

@[simp] theorem runs_payOwedRefresh (r : Resource) (m : Runs loose free s t) : Runs loose free s (payOwedRefresh r t) := by
  unfold payOwedRefresh
  dsimp only
  split
  · exact (runs_setRefresh r _ _ _ _ m).notice _ _
  · exact m

theorem runs_grantOwn {r : Resource} (settling : ownSettling r t = true) (m : Runs loose free s t) :
    Runs loose free s (grantOwn r (settlingAmount r t) t) := by
  by_cases may : loose r
  · exact runs_payOwedRefresh r (runs_tellGranted r (runs_setEntry_raw may _ _ (m.rawOwn r _ may)))
  · exact m.grant r may settling

theorem runs_ownSettleDone {r : Resource} (settling : ownSettling r t = true) (m : Runs loose free s t) :
    Runs loose free s (ownSettleDone r t) := by
  unfold ownSettleDone
  dsimp only
  split
  · exact runs_grantOwn settling m
  · split
    next claim => exact runs_loseOwn true (.inr (.inl claim)) m
    next => exact runs_withdrawRaise r m

@[simp] theorem runs_refreshLeadReached (r : Resource) (m : Runs loose free s t) : Runs loose free s (refreshLeadReached r t) := by
  have marked : ∀ b, Runs loose free s (setOwn r { own r t with leadDone := true, refreshOwed := b } t) := fun b =>
    runs_setRefresh r _ _ _ _ m
  unfold refreshLeadReached
  dsimp only
  split
  · exact marked true
  · split
    · exact marked _
    · exact (marked _).notice _ _

theorem runs_refreshMissed {r : Resource} (held : (own r t).state = .held) (m : Runs loose free s t) :
    Runs loose free s (refreshMissed r t) := by
  unfold refreshMissed
  dsimp only
  split
  · exact runs_loseOwn false (.inr (.inr (.inl held))) m
  · exact runs_setRefresh r _ _ _ _ m

@[simp] theorem runs_releaseForDuplicate (r : Resource) (m : Runs loose free s t) : Runs loose free s (releaseForDuplicate r t) := by
  unfold releaseForDuplicate
  split
  next settling => exact runs_loseOwn true (.inr (.inl settling)) m
  next held => exact runs_loseOwn true (.inr (.inr (.inl held))) m
  next announcing =>
    have waits : Runs loose free s (setOwn r { own r t with state := .waiting } t) :=
      m.adjust r _ ⟨rfl, rfl, rfl, .inr ⟨.inr announcing, .inl rfl⟩⟩
    exact (waits.notice _ _).emit _
  next => exact m

@[simp] theorem runs_reconcile (r : Resource) (samples : WindowSamples) (m : Runs loose free s t) :
    Runs loose free s (reconcile r samples t) := by
  have left : ∀ (yes : Bool) (e h), reconcileEntry yes e = some h → e = some h := by
    intro yes e h is
    unfold reconcileEntry at is
    split at is
    · split at is
      · exact is
      · cases is
    · exact is
  have taken : ∀ v, (v = Vector.ofFn (fun (i : Fin 24) =>
      if i.val + 1 = (setting t).station then (claimTable r t)[i]
      else reconcileEntry (answered samples (i.val + 1)) (claimTable r t)[i])) → Runs loose free s (setTable r v t) := by
    rintro _ rfl
    refine m.table r _ fun i => ⟨fun mine => .inr ?_, fun h is => .inr ⟨h, ?_, le_rfl⟩⟩
    · simp [mine]
    · simp only [Fin.getElem_fin, Vector.getElem_ofFn] at is
      split at is
      · exact is
      · exact left _ _ _ is
  unfold reconcile
  dsimp only
  split
  · split
    · exact runs_setIncomplete r m
    · exact runs_setIncomplete r ((taken _ rfl).emit _)
  · split
    · exact m
    · exact (taken _ rfl).emit _

@[simp] theorem runs_announceStop (m : Runs loose free s t) : Runs loose free s (announceStop t) := by
  unfold announceStop; dsimp only; simp (maxDischargeDepth := 30) [m]

@[simp] theorem runs_stopOn (cause : StopCause) (m : Runs loose free s t) : Runs loose free s (stopOn cause t) := by
  unfold stopOn; dsimp only; (repeat' split) <;> simp (maxDischargeDepth := 30) [m]

@[simp] theorem runs_stopOff (m : Runs loose free s t) : Runs loose free s (stopOff t) := by
  unfold stopOff; (repeat' split) <;> simp (maxDischargeDepth := 30) [m]

@[simp] theorem runs_announceHold (c : FaultCode) (m : Runs loose free s t) : Runs loose free s (announceHold c t) := by
  unfold announceHold; (repeat' split) <;> simp (maxDischargeDepth := 30) [m]

@[simp] theorem runs_stopForSafeHold (m : Runs loose free s t) : Runs loose free s (stopForSafeHold t) := by
  unfold stopForSafeHold; split <;> simp (maxDischargeDepth := 30) [m]

@[simp] theorem runs_enterSafeHold (m : Runs loose free s t) : Runs loose free s (enterSafeHold t) := by
  unfold enterSafeHold
  dsimp only
  have announced : Runs loose free s (queueNotice .trip 7 { t with ftu := { t.ftu with snapshot := some (takeSnapshot t) } }) := by
    simp [m]
  generalize queueNotice .trip 7 { t with ftu := { t.ftu with snapshot := some (takeSnapshot t) } } = u at announced ⊢
  exact runs_stopForSafeHold (runs_of_kept (t := u) rfl announced)

@[simp] theorem runs_enterFault (c : FaultCode) (m : Runs loose free s t) : Runs loose free s (enterFault c t) := by
  unfold enterFault; dsimp only; (repeat' split) <;> simp (maxDischargeDepth := 30) [m]

@[simp] theorem runs_leaveFault (c : FaultCode) (m : Runs loose free s t) : Runs loose free s (leaveFault c t) := by
  unfold leaveFault; dsimp only; (repeat' split) <;> simp (maxDischargeDepth := 30) [m]

@[simp] theorem runs_raiseCondition (c : FaultCode) (m : Runs loose free s t) : Runs loose free s (raiseCondition c t) := by
  unfold raiseCondition; dsimp only; (repeat' split) <;> simp (maxDischargeDepth := 30) [m]

@[simp] theorem runs_clearCondition (c : FaultCode) (m : Runs loose free s t) : Runs loose free s (clearCondition c t) := by
  unfold clearCondition; dsimp only; (repeat' split) <;> simp (maxDischargeDepth := 30) [m]

@[simp] theorem runs_setCondition (c : FaultCode) (present : Bool) (m : Runs loose free s t) : Runs loose free s (setCondition c present t) := by
  unfold setCondition; (repeat' split) <;> simp (maxDischargeDepth := 30) [m]

@[simp] theorem runs_ackCode (c : FaultCode) (m : Runs loose free s t) : Runs loose free s (ackCode c t) := by
  unfold ackCode; dsimp only; (repeat' split) <;> simp (maxDischargeDepth := 30) [m]

@[simp] theorem runs_ackFaults (m : Runs loose free s t) : Runs loose free s (ackFaults t) := by
  unfold ackFaults; exact runs_foldl _ (fun t k m => by simp [m]) _ m

@[simp] theorem runs_announceLatch (l : Latch) (m : Runs loose free s t) : Runs loose free s (announceLatch l t) := by
  unfold announceLatch; simp (maxDischargeDepth := 30) [m]

@[simp] theorem runs_setLatch (l : Latch) (m : Runs loose free s t) : Runs loose free s (setLatch l t) := by
  unfold setLatch; dsimp only; (repeat' split) <;> simp (maxDischargeDepth := 30) [m]

@[simp] theorem runs_clearLatch (l : Latch) (m : Runs loose free s t) : Runs loose free s (clearLatch l t) := by
  unfold clearLatch; dsimp only; simp (maxDischargeDepth := 30) [m]

@[simp] theorem runs_ackLatch (l : Latch) (m : Runs loose free s t) : Runs loose free s (ackLatch l t) := by
  unfold ackLatch; dsimp only; (repeat' split) <;> simp (maxDischargeDepth := 30) [m]

@[simp] theorem runs_causeEnded (l : Latch) (m : Runs loose free s t) : Runs loose free s (causeEnded l t) := by
  unfold causeEnded; (repeat' split) <;> simp (maxDischargeDepth := 30) [m]

@[simp] theorem runs_singleSettle (l : Latch) (now : Bool) (m : Runs loose free s t) : Runs loose free s (singleSettle l now t) := by
  unfold singleSettle; (repeat' split) <;> simp (maxDischargeDepth := 30) [m]

@[simp] theorem runs_frostMember (now : Bool) (m : Runs loose free s t) : Runs loose free s (frostMember now t) := by
  unfold frostMember; dsimp only; (repeat' split) <;> simp (maxDischargeDepth := 30) [m]

@[simp] theorem runs_tripMemberActive (m : Runs loose free s t) : Runs loose free s (tripMemberActive t) := by
  unfold tripMemberActive; dsimp only; (repeat' split) <;> simp (maxDischargeDepth := 30) [m]

@[simp] theorem runs_tripMembersInactive (m : Runs loose free s t) : Runs loose free s (tripMembersInactive t) := by
  unfold tripMembersInactive; dsimp only; (repeat' split) <;> simp (maxDischargeDepth := 30) [m]

@[simp] theorem runs_setFailed (v : Vector Bool 4) (m : Runs loose free s t) : Runs loose free s (setFailed v t) :=
  runs_of_kept (t := t) rfl m

/-- A stage released. -/
theorem runs_releaseStage (k : Fin 4) {x : Stage} (off : energised x = false) (m : Runs loose free s t) :
    Runs loose free s (setStage k x t) := m.stage k x fun _ h => absurd h (by rw [off]; exact Bool.false_ne_true)

@[simp] theorem runs_failStage (k : Fin 4) (m : Runs loose free s t) : Runs loose free s (failStage k t) := by
  have released : Runs loose free s (setStage k { command := false, state := .failed, timer := none } t) := runs_releaseStage k rfl m
  unfold failStage
  dsimp only
  simp (maxDischargeDepth := 30) [released]

theorem runs_moveStage (k : Fin 4) {x : Stage} (may : ¬ loose .load → energised x = true →
    energised (stageAt k t) = true ∧ x.command = (stageAt k t).command) (m : Runs loose free s t) :
    Runs loose free s (moveStage k x t) := (m.stage k x may).emit _

theorem runs_moveStage_released (k : Fin 4) {x : Stage} (off : energised x = false) (m : Runs loose free s t) :
    Runs loose free s (moveStage k x t) := (runs_releaseStage k off m).emit _

theorem runs_commandStage {k : Fin 4} {on : Bool} (may : on = true → loose .load) (m : Runs loose free s t) :
    Runs loose free s (commandStage k on t) := by
  unfold commandStage
  dsimp only
  split
  · exact m
  · split
    next is =>
      have raw : ∀ x, Runs loose free s (setStage k x t) := fun x => m.stage k x fun no => absurd (may is) no
      split
      · exact (raw _).emit _
      · exact (raw _).emit _
      · exact raw _
    next =>
      split
      · split
        · exact runs_moveStage_released k rfl m
        · exact runs_moveStage_released k rfl m
      · exact runs_moveStage_released k rfl m
      next proving on =>
        refine runs_releaseStage k ?_ m
        simp only [energised, Bool.or_eq_false_iff, beq_eq_false_iff_ne]
        exact ⟨proving, on⟩

@[simp] theorem runs_feedbackSettles (k : Fin 4) (now : Bool) (m : Runs loose free s t) : Runs loose free s (feedbackSettles k now t) := by
  unfold feedbackSettles
  dsimp only
  split
  · split
    · split
      · exact runs_failStage k m
      · exact m
    · split
      · exact m
      · exact runs_failStage k m
    · split
      · exact m
      · exact runs_moveStage_released k rfl m
    · exact m
  · exact m

@[simp] theorem runs_proofExpires (k : Fin 4) (m : Runs loose free s t) : Runs loose free s (proofExpires k t) := by
  unfold proofExpires
  dsimp only
  split
  next proving =>
    split
    · exact runs_moveStage k (fun _ _ => ⟨by simp [energised, proving], rfl⟩) m
    · exact runs_failStage k m
  next =>
    split
    · exact runs_failStage k m
    · exact runs_moveStage_released k rfl m
  next => exact m

@[simp] theorem runs_restoreStage (k : Fin 4) (m : Runs loose free s t) : Runs loose free s (restoreStage k t) := by
  unfold restoreStage
  split
  · exact runs_moveStage_released k rfl m
  · exact m

@[simp] theorem runs_stageHealth (m : Runs loose free s t) : Runs loose free s (stageHealth t) := by
  unfold stageHealth
  dsimp only
  split
  · refine (runs_foldl _ (fun t k m => ?_) _ (runs_tripMembersInactive ?_)).emit _
    · split
      · exact runs_failStage k m
      · exact m
    · exact runs_foldl _ (fun t k m => runs_restoreStage k m) _ (runs_clearCondition _ (runs_setFailed _ m))
  · exact m

@[simp] theorem runs_ackLatches (ls : List Latch) (m : Runs loose free s t) : Runs loose free s (ackLatches ls t) := by
  have h := runs_foldl (loose := loose) (free := free) (s := s) (fun t l => ackLatch l t) (fun t l m => runs_ackLatch l m) ls m
  unfold ackLatches
  dsimp only
  split
  · exact runs_stageHealth h
  · exact h

@[simp] theorem runs_setGuard (g : GuardState) (m : Runs loose free s t) : Runs loose free s (setGuard g t) := by
  unfold setGuard; dsimp only; simp (maxDischargeDepth := 30) [m]

@[simp] theorem runs_endDemand (m : Runs loose free s t) : Runs loose free s (endDemand t) := by
  unfold endDemand; (repeat' split) <;> simp (maxDischargeDepth := 30) [m]

@[simp] theorem runs_announceSpill (m : Runs loose free s t) : Runs loose free s (announceSpill t) := by
  unfold announceSpill; dsimp only; simp (maxDischargeDepth := 30) [m]

@[simp] theorem runs_enterSpill (m : Runs loose free s t) : Runs loose free s (enterSpill t) := by
  unfold enterSpill; dsimp only; simp (maxDischargeDepth := 30) [m]

@[simp] theorem runs_enterCut (m : Runs loose free s t) : Runs loose free s (enterCut t) := by
  unfold enterCut; dsimp only; simp (maxDischargeDepth := 30) [m]

@[simp] theorem runs_enterShut (m : Runs loose free s t) : Runs loose free s (enterShut t) := by
  unfold enterShut; dsimp only; simp (maxDischargeDepth := 30) [m]

@[simp] theorem runs_shutToWatch (m : Runs loose free s t) : Runs loose free s (shutToWatch t) := by
  unfold shutToWatch; dsimp only; simp (maxDischargeDepth := 30) [m]

@[simp] theorem runs_holdToWatch (m : Runs loose free s t) : Runs loose free s (holdToWatch t) := by
  unfold holdToWatch; dsimp only; (repeat' split) <;> simp (maxDischargeDepth := 30) [m]

@[simp] theorem runs_calmUrgency (m : Runs loose free s t) : Runs loose free s (calmUrgency t) := by
  unfold calmUrgency; (repeat' split) <;> simp [m]

@[simp] theorem runs_leaveSpill (m : Runs loose free s t) : Runs loose free s (leaveSpill t) := by
  unfold leaveSpill; dsimp only; (repeat' split) <;> simp (maxDischargeDepth := 30) [m]

theorem runs_guardMove {ovfOnset : Bool} {u : State} (h : guardMove ovfOnset t = some u) (m : Runs loose free s t) : Runs loose free s u := by
  unfold guardMove at h
  (repeat' split at h) <;> first | (injection h with h; subst h; simp (maxDischargeDepth := 30) [m]) | cases h

@[simp] theorem runs_guardPass (x0 : Nat) (m : Runs loose free s t) : Runs loose free s (guardPass x0 t) := by
  induction x0 generalizing t with
  | zero => exact m
  | succ n ih =>
    unfold guardPass; split
    · exact m
    · exact ih (runs_guardMove (by assumption) m)

@[simp] theorem runs_guardExamine (ovfOnset : Bool) (m : Runs loose free s t) : Runs loose free s (guardExamine ovfOnset t) := by
  unfold guardExamine; split
  · exact m
  · exact runs_guardPass _ (runs_guardMove (by assumption) m)

@[simp] theorem runs_guardSample (m : Runs loose free s t) : Runs loose free s (guardSample t) := by
  unfold guardSample; dsimp only; (repeat' split) <;> simp (maxDischargeDepth := 30) [m]

@[simp] theorem runs_strokeExpires (m : Runs loose free s t) : Runs loose free s (strokeExpires t) := by
  unfold strokeExpires; dsimp only; simp (maxDischargeDepth := 30) [m]

@[simp] theorem runs_leakCheck (m : Runs loose free s t) : Runs loose free s (leakCheck t) := by
  unfold leakCheck; dsimp only; (repeat' split) <;> simp (maxDischargeDepth := 30) [m]

@[simp] theorem runs_floatCheck (m : Runs loose free s t) : Runs loose free s (floatCheck t) := by
  unfold floatCheck; dsimp only; (repeat' split) <;> simp (maxDischargeDepth := 30) [m]

@[simp] theorem runs_reofferOwed (m : Runs loose free s t) : Runs loose free s (reofferOwed t) := by
  unfold reofferOwed; dsimp only; (repeat' split) <;> simp (maxDischargeDepth := 30) [m]

@[simp] theorem runs_guardMinute (m : Runs loose free s t) : Runs loose free s (guardMinute t) := by
  unfold guardMinute; simp (maxDischargeDepth := 30) [m]

@[simp] theorem runs_examineConfirmation (m : Runs loose free s t) : Runs loose free s (examineConfirmation t) := by
  unfold examineConfirmation; dsimp only; (repeat' split) <;> simp (maxDischargeDepth := 30) [m]

@[simp] theorem runs_stopSent (on : Bool) (cause : Nat) (m : Runs loose free s t) : Runs loose free s (stopSent on cause t) := by
  unfold stopSent; dsimp only; (repeat' split) <;> simp (maxDischargeDepth := 30) [m]

@[simp] theorem runs_spillAlarmSent (set : Bool) (m : Runs loose free s t) : Runs loose free s (spillAlarmSent set t) := by
  unfold spillAlarmSent; dsimp only; (repeat' split) <;> simp (maxDischargeDepth := 30) [m]

@[simp] theorem runs_confirmExpires (m : Runs loose free s t) : Runs loose free s (confirmExpires t) := by
  unfold confirmExpires; dsimp only; simp (maxDischargeDepth := 30) [m]

theorem runs_moveFill (may : loose .supply) (new : FillState) (m : Runs loose free s t) : Runs loose free s (moveFill new t) :=
  m.shape may rfl

@[simp] theorem standsOnClaim_rest : standsOnClaim .rest = false := rfl

@[simp] theorem standsOnClaim_blocked : standsOnClaim .blocked = false := rfl

@[simp] theorem standsOnClaim_relief : standsOnClaim (.fill .relief) = false := rfl

@[simp] theorem standsOnClaim_claim (why : ClaimReason) : standsOnClaim (.claim why) = false := rfl

@[simp] theorem standsOnClaim_restRow (t : State) : standsOnClaim (restRow t) = false := by
  unfold restRow; (repeat' split) <;> rfl

@[simp] theorem standsOnClaim_afterFill (t : State) : standsOnClaim (afterFill t) = false := by
  unfold afterFill; split <;> rfl

theorem runs_setFill_held {new : FillState} (may : standsOnClaim new = true → holdsRequest t.flc.state = true)
    (m : Runs loose free s t) : Runs loose free s (setFill new t) := by
  by_cases any : loose .supply
  · have moved := runs_moveFill any new m
    unfold setFill
    dsimp only
    split
    · exact m
    · split
      · split
        · exact moved
        · exact runs_askOwn any 1 _ moved
      · exact moved
      · exact moved
      · split
        · exact runs_withdrawOwn any moved
        · exact moved
  · exact m.fill new any may

@[simp] theorem runs_setFill (new : FillState) (plain : ¬ standsOnClaim new = true) (m : Runs loose free s t) :
    Runs loose free s (setFill new t) := runs_setFill_held (fun h => absurd h plain) m

@[simp] theorem runs_reliefStart (m : Runs loose free s t) : Runs loose free s (reliefStart t) := by
  unfold reliefStart; (repeat' split) <;> simp (maxDischargeDepth := 30) [m]

@[simp] theorem runs_reliefEnd (m : Runs loose free s t) : Runs loose free s (reliefEnd t) := by
  unfold reliefEnd; (repeat' split) <;> simp (maxDischargeDepth := 30) [m]

@[simp] theorem runs_planStep (m : Runs loose free s t) : Runs loose free s (planStep t) := by
  unfold planStep; (repeat' split) <;> simp (maxDischargeDepth := 30) [m]

@[simp] theorem runs_handUrgency (m : Runs loose free s t) : Runs loose free s (handUrgency t) := by
  unfold handUrgency; (repeat' split) <;> simp (maxDischargeDepth := 30) [m]

@[simp] theorem runs_replan (handsSlack : Bool) (m : Runs loose free s t) : Runs loose free s (replan handsSlack t) := by
  unfold replan; dsimp only; (repeat' split) <;> simp (maxDischargeDepth := 30) [m]

@[simp] theorem runs_planAndStep (handsSlack : Bool) (m : Runs loose free s t) : Runs loose free s (planAndStep handsSlack t) := by
  unfold planAndStep; simp (maxDischargeDepth := 30) [m]

@[simp] theorem runs_takeCauses (m : Runs loose free s t) : Runs loose free s (takeCauses t) := by
  unfold takeCauses; dsimp only; (repeat' split) <;> simp (maxDischargeDepth := 30) [m]

@[simp] theorem runs_fillFollows (m : Runs loose free s t) : Runs loose free s (fillFollows t) := by
  unfold fillFollows; (repeat' split) <;> simp (maxDischargeDepth := 30) [m]

@[simp] theorem runs_fillGranted (m : Runs loose free s t) : Runs loose free s (fillGranted t) := by
  unfold fillGranted
  split
  next claim => exact runs_setFill_held (fun _ => by rw [claim]; rfl) m
  next claim => exact runs_setFill_held (fun _ => by rw [claim]; rfl) m
  next => exact m

@[simp] theorem runs_fillLost (m : Runs loose free s t) : Runs loose free s (fillLost t) := by
  unfold fillLost; (repeat' split) <;> simp (maxDischargeDepth := 30) [m]

@[simp] theorem runs_withdrawTurnover (m : Runs loose free s t) : Runs loose free s (withdrawTurnover t) := by
  unfold withdrawTurnover; dsimp only; (repeat' split) <;> simp (maxDischargeDepth := 30) [m]

@[simp] theorem runs_fillSample (m : Runs loose free s t) : Runs loose free s (fillSample t) := by
  unfold fillSample; dsimp only; (repeat' split) <;> simp (maxDischargeDepth := 30) [m]

@[simp] theorem runs_fillPosition (old new : Position) (m : Runs loose free s t) : Runs loose free s (fillPosition old new t) := by
  unfold fillPosition; dsimp only; (repeat' split) <;> simp (maxDischargeDepth := 30) [m]

@[simp] theorem runs_openExpires (m : Runs loose free s t) : Runs loose free s (openExpires t) := by
  unfold openExpires; dsimp only; simp (maxDischargeDepth := 30) [m]

@[simp] theorem runs_clearingExpires (m : Runs loose free s t) : Runs loose free s (clearingExpires t) := by
  unfold clearingExpires; dsimp only; simp (maxDischargeDepth := 30) [m]

@[simp] theorem runs_applyPermits (m : Runs loose free s t) : Runs loose free s (applyPermits t) := by
  unfold applyPermits; dsimp only; (repeat' split) <;> simp (maxDischargeDepth := 30) [m]

@[simp] theorem runs_fillOrders (m : Runs loose free s t) : Runs loose free s (fillOrders t) := by
  unfold fillOrders; simp (maxDischargeDepth := 30) [m]

@[simp] theorem runs_setPeriod (night : Bool) (elapsed : Nat) (m : Runs loose free s t) : Runs loose free s (setPeriod night elapsed t) := by
  unfold setPeriod; dsimp only; (repeat' split) <;> simp (maxDischargeDepth := 30) [m]

@[simp] theorem runs_dayEndsTariff (m : Runs loose free s t) : Runs loose free s (dayEndsTariff t) := by
  unfold dayEndsTariff; (repeat' split) <;> simp (maxDischargeDepth := 30) [m]

@[simp] theorem runs_tariffChange (m : Runs loose free s t) : Runs loose free s (tariffChange t) := by
  unfold tariffChange; dsimp only; (repeat' split) <;> simp (maxDischargeDepth := 30) [m]

@[simp] theorem runs_takePeriod (night : Bool) (elapsed : Nat) (m : Runs loose free s t) : Runs loose free s (takePeriod night elapsed t) := by
  unfold takePeriod; (repeat' split) <;> simp (maxDischargeDepth := 30) [m]

@[simp] theorem runs_tariffContact (now : Bool) (m : Runs loose free s t) : Runs loose free s (tariffContact now t) := by
  unfold tariffContact; (repeat' split) <;> simp (maxDischargeDepth := 30) [m]

@[simp] theorem runs_tariffHeard (night : Bool) (elapsed : Nat) (m : Runs loose free s t) : Runs loose free s (tariffHeard night elapsed t) := by
  unfold tariffHeard; dsimp only; (repeat' split) <;> simp (maxDischargeDepth := 30) [m]

@[simp] theorem runs_tariffCount (m : Runs loose free s t) : Runs loose free s (tariffCount t) := by
  unfold tariffCount; dsimp only; (repeat' split) <;> simp (maxDischargeDepth := 30) [m]

@[simp] theorem runs_nightTimesOut (m : Runs loose free s t) : Runs loose free s (nightTimesOut t) := by
  unfold nightTimesOut; dsimp only; (repeat' split) <;> simp (maxDischargeDepth := 30) [m]

@[simp] theorem runs_standingWishes (m : Runs loose free s t) : Runs loose free s (standingWishes t) := by
  unfold standingWishes; dsimp only; (repeat' split) <;> simp (maxDischargeDepth := 30) [m]

@[simp] theorem runs_sampleWishes (m : Runs loose free s t) : Runs loose free s (sampleWishes t) := by
  unfold sampleWishes; dsimp only; (repeat' split) <;> simp (maxDischargeDepth := 30) [m]

@[simp] theorem runs_selectNow (m : Runs loose free s t) : Runs loose free s (selectNow t) := by
  unfold selectNow; dsimp only; simp (maxDischargeDepth := 30) [m]

theorem runs_updateFrostState (may : loose .load) (m : Runs loose free s t) : Runs loose free s (updateFrostState t) := by
  unfold updateFrostState
  dsimp only
  split
  · exact m
  · exact (runs_changeSeen (m.heat (u := { t with frc := { t.frc with state := frostStateNow t } }) may rfl)).emit _

@[simp] theorem runs_dropStages (m : Runs loose free s t) : Runs loose free s (dropStages t) := by
  unfold dropStages
  refine runs_foldl _ (fun t k m => ?_) _ m
  split
  · exact runs_commandStage nofun m
  · exact m

theorem runs_requestLoad (may : loose .load) (m : Runs loose free s t) : Runs loose free s (requestLoad t) := by
  have asking : ∀ x, Runs loose free s { t with frc := { t.frc with asked := x } } := fun x => runs_of_kept (t := t) rfl m
  unfold requestLoad
  dsimp only
  split
  · split
    · exact runs_withdrawOwn may (asking _)
    · exact m
  · split
    · exact runs_askOwn may _ _ (asking _)
    · split
      · exact runs_askOwn may _ _ (asking _)
      · split
        · exact runs_changeUrgency _ _ (asking _)
        · exact m

theorem runs_energiseNext (may : loose .load) (m : Runs loose free s t) : Runs loose free s (energiseNext t) := by
  unfold energiseNext
  (repeat' split)
  · exact m
  · exact m
  · exact runs_commandStage (fun _ => may) m
  · exact m

@[simp] theorem runs_judgeStarved (m : Runs loose free s t) : Runs loose free s (judgeStarved t) := by
  unfold judgeStarved; dsimp only; (repeat' split) <;> simp (maxDischargeDepth := 30) [m]

@[simp] theorem runs_frostEvaluate (m : Runs loose free s t) : Runs loose free s (frostEvaluate t) := by
  by_cases may : loose .load
  · unfold frostEvaluate
    split
    · exact runs_judgeStarved (runs_energiseNext may (runs_requestLoad may
        (runs_dropStages (runs_updateFrostState may (runs_selectNow (runs_standingWishes m))))))
    · exact m
  · exact m.evaluate t.handOns may

@[simp] theorem runs_frostJudge (m : Runs loose free s t) : Runs loose free s (frostJudge t) := by
  unfold frostJudge; dsimp only; (repeat' split) <;> simp (maxDischargeDepth := 30) [m]

@[simp] theorem runs_turnoverWarm (m : Runs loose free s t) : Runs loose free s (turnoverWarm t) := by
  unfold turnoverWarm; (repeat' split) <;> simp (maxDischargeDepth := 30) [m]

@[simp] theorem runs_frostSample (m : Runs loose free s t) : Runs loose free s (frostSample t) := by
  unfold frostSample; dsimp only; simp (maxDischargeDepth := 30) [m]

@[simp] theorem runs_stagnationMinute (m : Runs loose free s t) : Runs loose free s (stagnationMinute t) := by
  unfold stagnationMinute; dsimp only; (repeat' split) <;> simp (maxDischargeDepth := 30) [m]

@[simp] theorem runs_stagnationEnds (m : Runs loose free s t) : Runs loose free s (stagnationEnds t) := by
  unfold stagnationEnds; dsimp only; simp (maxDischargeDepth := 30) [m]

@[simp] theorem runs_evaluateSituation (m : Runs loose free s t) : Runs loose free s (evaluateSituation t) := by
  unfold evaluateSituation; dsimp only; (repeat' split) <;> simp (maxDischargeDepth := 30) [m]

@[simp] theorem runs_situationChange (key : KeyBits) (m : Runs loose free s t) : Runs loose free s (situationChange key t) := by
  unfold situationChange; dsimp only; (repeat' split) <;> simp (maxDischargeDepth := 30) [m]

@[simp] theorem runs_takeKey (key : KeyBits) (m : Runs loose free s t) : Runs loose free s (takeKey key t) := by
  unfold takeKey; (repeat' split) <;> simp (maxDischargeDepth := 30) [m]

@[simp] theorem runs_takeField (f : KeyField) (value : Nat) (m : Runs loose free s t) : Runs loose free s (takeField f value t) := by
  unfold takeField; simp (maxDischargeDepth := 30) [m]

@[simp] theorem runs_takeSlack (slack : Int) (m : Runs loose free s t) : Runs loose free s (takeSlack slack t) := by
  unfold takeSlack; simp (maxDischargeDepth := 30) [m]

@[simp] theorem runs_takePending (m : Runs loose free s t) : Runs loose free s (takePending t) := by
  unfold takePending; (repeat' split) <;> simp (maxDischargeDepth := 30) [m]

@[simp] theorem runs_startSituation (m : Runs loose free s t) : Runs loose free s (startSituation t) := by
  unfold startSituation
  dsimp only
  refine Runs.emit _ (runs_of_kept (t := t) ?_ m)
  simp [kept, isField]

@[simp] theorem runs_reportOrders (m : Runs loose free s t) : Runs loose free s (reportOrders t) := by
  unfold reportOrders; dsimp only; (repeat' split) <;> simp (maxDischargeDepth := 30) [m]

@[simp] theorem runs_updateCapacity (m : Runs loose free s t) : Runs loose free s (updateCapacity t) := by
  unfold updateCapacity; dsimp only; simp (maxDischargeDepth := 30) [m]

@[simp] theorem runs_updateSummary (m : Runs loose free s t) : Runs loose free s (updateSummary t) := by
  unfold updateSummary; dsimp only; (repeat' split) <;> simp (maxDischargeDepth := 30) [m]

@[simp] theorem runs_peersChanged (m : Runs loose free s t) : Runs loose free s (peersChanged t) := by
  unfold peersChanged; simp (maxDischargeDepth := 30) [m]

@[simp] theorem runs_hearSender (n : Nat) (role : Role) (m : Runs loose free s t) : Runs loose free s (hearSender n role t) := by
  unfold hearSender; simp (maxDischargeDepth := 30) [m]

@[simp] theorem runs_losePeer (n : Nat) (m : Runs loose free s t) : Runs loose free s (losePeer n t) := by
  unfold losePeer; dsimp only; (repeat' split) <;> simp (maxDischargeDepth := 30) [m]

@[simp] theorem runs_mapTowers (f : Bool → Peer → Peer) (samples : WindowSamples) (m : Runs loose free s t) : Runs loose free s (mapTowers f samples t) := by
  unfold mapTowers; dsimp only; simp (maxDischargeDepth := 30) [m]

@[simp] theorem runs_stoppingResult (samples : WindowSamples) (m : Runs loose free s t) : Runs loose free s (stoppingResult samples t) := by
  unfold stoppingResult; simp (maxDischargeDepth := 30) [m]

@[simp] theorem runs_alarmResult (u : Nat) (samples : WindowSamples) (m : Runs loose free s t) : Runs loose free s (alarmResult u samples t) := by
  unfold alarmResult; (repeat' split) <;> simp (maxDischargeDepth := 30) [m]

theorem length_faultQuestions (t : State) : (faultQuestions t).length ≤ 2 := by
  unfold faultQuestions
  dsimp only
  (repeat' split) <;> decide

/-- The roll-call questions put in another order, where that is allowed. -/
theorem runs_questions {t u : State} (may : free ∨ t.clu.inFlight.isSome = true ∨ t.clu.questions ≠ [])
    (few : u.clu.questions.length ≤ max 2 t.clu.questions.length)
    (e : kept u = { kept t with
      questions := u.clu.questions, inFlight := u.clu.inFlight
      answeredSupply := u.clu.answeredSupply, answeredLoad := u.clu.answeredLoad }) (m : Runs loose free s t) :
    Runs loose free s u := m.ask may few e

theorem runs_askAfterFault (may : free) (m : Runs loose free s t) : Runs loose free s (askAfterFault t) := by
  unfold askAfterFault
  split
  · split
    · exact m
    · exact runs_askNext (runs_questions (t := t) (.inl may) ((length_faultQuestions t).trans (Nat.le_max_left 2 _)) rfl m)
  · exact m

theorem runs_becomeJoined (joining : t.sld.mode = .joining)
    (may : free ∨ t.clu.answeredSupply = true ∧ t.clu.answeredLoad = true) (m : Runs loose free s t) :
    Runs loose free s (becomeJoined t) := by
  have joined : Runs loose free s { t with
      sld := { t.sld with mode := .joined }, clu := { t.clu with answer := none, listening := none } } := m.join joining may rfl
  unfold becomeJoined
  dsimp only
  exact runs_fillFollows ((((runs_handField _ joined).emit _).emit _).emit _)

@[simp] theorem runs_joinIfAnswered (m : Runs loose free s t) : Runs loose free s (joinIfAnswered t) := by
  unfold joinIfAnswered
  split
  next answered =>
    obtain ⟨joining, both⟩ := answered
    exact runs_becomeJoined joining (.inr both) m
  next => exact m

theorem runs_questionDone (q : Question) (may : free ∨ t.clu.inFlight.isSome = true) (m : Runs loose free s t) :
    Runs loose free s (questionDone q t) := by
  have marked : Runs loose free s (markAnswered q { t with clu := { t.clu with inFlight := none } }) := by
    have same : (markAnswered q { t with clu := { t.clu with inFlight := none } }).clu.questions = t.clu.questions := by
      unfold markAnswered
      split <;> rfl
    refine runs_questions (may.imp_right .inl) (by rw [same]; exact Nat.le_max_right 2 _) ?_ m
    unfold markAnswered
    split <;> rfl
  exact runs_joinIfAnswered (runs_askNext marked)

@[simp] theorem runs_questionWasDropped (q : Question) (m : Runs loose free s t) : Runs loose free s (questionWasDropped q t) := by
  unfold questionWasDropped
  split
  next asked => exact runs_questionDone q (.inr (by rw [asked]; rfl)) m
  next => exact m

@[simp] theorem runs_follow (m : Runs loose free s t) : Runs loose free s (follow t) :=
  runs_of_kept (t := t) rfl m

@[simp] theorem runs_takeOrders (m : Runs loose free s t) : Runs loose free s (takeOrders t) := by
  unfold takeOrders; simp (maxDischargeDepth := 30) [m]

/-- A hand-on taken from the front. -/
theorem runs_takeHandOn {h : HandOn} {rest : List HandOn} (front : t.handOns = h :: rest) (m : Runs loose free s t) :
    Runs loose free s (takeHandOn h { t with handOns := rest }) := by
  have popped : h ≠ .frostEvaluate → Runs loose free s { t with handOns := rest } := by
    intro other
    refine runs_of_kept (t := t) ?_ m
    have same : (HandOn.frostEvaluate ∈ t.handOns) ↔ HandOn.frostEvaluate ∈ rest := by
      rw [front, List.mem_cons]
      exact or_iff_right (Ne.symm other)
    simp [kept, same]
  cases h with
  | frostEvaluate =>
    by_cases may : loose .load
    · exact runs_frostEvaluate (m.heat (u := { t with handOns := rest }) may rfl)
    · exact m.evaluate rest may
  | fillLost => exact runs_fillLost (popped nofun)
  | fillGranted => exact runs_fillGranted (popped nofun)
  | reexamine r => exact runs_reexamineNow r (popped nofun)
  | questionDropped q => exact runs_questionWasDropped q (popped nofun)
  | situation f v => exact runs_takeField f v (popped nofun)
  | slack v => exact runs_takeSlack v (popped nofun)
  | orders => exact runs_takeOrders (popped nofun)

theorem runs_takeHandOns (n : Nat) (m : Runs loose free s t) : Runs loose free s (takeHandOns n t) := by
  induction n generalizing t with
  | zero => exact m
  | succ n ih =>
    unfold takeHandOns
    split
    · exact m
    next h rest front => exact ih (runs_follow (runs_takeHandOn front m))

@[simp] theorem runs_beginEvent (m : Runs loose free s t) : Runs loose free s (beginEvent t) := by
  unfold beginEvent; dsimp only; simp (maxDischargeDepth := 30) [m]

@[simp] theorem runs_takePosition (m : Runs loose free s t) : Runs loose free s (takePosition t) := by
  unfold takePosition; dsimp only; (repeat' split) <;> simp (maxDischargeDepth := 30) [m]

@[simp] theorem runs_pressAck (m : Runs loose free s t) : Runs loose free s (pressAck t) := by
  unfold pressAck; simp (maxDischargeDepth := 30) [m]

@[simp] theorem runs_handSettled (i : ContactInput) (now : Bool) (m : Runs loose free s t) : Runs loose free s (handSettled i now t) := by
  unfold handSettled; (repeat' split) <;> simp (maxDischargeDepth := 30) [m]

@[simp] theorem runs_settleInput (i : ContactInput) (m : Runs loose free s t) : Runs loose free s (settleInput i t) := by
  unfold settleInput; dsimp only; simp (maxDischargeDepth := 30) [m]

@[simp] theorem runs_inputSettles (i : ContactInput) (m : Runs loose free s t) : Runs loose free s (inputSettles i t) := by
  unfold inputSettles; simp (maxDischargeDepth := 30) [m]

@[simp] theorem runs_setRaw (i : ContactInput) (now : Bool) (x : Option Nat) (m : Runs loose free s t) : Runs loose free s (setRaw i now x t) := by
  unfold setRaw; dsimp only; simp (maxDischargeDepth := 30) [m]

@[simp] theorem runs_followPin (i : ContactInput) (m : Runs loose free s t) : Runs loose free s (followPin i t) := by
  unfold followPin; dsimp only; (repeat' split) <;> simp (maxDischargeDepth := 30) [m]

@[simp] theorem runs_readInputs (m : Runs loose free s t) : Runs loose free s (readInputs t) := by
  unfold readInputs; dsimp only; simp (maxDischargeDepth := 30) [m]

@[simp] theorem runs_latchStartUp (i : ContactInput) (m : Runs loose free s t) : Runs loose free s (latchStartUp i t) := by
  unfold latchStartUp; (repeat' split) <;> simp (maxDischargeDepth := 30) [m]

@[simp] theorem runs_stageStartUp (k : Fin 4) (m : Runs loose free s t) : Runs loose free s (stageStartUp k t) := by
  unfold stageStartUp; (repeat' split) <;> simp (maxDischargeDepth := 30) [m]

@[simp] theorem runs_startListening (m : Runs loose free s t) : Runs loose free s (startListening t) := by
  unfold startListening; dsimp only; simp (maxDischargeDepth := 30) [m]

@[simp] theorem runs_startInputs (m : Runs loose free s t) : Runs loose free s (startInputs t) := by
  unfold startInputs
  dsimp only
  exact runs_foldl _ (fun t k m => runs_stageStartUp k m) _
    (runs_takePosition (runs_foldl _ (fun t i m => runs_latchStartUp i m) _ (runs_readInputs m)))

@[simp] theorem runs_startTariff (m : Runs loose free s t) : Runs loose free s (startTariff t) := by
  unfold startTariff; (repeat' split) <;> simp (maxDischargeDepth := 30) [m]

@[simp] theorem runs_startTrip (m : Runs loose free s t) : Runs loose free s (startTrip t) := by
  unfold startTrip; (repeat' split) <;> simp (maxDischargeDepth := 30) [m]

theorem largerPart_countHolding (h : Holding) : largerPart (countHolding h).share = largerPart h.share := by
  obtain ⟨share, u, g⟩ := h
  cases share <;> rfl

@[simp] theorem runs_countTable (r : Resource) (m : Runs loose free s t) : Runs loose free s (countTable r t) := by
  unfold countTable
  refine m.table r _ fun i => ⟨fun mine => .inr ?_, fun h is => ?_⟩
  · simp [mine]
  · simp only [Fin.getElem_fin, Vector.getElem_ofFn] at is
    split at is
    · exact .inr ⟨h, is, le_rfl⟩
    · obtain ⟨g, found, rfl⟩ := Option.map_eq_some_iff.mp is
      exact .inr ⟨g, found, (largerPart_countHolding g).le⟩

@[simp] theorem runs_countClaims (m : Runs loose free s t) : Runs loose free s (countClaims t) := by
  have aged := runs_countTable .load (runs_countTable .supply m)
  unfold countClaims
  dsimp only
  generalize countTable .load (countTable .supply t) = u at aged
  have supply := aged.adjust .supply (countOwn u.clu.ownSupply) ⟨rfl, rfl, rfl, .inl rfl⟩
  have load := supply.adjust .load (countOwn u.clu.ownLoad) ⟨rfl, rfl, rfl, .inl rfl⟩
  exact runs_of_kept (t := setOwn .load (countOwn u.clu.ownLoad) (setOwn .supply (countOwn u.clu.ownSupply) u)) rfl load

@[simp] theorem runs_countReport (m : Runs loose free s t) : Runs loose free s (countReport t) := by
  unfold countReport; dsimp only; simp (maxDischargeDepth := 30) [m]

@[simp] theorem runs_countTimers (m : Runs loose free s t) : Runs loose free s (countTimers t) := by
  have counted := runs_countReport (runs_countClaims m)
  unfold countTimers
  dsimp only
  generalize countReport (countClaims t) = u at counted
  exact runs_of_kept (t := u) rfl counted

@[simp] theorem runs_sampleTaken (m : Runs loose free s t) : Runs loose free s (sampleTaken t) := by
  unfold sampleTaken; simp (maxDischargeDepth := 30) [m]

@[simp] theorem runs_changeRule (m : Runs loose free s t) : Runs loose free s (changeRule t) := by
  unfold changeRule; dsimp only; (repeat' split) <;> simp (maxDischargeDepth := 30) [m]

end

end Sys2Proof.Machine
end

section
/-! PROOFS. Every event of a configured station is made of such runs, but for loading and the end of a line fault. -/

namespace Sys2Proof.Machine

section
variable {loose : Resource → Prop} {free : Prop} {s t : State}

/-! ### Second events and minute marks -/

@[simp] theorem runs_countSecond (m : Runs loose free s t) : Runs loose free s (countSecond t) := by
  unfold countSecond; dsimp only; (repeat' split) <;> simp (maxDischargeDepth := 30) [m]

@[simp] theorem runs_samplePressure (p : AnalogCode) (m : Runs loose free s t) : Runs loose free s (samplePressure p t) := by
  unfold samplePressure; (repeat' split) <;> simp (maxDischargeDepth := 30) [m]

@[simp] theorem runs_sampleTemperatures (tw tr ta : AnalogCode) (m : Runs loose free s t) : Runs loose free s (sampleTemperatures tw tr ta t) := by
  unfold sampleTemperatures; dsimp only; simp (maxDischargeDepth := 30) [m]

@[simp] theorem runs_takeSamples (p tw tr ta : AnalogCode) (m : Runs loose free s t) : Runs loose free s (takeSamples p tw tr ta t) := by
  unfold takeSamples; simp (maxDischargeDepth := 30) [m]

@[simp] theorem runs_secondPasses (p tw tr ta : AnalogCode) (m : Runs loose free s t) : Runs loose free s (secondPasses p tw tr ta t) := by
  unfold secondPasses; dsimp only; (repeat' split) <;> simp (maxDischargeDepth := 30) [m]

@[simp] theorem runs_learnStep (m : Runs loose free s t) : Runs loose free s (learnStep t) := by
  unfold learnStep; dsimp only; (repeat' split) <;> simp (maxDischargeDepth := 30) [m]

@[simp] theorem runs_fillMinute (m : Runs loose free s t) : Runs loose free s (fillMinute t) := by
  unfold fillMinute; dsimp only; (repeat' split) <;> simp (maxDischargeDepth := 30) [m]

@[simp] theorem runs_markJobs (m : Runs loose free s t) : Runs loose free s (markJobs t) := by
  unfold markJobs; simp (maxDischargeDepth := 30) [m]

@[simp] theorem runs_minutePasses (m : Runs loose free s t) : Runs loose free s (minutePasses t) := by
  unfold minutePasses; dsimp only; (repeat' split) <;> simp (maxDischargeDepth := 30) [m]

/-! ### The line -/

/-- The line state moves on from one other than LINE FAULT, with the parser and what else is the line's own. -/
theorem runs_lineState (state : LineState) (p : Parser) (n k m e : Nat) (b : Bool) (g : Option RollCall) (d : Option Nat)
    (calm : t.lnu.state ≠ .lineFault) (h : Runs loose free s t) :
    Runs loose free s { t with lnu := { t.lnu with
      state := state, parser := p, recessive := n, slot := k, heldOff := b, dominantRun := m, errors := e, rollCall := g
      dupTimer := d } } := h.line calm rfl

@[simp] theorem runs_abandonSending (m : Runs loose free s t) : Runs loose free s (abandonSending t) := m.off rfl

theorem runs_enterSkip (calm : t.lnu.state ≠ .lineFault) (m : Runs loose free s t) : Runs loose free s (enterSkip t) := m.line calm rfl

theorem runs_discardNotice (calm : t.lnu.state ≠ .lineFault) (m : Runs loose free s t) : Runs loose free s (discardNotice t) := by
  have k := runs_lineError (runs_enterSkip (t := abandonSending t) calm (runs_abandonSending m))
  unfold discardNotice
  dsimp only
  split
  · exact runs_noteOccurrence k
  · exact k

theorem lnu_claimBackToWaiting (r : Resource) (t : State) : (claimBackToWaiting r t).lnu = t.lnu := by
  unfold claimBackToWaiting
  dsimp only
  (repeat' split) <;> simp

theorem runs_cancelHead (item : Outgoing) (m : Runs loose free s t) : Runs loose free s (cancelHead item t) := by
  have left : Runs loose free s { t with lnu := { t.lnu with queue := removeUnder (keyOf item) t.lnu.queue } } :=
    runs_of_kept (t := t) rfl m
  unfold cancelHead
  dsimp only
  split
  · exact (runs_claimBackToWaiting _ left).emit _
  · exact left

theorem lineState_cancelHead (item : Outgoing) (t : State) : (cancelHead item t).lnu.state = t.lnu.state := by
  unfold cancelHead
  dsimp only
  split
  · rw [emit_lnu, lnu_claimBackToWaiting]
  · rfl

theorem runs_winSlot (slot n : Nat) (calm : t.lnu.state ≠ .lineFault) (m : Runs loose free s t) :
    Runs loose free s (winSlot slot n t) := by
  induction n generalizing t with
  | zero => exact m
  | succ n ih =>
    unfold winSlot
    split
    · exact m
    next e _ =>
      split
      next =>
        have gone := runs_cancelHead e.item m
        dsimp only
        split
        · exact gone
        · split
          · exact ih (by rw [lineState_cancelHead]; exact calm) gone
          · exact gone
      next may => exact m.start e calm (Bool.eq_false_iff.mpr may)

theorem runs_loseEcho (b : Nat) (calm : t.lnu.state ≠ .lineFault) (m : Runs loose free s t) : Runs loose free s (loseEcho b t) := by
  have k := runs_noteOccurrence (runs_abandonSending m)
  exact Runs.line (t := noteOccurrence (abandonSending t)) k calm rfl

theorem runs_failDriver (calm : t.lnu.state ≠ .lineFault) (m : Runs loose free s t) : Runs loose free s (failDriver t) :=
  runs_lineError (runs_enterSkip (t := abandonSending t) calm (runs_abandonSending m))

theorem lnu_ownEntryUrgency (r : Resource) (u : Nat) (t : State) : (ownEntryUrgency r u t).lnu = t.lnu := by
  unfold ownEntryUrgency
  (repeat' split) <;> simp

theorem lnu_claimSent (r : Resource) (refresh : Bool) (a u : Nat) (t : State) : (claimSent r refresh a u t).lnu = t.lnu := by
  unfold claimSent
  dsimp only
  (repeat' split) <;> simp [lnu_ownEntryUrgency]

theorem lineState_tellSent (o : OnLine) (t : State) : (tellSent o t).lnu.state = t.lnu.state := by
  unfold tellSent
  split
  · rfl
  · rw [lnu_claimSent]
  · rfl
  · exact lineState_of_wire (wire_of_watched (watched_spillAlarmSent _ t))
  · rfl
  · exact lineState_of_wire (wire_of_watched (watched_stopSent _ _ t))
  · rfl
  · rfl
  · rfl

theorem runs_tellSent {o : OnLine} (held : t.lnu.onLine = some o) (m : Runs loose free s t) : Runs loose free s (tellSent o t) := by
  unfold tellSent
  split
  · exact runs_of_kept (t := t) rfl m
  next is => exact runs_claimSent held is _ m
  · exact m
  · exact runs_spillAlarmSent _ m
  · exact m
  · exact runs_stopSent _ _ m
  · exact m
  · exact m
  · exact m

theorem runs_beginRollCall (q : Question) (mine : Bool) (calm : t.lnu.state ≠ .lineFault) (m : Runs loose free s t) :
    Runs loose free s (beginRollCall q mine t) := m.line calm rfl

theorem runs_finishSending (calm : t.lnu.state ≠ .lineFault) (m : Runs loose free s t) : Runs loose free s (finishSending t) := by
  unfold finishSending
  split
  · exact m
  next o held =>
    have told := runs_tellSent held m
    have still : (tellSent o t).lnu.state ≠ .lineFault := by rw [lineState_tellSent]; exact calm
    dsimp only
    generalize tellSent o t = u at told still ⊢
    have ended : Runs loose free s { u with lnu := { u.lnu with queue := afterSending u.lnu.queue, onLine := none } } := told.off rfl
    unfold lineAfterSent
    split
    · exact runs_beginRollCall _ _ still ended
    · exact Runs.line (t := { u with lnu := { u.lnu with queue := afterSending u.lnu.queue, onLine := none } }) ended still rfl

theorem runs_enterLineFault (calm : t.lnu.state ≠ .lineFault) (m : Runs loose free s t) : Runs loose free s (enterLineFault t) := by
  have isolated := runs_lineState (t := abandonSending t) .lineFault .atReset 0 0 65 (abandonSending t).lnu.errors false none
    (abandonSending t).lnu.dupTimer calm (runs_abandonSending m)
  exact (runs_raiseCondition _ isolated).emit _

/-! ### Windows -/

@[simp] theorem runs_giveResult (q : Question) (samples : WindowSamples) (m : Runs loose free s t) :
    Runs loose free s (giveResult q samples t) := by
  unfold giveResult; split <;> simp [m]

theorem runs_judgeWindow (may : free) (c : RollCall) (samples : WindowSamples) (m : Runs loose free s t) :
    Runs loose free s (judgeWindow c samples t) := by
  have judged : Runs loose free s (if mirrored samples then giveResult c.question samples t
      else markIncompleteFor c.question (noteOccurrence t)) := by
    split
    · exact runs_giveResult _ _ m
    · exact runs_markIncompleteFor _ (runs_noteOccurrence m)
  unfold judgeWindow
  dsimp only
  split
  · exact runs_questionDone _ (.inl may) judged
  · exact judged

theorem runs_endWindow (may : free) (line : WindowSamples) (calm : t.lnu.state ≠ .lineFault) (m : Runs loose free s t) :
    Runs loose free s (endWindow line t) := by
  have closed : ∀ w, Runs loose free s (keepSamples w { t with lnu := { t.lnu with state := .gap } }) := fun w => m.line calm rfl
  unfold endWindow
  dsimp only
  split
  · exact runs_judgeWindow may _ _ (closed _)
  · split
    · exact closed _
    · exact runs_noteOccurrence (closed _)

@[simp] theorem runs_endDuplicate (m : Runs loose free s t) : Runs loose free s (endDuplicate t) := by
  have ended : Runs loose free s { t with lnu := { t.lnu with dupTimer := none } } := runs_of_kept (t := t) rfl m
  exact ((runs_clearCondition _ ended).emit _).emit _

/-! ### Notices heard -/

theorem runs_lineAfterHeard (calm : t.lnu.state ≠ .lineFault) (m : Runs loose free s t) : Runs loose free s (lineAfterHeard t) :=
  m.line calm rfl

theorem runs_heardUnconfigured (h : Heard) (calm : t.lnu.state ≠ .lineFault) (m : Runs loose free s t) :
    Runs loose free s (heardUnconfigured h t) := by
  unfold heardUnconfigured
  split
  · exact runs_enterSkip calm m
  · exact runs_lineAfterHeard calm m

@[simp] theorem runs_beginDuplicate (m : Runs loose free s t) : Runs loose free s (beginDuplicate t) :=
  runs_releaseForDuplicate _ (runs_releaseForDuplicate _ (runs_raiseCondition _ m))

theorem runs_heardDuplicate (h : Heard) (calm : t.lnu.state ≠ .lineFault) (m : Runs loose free s t) :
    Runs loose free s (heardDuplicate h t) := by
  have taken : ∀ u, Runs loose free s u → Runs loose free s (if dupPresent u then u else beginDuplicate u) := by
    intro u k
    split
    · exact k
    · exact runs_beginDuplicate k
  exact taken _ (m.line calm rfl)

@[simp] theorem runs_takeAck (target bits : Nat) (faults : Bool) (m : Runs loose free s t) :
    Runs loose free s (takeAck target bits faults t) := by
  unfold takeAck; dsimp only; (repeat' split) <;> simp (maxDischargeDepth := 30) [m]

@[simp] theorem runs_writePeer (h : Heard) (m : Runs loose free s t) : Runs loose free s (writePeer h t) := by
  unfold writePeer; dsimp only; (repeat' split) <;> simp (maxDischargeDepth := 30) [m]

/-- What a notice carries fits its byte. -/
theorem byteAt_le (l : List Byte) (i : Nat) : byteAt l i ≤ 255 := by
  unfold byteAt
  cases l[i]? with
  | none => exact Nat.zero_le _
  | some b => exact Nat.le_of_lt_succ b.isLt

/-- The amount of a CLAIM that passes every check is one byte (R76). -/
theorem amount_of_readNotice {chars : List Byte} {h : Heard} (k : readNotice chars = .ok h) {r : Resource} {a : Nat} {refresh : Bool}
    (is : h.content = .claim r a refresh) : a ≤ 255 := by
  have carried : ∀ (kind : Nat) (body : List Byte), contentOf kind body = some (.claim r a refresh) → a ≤ 255 := by
    intro kind body found
    unfold contentOf at found
    dsimp only at found
    split at found
    case h_2 =>
      obtain ⟨_, _, same⟩ := Option.map_eq_some_iff.mp found
      cases same
      exact byteAt_le _ _
    all_goals simp at found
  unfold readNotice at k
  dsimp only at k
  (repeat' split at k) <;> try cases k
  next found => exact carried _ _ (found.trans (congrArg some is))

theorem runs_handOn {h : Heard} (other : h.station ≠ (setting t).station)
    (byte : ∀ r a refresh, h.content = .claim r a refresh → a ≤ 255) (calm : t.lnu.state ≠ .lineFault) (m : Runs loose free s t) :
    Runs loose free s (handOn h t) := by
  unfold handOn
  split
  · exact m
  next is => exact runs_claimHeard other (byte _ _ _ is) _ _ _ m
  · exact runs_removeEntry _ _ m
  · exact m
  · exact m
  · exact runs_tariffHeard _ _ m
  · exact runs_beginRollCall _ _ calm m
  · exact m
  · split
    · exact runs_examineConfirmation m
    · exact m
  · split
    · exact runs_takeAck _ _ _ m
    · exact m

theorem runs_heardPeer {h : Heard} (other : h.station ≠ (setting t).station)
    (byte : ∀ r a refresh, h.content = .claim r a refresh → a ≤ 255) (calm : t.lnu.state ≠ .lineFault) (m : Runs loose free s t) :
    Runs loose free s (heardPeer h t) := by
  have settings : setting (peersChanged (heardBefore h t)) = setting t := setting_heardBefore h t
  have state : (peersChanged (heardBefore h t)).lnu.state = .gap := by
    unfold heardBefore
    rw [lineState_of_wire (wire_peersChanged _), lineState_of_wire (wire_writePeer _ _), lineState_of_wire (wire_hearSender _ _ _)]
    rfl
  have written : Runs loose free s (peersChanged (heardBefore h t)) :=
    runs_peersChanged (runs_writePeer _ (runs_hearSender _ _ (runs_lineAfterHeard calm m)))
  exact runs_handOn (t := peersChanged (heardBefore h t)) (by rw [settings]; exact other) byte (by rw [state]; decide) written

theorem runs_noticeCompleted (chars : List Byte) (calm : t.lnu.state ≠ .lineFault) (m : Runs loose free s t) :
    Runs loose free s (noticeCompleted chars t) := by
  unfold noticeCompleted
  split
  · exact runs_discardNotice calm m
  next h read =>
    unfold heardValid
    split
    · split
      · exact runs_heardDuplicate h calm m
      next other => exact runs_heardPeer other (fun _ _ _ is => amount_of_readNotice read is) calm m
    · exact runs_heardUnconfigured h calm m

/-! ### Timer rows -/

theorem yieldPart_le_largerPart (x : Share) : yieldPart x ≤ largerPart x := by
  cases x with
  | held a => exact le_rfl
  | settling p h t late => exact Nat.le_max_left _ _

theorem runs_settlePeer {r : Resource} {n : Nat} (other : n ≠ (setting t).station) (m : Runs loose free s t) :
    Runs loose free s (settlePeer r n t) := by
  refine (runs_setEntry (fun mine => absurd mine other) (fun h is => ?_) m).emit _
  obtain ⟨g, found, rfl⟩ := Option.map_eq_some_iff.mp is
  exact .inr ⟨g, found, yieldPart_le_largerPart g.share⟩

theorem runs_endListening (may : free) (m : Runs loose free s t) : Runs loose free s (endListening t) :=
  runs_askNext (runs_questions (t := t) (.inl may) (Nat.le_max_left 2 _) rfl m)

theorem sld_setIncomplete (r : Resource) (t : State) : (setIncomplete r t).sld = t.sld := by cases r <;> rfl

theorem runs_endAnswering (may : free) (joining : t.sld.mode = .joining) (m : Runs loose free s t) :
    Runs loose free s (endAnswering t) := by
  unfold endAnswering
  refine runs_becomeJoined ?_ (.inl may) ?_
  · (repeat' split) <;> simp [sld_setIncomplete, joining]
  · (repeat' split) <;> simp [m]

/-! ### Commands -/

/-- The commands whose effect is no such run: the two resets, the loader's own, and the end of a line fault. -/
def standsAlone : Instr → Bool
  | .powerOnReset => true
  | .externalReset => true
  | .loadAttemptDone _ => true
  | .resetPinReturnsHigh => true
  | .lineFaultExit => true
  | _ => false

/-- Where its event arises the effect of any other command is a run. -/
theorem runs_effect {c : Instr} (h : arises c t = true) (may : free) (a : standsAlone c = false) (m : Runs loose free s t) :
    Runs loose free s (effect c t) := by
  have calm : ∀ {x : LineState}, x ≠ .lineFault → (t.lnu.state == x) = true → t.lnu.state ≠ .lineFault := by
    intro x other is
    rw [eq_of_beq is]
    exact other
  cases c with
  | powerOnReset | externalReset | loadAttemptDone | resetPinReturnsHigh | lineFaultExit => cases a
  | retryWaitExpiry => exact runs_of_kept (t := t) rfl m
  | secondEvent p tw tr ta => exact runs_secondPasses _ _ _ _ m
  | minuteMark => exact runs_minutePasses m
  | rawInputChange i closed => exact runs_followPin i m
  | inputSettled i => exact runs_inputSettles i m
  | proofTimerExpiry k => exact runs_proofExpires k m
  | quietReached =>
    simp only [arises, Bool.and_eq_true, Bool.or_eq_true] at h
    exact m.line (h.2.elim (calm (by decide)) (calm (by decide))) rfl
  | winTime slot =>
    simp only [arises, headStarts, Bool.and_eq_true] at h
    exact runs_winSlot slot 8 (t := { t with lnu := { t.lnu with slot := slot } }) (calm (by decide) h.2.1)
      (runs_of_kept (t := t) rfl m)
  | echoConflict b =>
    simp only [arises, drives, Bool.and_eq_true] at h
    exact runs_loseEcho b (calm (by decide) h.2.1) m
  | driverFailure b =>
    simp only [arises, drives, Bool.and_eq_true] at h
    exact runs_failDriver (calm (by decide) h.2.1) m
  | noticeSent =>
    simp only [arises, Bool.and_eq_true] at h
    exact runs_finishSending (calm (by decide) h.2) m
  | noticeHeard chars =>
    simp only [arises, receives, Bool.and_eq_true] at h
    exact runs_noticeCompleted chars (calm (by decide) h.2.1.1.1) m
  | noticeDiscarded cause =>
    simp only [arises, Bool.and_eq_true, Bool.or_eq_true] at h
    exact runs_discardNotice (h.2.elim (calm (by decide)) (calm (by decide))) m
  | dupTimerExpiry => exact runs_endDuplicate m
  | lineFaultEntry =>
    simp only [arises, Bool.and_eq_true, bne_iff_ne] at h
    exact runs_enterLineFault h.2 m
  | answerWaitEnd =>
    simp only [arises, Bool.and_eq_true] at h
    exact m.line (calm (by decide) h.2) rfl
  | windowEnd samples =>
    simp only [arises, Bool.and_eq_true] at h
    exact runs_endWindow may samples (calm (by decide) h.2) m
  | peerLost n => exact runs_losePeer n m
  | tariffNightTimeout => exact runs_nightTimesOut m
  | peerSettleExpiry n r =>
    simp only [arises, peerEntryIs, Bool.and_eq_true, bne_iff_ne] at h
    exact runs_settlePeer h.2.1 m
  | entryAgedOut n r => exact runs_removeEntry r n m
  | ownSettleExpiry r =>
    simp only [arises, settleDue, Bool.and_eq_true] at h
    exact runs_ownSettleDone h.2.1 m
  | refreshLead r => exact runs_refreshLeadReached r m
  | refreshTime r =>
    simp only [arises, refreshDue, Bool.and_eq_true, beq_iff_eq] at h
    exact runs_refreshMissed h.2.1 m
  | incompleteTimerExpiry r => exact ((runs_setIncompleteTimer r none).mpr m).emit _
  | listeningTimerExpiry => exact runs_endListening may m
  | answerTimerExpiry =>
    simp only [arises, Bool.and_eq_true, beq_iff_eq] at h
    exact runs_endAnswering may h.2 m
  | openTimerExpiry => exact runs_openExpires m
  | clearingTimerExpiry => exact runs_clearingExpires m
  | strokeTimerExpiry => exact runs_fillFollows (runs_strokeExpires m)
  | confirmTimerExpiry => exact runs_fillFollows (runs_confirmExpires m)
  | stagnationPeriodEnd => exact runs_stagnationEnds m
  | reportTimerDue => exact runs_dueEvent (runs_of_kept (t := t) rfl m)
  | startBitFromAnotherStation =>
    simp only [arises, Bool.and_eq_true, Bool.or_eq_true] at h
    exact m.line (h.2.elim (calm (by decide)) (calm (by decide))) rfl

theorem kept_beginEvent (t : State) : kept (beginEvent t) = kept t := rfl
theorem kept_contactMoved (c : Instr) (t : State) : kept (contactMoved c t) = kept t := by cases c <;> rfl

/-- An event is its own effect and what it hands on. -/
theorem runs_event {f : State → State} (h : Runs loose free s (f (beginEvent t))) : Runs loose free s (event f t) :=
  runs_takeHandOns _ (runs_follow h)

end

end Sys2Proof.Machine
end

section
/-! PROOFS. The law of the SUPPLY claim: one slot, asked exactly where the fill state asks it. -/

namespace Sys2Proof.Machine

/-- What R76 and R107 say of the own SUPPLY claim with its entry, in a fill state. -/
def OneSlot (f : FillState) (x : OwnClaim × Option Holding) : Prop :=
  (x.1.state = .none ↔ holdsRequest f = false) ∧ (x.1.state ≠ .none → x.1.amount = 1) ∧ x.1.raise = none ∧
  (x.1.state = .held → x.1.held = 1) ∧
  ∀ h, x.2 = some h → (x.1.state = .settling ∨ x.1.state = .held) ∧ yieldPart h.share = 1

/-- The law of the SUPPLY claim but for the rest before loading ends. -/
def SlotLaw (s : State) : Prop :=
  s.flc.openRequest = isFill s.flc.state ∧ OneSlot s.flc.state (standing .supply s) ∧
  ∀ o refresh, s.lnu.onLine = some o → o.item = .claim .supply refresh → byteAt o.body 1 = 1

theorem supplyClaimKept_iff (s : State) : SupplyClaimKept s ↔ RestsUntilLoaded s ∧ SlotLaw s := by
  constructor
  · rintro ⟨rests, request, asked, amount, raised, held, entry, line⟩
    exact ⟨rests, request, ⟨asked, amount, raised, held, entry⟩, line⟩
  · rintro ⟨rests, request, ⟨asked, amount, raised, held, entry⟩, line⟩
    exact ⟨rests, request, asked, amount, raised, held, entry, line⟩

section
variable {f : FillState} {c : OwnClaim} {e : Option Holding} {x y : OwnClaim × Option Holding} {s t u : State}

/-! ### One slot -/

/-- The claim of one slot: the state it is in decides the rest. -/
theorem oneSlot_of_state (h : OneSlot f x) (some' : y.1.state ≠ .none) (none' : x.1.state ≠ .none) (amount : y.1.amount = x.1.amount)
    (raise : y.1.raise = none) (held : y.1.state = .held → y.1.held = 1)
    (entry : ∀ g, y.2 = some g → (y.1.state = .settling ∨ y.1.state = .held) ∧ yieldPart g.share = 1) : OneSlot f y := by
  obtain ⟨asked, one, _, _, _⟩ := h
  refine ⟨⟨fun n => absurd n some', fun n => absurd (asked.mpr n) none'⟩, fun _ => amount.trans (one none'), raise, held, entry⟩

theorem oneSlot_of_sinks (h : OneSlot f x) (k : Sinks x y) : OneSlot f y := by
  induction k with
  | refl => exact h
  | @waits c e _ announcing ih =>
    have before := ih
    obtain ⟨_, _, raise, _, entry⟩ := ih
    refine oneSlot_of_state before nofun (by rw [announcing]; exact nofun) rfl raise nofun fun g is => ?_
    obtain ⟨state, _⟩ := entry g is
    rw [announcing] at state
    exact absurd state (by decide)
  | raiseWaits _ raised _ ih =>
    obtain ⟨_, _, raise, _, _⟩ := ih
    exact absurd (raised.symm.trans raise) nofun
  | lost _ held ih => exact oneSlot_of_state ih nofun (by rw [held]; exact nofun) rfl rfl nofun nofun

theorem oneSlot_of_adjusts {d : OwnClaim} (h : OneSlot f (c, e)) (k : Adjusts c d) : OneSlot f (d, e) := by
  obtain ⟨asked, one, raise, held, entry⟩ := h
  obtain ⟨amount, kept, raised, state⟩ := k
  dsimp only at asked one raise held entry
  have none' : d.raise = none := by
    rw [raise] at raised
    exact Option.map_eq_none_iff.mp raised
  rcases state with same | ⟨old, new⟩
  · exact ⟨by rw [same]; exact asked, fun n => amount.trans (one (same ▸ n)), none', fun n => kept.trans (held (same ▸ n)),
      fun g is => by rw [same]; exact entry g is⟩
  · have was : c.state ≠ .none := by rcases old with o | o <;> rw [o] <;> exact nofun
    refine oneSlot_of_state (x := (c, e)) ⟨asked, one, raise, held, entry⟩ ?_ was amount none' ?_ ?_
    · rcases new with n | n <;> rw [n] <;> exact nofun
    · intro k
      rcases new with n | n <;> exact absurd (n.symm.trans k) nofun
    · intro g is
      obtain ⟨state, _⟩ := entry g is
      rcases old with o | o <;> rw [o] at state <;> exact absurd state (by decide)

/-! ### What each kind of run makes of it -/

theorem slotLaw_congr (fill : u.flc.state = t.flc.state) (request : u.flc.openRequest = t.flc.openRequest)
    (claim : OneSlot t.flc.state (standing .supply t) → OneSlot t.flc.state (standing .supply u))
    (line : u.lnu.onLine = t.lnu.onLine ∨ u.lnu.onLine = none) (h : SlotLaw t) : SlotLaw u := by
  obtain ⟨open', one, sent⟩ := h
  refine ⟨by rw [request, fill]; exact open', by rw [fill]; exact claim one, fun o refresh on => ?_⟩
  rcases line with same | free
  · exact sent o refresh (same ▸ on)
  · rw [free] at on; cases on

/-- What leaves every other block alone keeps the law with the claim. -/
theorem slotLaw_of_beside (rest : beside u = beside t)
    (claim : OneSlot t.flc.state (standing .supply t) → OneSlot t.flc.state (standing .supply u)) (h : SlotLaw t) : SlotLaw u := by
  have blocks : u.flc = t.flc := flc_of_beside rest
  exact slotLaw_congr (congrArg Fill.state blocks) (congrArg Fill.openRequest blocks) claim
    (.inl (congrArg (fun b : Beside => b.state.lnu.onLine) rest :)) h

/-- What the law speaks about but the notice on the line. -/
def slotPart (k : Kept) : FillState × Bool × OwnClaim × Vector (Option Holding) 24 × Settings :=
  (k.fill, k.request, k.ownSupply, k.supplyTable, k.settings)

theorem slotLaw_of_kept (same : slotPart (kept u) = slotPart (kept t)) (line : u.lnu.onLine = t.lnu.onLine ∨ u.lnu.onLine = none)
    (h : SlotLaw t) : SlotLaw u := by
  obtain ⟨fill, rest⟩ := Prod.mk.inj same
  obtain ⟨request, rest⟩ := Prod.mk.inj rest
  obtain ⟨own', rest⟩ := Prod.mk.inj rest
  obtain ⟨table, settings⟩ := Prod.mk.inj rest
  have claim : standing .supply u = standing .supply t := standing_of_side settings (Prod.ext own' table)
  exact slotLaw_congr fill request (fun one => by rw [claim]; exact one) line h

theorem resource_cases (r : Resource) : r = .load ∨ r = .supply := by cases r <;> simp

theorem standing_setTable (v : Vector (Option Holding) 24) (t : State) :
    standing .supply (setTable .supply v t) = (own .supply t, entryAt .supply (setting t).station (setTable .supply v t)) := rfl

theorem entryAt_setTable (r : Resource) (v : Vector (Option Holding) 24) (n : Nat) (t : State) :
    entryAt r n (setTable r v t) = if h : 1 ≤ n ∧ n ≤ 24 then v[n - 1]'(by omega) else none := by
  cases r <;> rfl

/-- An own entry that goes or keeps its amounts. -/
theorem slotLaw_table {v : Vector (Option Holding) 24} (kept' : TableKept .supply v t) (h : SlotLaw t) :
    SlotLaw (setTable .supply v t) := by
  refine slotLaw_congr (t := t) rfl rfl (fun one => ?_) (.inl rfl) h
  obtain ⟨asked, amount, raise, held, entry⟩ := one
  refine ⟨asked, amount, raise, held, fun g is => ?_⟩
  rw [standing_setTable, entryAt_setTable] at is
  split at is
  next inside =>
    replace is : v[(setting t).station - 1] = some g := is
    obtain ⟨own', _⟩ := kept' ⟨(setting t).station - 1, by omega⟩
    have same : v[(setting t).station - 1] = v[(⟨(setting t).station - 1, by omega⟩ : Fin 24)] := rfl
    rcases own' (by dsimp only; omega) with gone | figs
    · rw [same, gone] at is; cases is
    · rw [← same, is] at figs
      obtain ⟨g', found, figure⟩ := Option.map_eq_some_iff.mp figs.symm
      have at' : entryAt .supply (setting t).station t = some g' := by
        unfold entryAt; rw [dif_pos inside]; exact found
      obtain ⟨state, part⟩ := entry g' at'
      exact ⟨state, (congrArg Prod.fst figure).symm.trans part⟩
  next => cases is

theorem withdrawRaise_of_none {r : Resource} (h : (own r t).raise = none) : withdrawRaise r t = t := by
  unfold withdrawRaise
  dsimp only
  rw [h]

theorem slotLaw_loseOwn {b : Bool} (stood : (own .supply t).state = .settling ∨ (own .supply t).state = .held ∨
    (entryAt .supply (setting t).station t).isSome = true) (h : SlotLaw t) : SlotLaw (loseOwn .supply b t) := by
  refine slotLaw_of_beside (beside_loseOwn _ _ _) (fun one => ?_) h
  have lost : standing .supply (loseOwn .supply b t) = (lostRecord (own .supply t), none) := by
    unfold standing
    rw [own_loseOwn, setting_of_beside (beside_loseOwn .supply b t), entryAt_loseOwn]
  have asked : (own .supply t).state ≠ .none := by
    intro none'
    obtain ⟨_, _, _, _, entry⟩ := one
    rcases stood with s | s | s
    · exact absurd (none'.symm.trans s) nofun
    · exact absurd (none'.symm.trans s) nofun
    · obtain ⟨g, is⟩ := Option.isSome_iff_exists.mp s
      rcases (entry g is).1 with k | k <;> exact absurd (none'.symm.trans k) nofun
  rw [lost]
  exact oneSlot_of_state one nofun asked rfl rfl nofun nofun

theorem entry_of_setEntry {r : Resource} {n : Nat} {x : Option Holding} {g : Holding} (h : entryAt r n (setEntry r n x t) = some g) :
    x = some g := by
  by_cases inside : 1 ≤ n ∧ n ≤ 24
  · rw [entryAt_setEntry_same inside] at h
    exact h
  · unfold entryAt at h
    rw [dif_neg inside] at h
    cases h

theorem standing_emit (r : Resource) (x : HandOn) (t : State) : standing r (emit x t) = standing r t := by cases r <;> rfl

/-- The own entry takes an urgency: its amounts stay. -/
theorem oneSlot_ownEntryUrgency (a : Nat) (one : OneSlot f (standing .supply t)) :
    OneSlot f (standing .supply (ownEntryUrgency .supply a t)) := by
  unfold ownEntryUrgency
  split
  next e found =>
    split
    · exact one
    · rw [standing_emit]
      obtain ⟨asked, amount, raise, held, entry⟩ := one
      have claim : own .supply (setEntry .supply (setting t).station (some { e with urgency := a }) t) = own .supply t :=
        own_setEntry _ _ _ _ _
      have station : setting (setEntry .supply (setting t).station (some { e with urgency := a }) t) = setting t :=
        setting_of_beside (beside_setOwnEntry _ _ _)
      unfold standing
      rw [claim, station]
      refine ⟨asked, amount, raise, held, fun g is => ?_⟩
      cases entry_of_setEntry is
      exact entry e found
  next => exact one

/-- A refreshed claim: its refresh timer starts anew, and its entry takes the sent urgency. -/
theorem oneSlot_renewed {a : Nat} {x : Option Nat} (one : OneSlot f (standing .supply t)) :
    OneSlot f (standing .supply (ownEntryUrgency .supply a
      (setOwn .supply { own .supply t with missed := 0, refresh := x, leadDone := false } t))) := by
  refine oneSlot_ownEntryUrgency (t := setOwn .supply _ t) a ?_
  rw [standing_setOwn]
  exact oneSlot_of_adjusts (c := own .supply t) one ⟨rfl, rfl, rfl, .inl rfl⟩

/-- A CLAIM of one slot sent. -/
theorem slotLaw_claimSent {refresh : Bool} {a u : Nat} (carried : a = 1) (h : SlotLaw t) : SlotLaw (claimSent .supply refresh a u t) := by
  have flc : (claimSent .supply refresh a u t).flc = t.flc := by
    unfold claimSent
    dsimp only
    (repeat' split) <;> simp [flc_of_beside (beside_ownEntryUrgency _ _ _)]
  refine slotLaw_congr (congrArg Fill.state flc) (congrArg Fill.openRequest flc) (fun one => ?_)
    (.inl (congrArg Line.onLine (lnu_claimSent _ _ _ _ t))) h
  have noRaise : (own .supply t).raise = none := one.2.2.1
  unfold claimSent
  dsimp only
  split
  · split
    · exact oneSlot_renewed one
    · exact one
  · split
    next announcing =>
      rw [standing_emit]
      have claim : ∀ v e c, own .supply (setEntry .supply (setting t).station e (setTable .supply v (setOwn .supply c t))) = c := by
        intro v e c
        rw [own_setEntry]
        rfl
      have station : ∀ v e c, setting (setEntry .supply (setting t).station e (setTable .supply v (setOwn .supply c t))) =
          setting t := fun v e c => congrArg Loader.settings (station_setEntry .supply _ e _)
      unfold standing
      rw [claim, station]
      refine oneSlot_of_state one nofun ?_ rfl noRaise nofun fun g is => ⟨.inl rfl, ?_⟩
      · show (own .supply t).state ≠ .none
        rw [announcing]
        exact nofun
      · cases entry_of_setEntry is
        exact carried
    next =>
      split
      · split
        next x raised => exact absurd (raised.symm.trans noRaise) nofun
        next => exact oneSlot_renewed one
      · exact one

/-- The amount a settling SUPPLY claim settles at. -/
theorem settlingAmount_supply (one : OneSlot f (standing .supply t)) (settling : ownSettling .supply t = true) :
    (own .supply t).state = .settling ∧ settlingAmount .supply t = 1 := by
  obtain ⟨_, amount, raise, _, entry⟩ := one
  have state : (own .supply t).state = .settling := by
    refine (ownSettling_iff.mp settling).resolve_right fun phase => ?_
    have none' : (own .supply t).raise = none := raise
    rw [none'] at phase
    cases phase
  refine ⟨state, ?_⟩
  unfold settlingAmount
  split
  next e found => exact (entry e found).2
  next =>
    refine amount ?_
    show (own .supply t).state ≠ .none
    rw [state]
    exact nofun

theorem standing_tellGranted (r r' : Resource) (t : State) : standing r (tellGranted r' t) = standing r t := by
  cases r' <;> exact standing_emit r _ t

theorem oneSlot_payOwedRefresh (one : OneSlot f (standing .supply t)) : OneSlot f (standing .supply (payOwedRefresh .supply t)) := by
  unfold payOwedRefresh
  dsimp only
  split
  · refine oneSlot_of_sinks ?_ (sinks_queueNotice _ _ .refl)
    rw [standing_setOwn]
    exact oneSlot_of_adjusts (c := own .supply t) one ⟨rfl, rfl, rfl, .inl rfl⟩
  · exact one

/-- The claim HELD. -/
theorem slotLaw_grantOwn (settling : ownSettling .supply t = true) (h : SlotLaw t) :
    SlotLaw (grantOwn .supply (settlingAmount .supply t) t) := by
  refine slotLaw_of_beside (beside_grantOwn _ _ _) (fun one => ?_) h
  obtain ⟨state, amount⟩ := settlingAmount_supply one settling
  refine oneSlot_payOwedRefresh ?_
  rw [standing_tellGranted, amount]
  generalize (entryAt .supply (setting t).station t).elim (own .supply t).urgency Holding.urgency = n
  unfold standing
  rw [own_setEntry, own_setOwn_same, show setting (setEntry .supply (setting t).station (some { share := .held 1, urgency := n, age := 0 })
      (setOwn .supply { own .supply t with state := .held, held := 1, raise := none, settle := none } t)) = setting t from
    congrArg Loader.settings (station_setEntry .supply _ _ _)]
  refine oneSlot_of_state one nofun ?_ rfl rfl (fun _ => rfl) fun g is => ⟨.inr rfl, ?_⟩
  · show (own .supply t).state ≠ .none
    rw [state]
    exact nofun
  · cases entry_of_setEntry is
    rfl

/-- A withdrawn claim has nothing that the queue could drop. -/
theorem eq_of_sinks_atReset (k : Sinks (OwnClaim.atReset, none) y) : y = (OwnClaim.atReset, none) := by
  induction k with
  | refl => rfl
  | waits _ announcing ih => cases ih; cases announcing
  | raiseWaits _ raised _ ih => cases ih; cases raised
  | lost _ held ih => cases ih; cases held

theorem standing_withdrawOwn {r : Resource} (asked : (own r t).state ≠ .none)
    (entry : (own r t).state = .waiting ∨ (own r t).state = .announcing → entryAt r (setting t).station t = none) :
    standing r (withdrawOwn r t) = (OwnClaim.atReset, none) := by
  unfold withdrawOwn
  split
  next none' => exact absurd none' asked
  next waiting => rw [standing_setOwn, entry (.inl waiting)]
  next announcing =>
    refine eq_of_sinks_atReset (sinks_queueNotice _ _ ?_)
    rw [standing_setOwn, entry (.inr announcing)]
    exact .refl
  next =>
    refine eq_of_sinks_atReset (sinks_queueNotice _ _ ?_)
    rw [standing_dropOwnEntry, own_setOwn_same]
    exact .refl

/-- Announcing moves nothing but the state. -/
theorem oneSlot_announce (one : OneSlot f (standing .supply t)) : OneSlot f (standing .supply (announce .supply t)) := by
  have noRaise : (own .supply t).raise = none := one.2.2.1
  unfold announce
  dsimp only
  split
  next waiting =>
    split
    · refine oneSlot_of_sinks ?_ (sinks_queueNotice _ _ .refl)
      rw [standing_setOwn]
      exact oneSlot_of_adjusts (c := own .supply t) one ⟨rfl, rfl, rfl, .inr ⟨.inl waiting, .inr rfl⟩⟩
    · exact one
  next =>
    split
    next x raised => exact absurd (raised.symm.trans noRaise) nofun
    next => exact one
  next => exact one

/-- A claim asked afresh for one slot (R83). -/
theorem oneSlot_askFresh {why : ClaimReason} {a : Nat} (entry : entryAt .supply (setting t).station t = none) :
    OneSlot (.claim why) (standing .supply (askFresh .supply 1 a t)) := by
  refine oneSlot_announce ?_
  rw [standing_setOwn, entry]
  exact ⟨⟨nofun, nofun⟩, fun _ => rfl, rfl, nofun, nofun⟩

/-- Between states that ask nothing no claim moves. -/
theorem standing_setFill_rests {new : FillState} (old : ¬ holdsRequest t.flc.state = true) (unasked : holdsRequest new = false) :
    standing .supply (setFill new t) = standing .supply (moveFill new t) := by
  unfold setFill
  dsimp only
  split
  · rfl
  · split
    next => cases unasked
    next => cases unasked
    next => cases unasked
    next => rfl

/-- The claim and the open request follow the fill state entered (R107). -/
theorem slotLaw_setFill {new : FillState} (may : standsOnClaim new = true → holdsRequest t.flc.state = true) (h : SlotLaw t) :
    SlotLaw (setFill new t) := by
  by_cases same : t.flc.state = new
  · rwa [show setFill new t = t by unfold setFill; rw [if_pos same]]
  obtain ⟨_, one, sent⟩ := h
  have flc := flc_setFill same
  have line : (setFill new t).lnu.onLine = t.lnu.onLine :=
    congrArg (fun w : Line × (Resource → Nat → Option Holding) => w.1.onLine) (wire_setFill new t)
  suffices claim : OneSlot new (standing .supply (setFill new t)) by
    refine ⟨?_, ?_, ?_⟩
    · rw [flc]; rfl
    · rw [state_setFill]; exact claim
    · rw [line]; exact sent
  have moved : standing .supply (moveFill new t) = standing .supply t := rfl
  by_cases old : holdsRequest t.flc.state = true
  · by_cases asked : holdsRequest new = true
    · rw [setFill_continues same old asked, moved]
      obtain ⟨was, rest⟩ := one
      refine ⟨?_, rest⟩
      rw [was, old, asked]
    · have stands : (own .supply t).state ≠ .none := fun n => absurd (one.1.mp n) (by rw [old]; exact nofun)
      rw [setFill_withdraws old asked, standing_withdrawOwn (t := moveFill new t) stands fun state => ?_]
      · exact ⟨⟨fun _ => Bool.eq_false_iff.mpr asked, fun _ => rfl⟩, fun n => absurd rfl n, rfl, nofun, nofun⟩
      · obtain ⟨_, _, _, _, entry⟩ := one
        cases found : entryAt .supply (setting t).station t with
        | none => exact found
        | some g =>
          obtain ⟨settled, _⟩ := entry g found
          have state : (own .supply t).state = .waiting ∨ (own .supply t).state = .announcing := state
          have settled : (own .supply t).state = .settling ∨ (own .supply t).state = .held := settled
          rcases state with s | s <;> rw [s] at settled <;> exact absurd settled (by decide)
  · have unheld : (own .supply t).state = .none := one.1.mpr (Bool.eq_false_iff.mpr old)
    have bare : entryAt .supply (setting t).station t = none := by
      obtain ⟨_, _, _, _, entry⟩ := one
      cases found : entryAt .supply (setting t).station t with
      | none => rfl
      | some g =>
        have settled : (own .supply t).state = .settling ∨ (own .supply t).state = .held := (entry g found).1
        rw [unheld] at settled
        exact absurd settled (by decide)
    by_cases asked : ∃ why, new = .claim why
    · obtain ⟨why, rfl⟩ := asked
      rw [setFill_asks old unheld]
      exact oneSlot_askFresh (t := moveFill (.claim why) t) bare
    · have unasked : holdsRequest new = false := by
        cases new with
        | claim why => exact absurd ⟨why, rfl⟩ asked
        | fill why =>
          cases why with
          | tariff => exact absurd (may rfl) old
          | turnover => exact absurd (may rfl) old
          | relief => rfl
        | _ => rfl
      rw [standing_setFill_rests old unasked, moved]
      obtain ⟨_, rest⟩ := one
      exact ⟨⟨fun _ => unasked, fun _ => unheld⟩, rest⟩

/-- A CLAIM that is not cancelled carries one slot (R86). -/
theorem slotLaw_startSending {e : QueueEntry} (may : cancelled e.item e.urgency t = false) (h : SlotLaw t) :
    SlotLaw (startSending e t) := by
  obtain ⟨request, one, _⟩ := h
  refine ⟨request, one, fun o refresh on is => ?_⟩
  cases Option.some.inj on
  have item : e.item = .claim .supply refresh := is
  obtain ⟨_, amount, raise, held, _⟩ := one
  have noRaise : (own .supply t).raise = none := raise
  rw [item] at may
  have carried : claimAmount .supply refresh t = 1 := by
    unfold claimAmount
    cases refresh with
    | true =>
      simp only [cancelled, Bool.or_eq_false_iff, bne_eq_false_iff_eq] at may
      exact held may.2
    | false =>
      simp only [cancelled, announcing, noRaise, Option.map_none, Bool.or_eq_false_iff, Bool.not_eq_false'] at may
      have state : (own .supply t).state = .announcing := by simpa using may.1.2
      have stands : (own .supply t).amount = 1 := amount (by show (own .supply t).state ≠ _; rw [state]; exact nofun)
      simp [state, stands]
  show byteAt (bodyOf e.item t) 1 = 1
  rw [item]
  show (char (claimAmount .supply refresh t)).toNat = 1
  rw [carried]
  rfl

/-- No run moves the SUPPLY claim otherwise than the law says. -/
theorem slotLaw_of_runs (m : Runs (· = .load) True s t) (h : SlotLaw s) : SlotLaw t := by
  have tight : ¬ (Resource.supply = .load) := nofun
  induction m with
  | refl => exact h
  | still _ e ih => exact slotLaw_of_kept (congrArg slotPart e :) (.inl (congrArg Kept.onLine e :)) ih
  | emit x _ ih => exact slotLaw_of_beside (beside_emit _ _) (fun one => by rw [standing_emit]; exact one) ih
  | notice item n _ ih =>
    exact slotLaw_of_beside (beside_queueNotice _ _ _) (fun one => oneSlot_of_sinks one (sinks_queueNotice _ _ .refl)) ih
  | adjust r c _ k ih =>
    refine slotLaw_of_beside (beside_setOwn _ _ _) (fun one => ?_) ih
    cases r with
    | load => rw [standing_setOwn_ne (by exact nofun)]; exact one
    | supply => rw [standing_setOwn]; exact oneSlot_of_adjusts one k
  | @table t r v _ k ih =>
    cases r with
    | load => exact slotLaw_congr (t := t) rfl rfl id (.inl rfl) ih
    | supply => exact slotLaw_table k ih
  | rawOwn r c any _ ih =>
    subst any
    exact slotLaw_of_beside (beside_setOwn _ _ _) (fun one => by rw [standing_setOwn_ne (by exact nofun)]; exact one) ih
  | @rawTable t r v any _ ih => subst any; exact slotLaw_congr (t := t) rfl rfl id (.inl rfl) ih
  | lose r b no _ stood ih => rw [(resource_cases r).resolve_left no] at stood ⊢; exact slotLaw_loseOwn stood ih
  | @withdraw t r no _ ih =>
    rw [(resource_cases r).resolve_left no, withdrawRaise_of_none ih.2.1.2.2.1]
    exact ih
  | sent r refresh a u no _ carried ih =>
    rw [(resource_cases r).resolve_left no] at carried ⊢
    obtain ⟨o, on, is, amount⟩ := carried
    exact slotLaw_claimSent (amount.symm.trans (ih.2.2 o refresh on is)) ih
  | grant r no _ settling ih => rw [(resource_cases r).resolve_left no] at settling ⊢; exact slotLaw_grantOwn settling ih
  | shape any => exact absurd any tight
  | fill new _ _ may ih => exact slotLaw_setFill may ih
  | heat _ _ e ih => exact slotLaw_of_kept (congrArg slotPart e :) (.inl (congrArg Kept.onLine e :)) ih
  | evaluate l no => exact absurd rfl no
  | @stage t k x _ _ ih => exact slotLaw_congr (t := t) rfl rfl id (.inl rfl) ih
  | ask _ _ _ e ih => exact slotLaw_of_kept (congrArg slotPart e :) (.inl (congrArg Kept.onLine e :)) ih
  | join _ _ _ e ih => exact slotLaw_of_kept (congrArg slotPart e :) (.inl (congrArg Kept.onLine e :)) ih
  | line _ _ e ih => exact slotLaw_of_kept (congrArg slotPart e :) (.inl (congrArg Kept.onLine e :)) ih
  | off _ e ih => exact slotLaw_of_kept (congrArg slotPart e :) (.inr (congrArg Kept.onLine e :)) ih
  | start e _ _ may ih => exact slotLaw_startSending may ih

end

end Sys2Proof.Machine
end

section
/-! PROOFS. The events that are no such run: loading, the end of a line fault; and the events of a station that takes no part. -/

namespace Sys2Proof.Machine

section
variable {loose : Resource → Prop} {free : Prop} {s t : State}

/-! ### Loading and the end of a line fault -/

/-- From the loader's verdict on, the end of loading is a run. -/
theorem runs_endLoading (raw : Settings) (m : Runs loose free s (loadDone raw t)) : Runs loose free s (endLoading raw t) := by
  have started : Runs loose free s (startListening (startInflow (startMeasure (loadDone raw t)))) :=
    runs_startListening (runs_of_kept (t := loadDone raw t) rfl m)
  unfold endLoading
  dsimp only
  exact runs_startTrip (runs_dueEvent (runs_frostJudge (runs_fillFollows (runs_startTariff
    (runs_guardExamine _ (runs_startSituation (runs_startInputs started)))))))

/-- The line is quiet again. -/
def lineQuiet (t : State) : State := { t with lnu := { t.lnu with state := .quiet, slot := 0, dominantRun := 0, recessive := 16 } }

theorem runs_leaveLineFault (may : free) (m : Runs loose free s (lineQuiet t)) : Runs loose free s (leaveLineFault t) :=
  (runs_askAfterFault may (runs_setIncomplete _ (runs_setIncomplete _ (runs_clearCondition _ m)))).emit _

/-! ### The mode -/

theorem active_of_mode {u : State} (mode : u.sld.mode = t.sld.mode) (reset : u.resetLow = t.resetLow) : active u = active t := by
  unfold active
  rw [mode, reset]

/-- A configured station stays one. -/
theorem active_of_runs (m : Runs loose free s t) (h : active s = true) : active t = true := by
  have stays : ∀ {t u : State}, steady u = steady t → active t = true → active u = true := fun same on =>
    (active_of_steady same).trans on
  have kept' : ∀ {t u : State}, (kept u).mode = (kept t).mode → (kept u).resetLow = (kept t).resetLow → active t = true →
      active u = true := fun mode reset on => (active_of_mode mode reset).trans on
  induction m with
  | refl => exact h
  | still _ e ih => exact kept' (congrArg Kept.mode e) (congrArg Kept.resetLow e) ih
  | emit x _ ih => exact ih
  | notice item n _ ih => exact stays (by simp) ih
  | adjust r c _ _ ih => exact stays (by simp) ih
  | table r v _ _ ih => exact stays (by simp) ih
  | rawOwn r c _ _ ih => exact stays (by simp) ih
  | rawTable r v _ _ ih => exact stays (by simp) ih
  | lose r b _ _ _ ih => exact stays (by simp) ih
  | withdraw r _ _ ih => exact stays (by simp) ih
  | sent r refresh a u _ _ _ ih => exact stays (by simp) ih
  | grant r _ _ _ ih => exact stays (by simp) ih
  | shape _ _ e ih => exact kept' (congrArg Kept.mode e :) (congrArg Kept.resetLow e :) ih
  | fill new _ _ _ ih => exact stays (by simp) ih
  | heat _ _ e ih => exact kept' (congrArg Kept.mode e :) (congrArg Kept.resetLow e :) ih
  | @evaluate t l _ _ ih => exact stays (t := { t with handOns := l }) (by simp) ih
  | stage k x _ _ ih => exact ih
  | ask _ _ _ e ih => exact kept' (congrArg Kept.mode e :) (congrArg Kept.resetLow e :) ih
  | join _ _ _ e ih =>
    obtain ⟨high, _⟩ := active_iff.mp ih
    exact active_iff.mpr ⟨(congrArg Kept.resetLow e :).trans high, .inr (congrArg Kept.mode e :)⟩
  | line _ _ e ih => exact kept' (congrArg Kept.mode e :) (congrArg Kept.resetLow e :) ih
  | off _ e ih => exact kept' (congrArg Kept.mode e :) (congrArg Kept.resetLow e :) ih
  | start e _ _ _ ih => exact ih

/-! ### A station that takes no part -/

/-- An event taken while nothing is handed on, and handing nothing on, ends with its own effect. -/
theorem event_of_silent {f : State → State} (h : (f (beginEvent t)).handOns = []) : event f t = follow (f (beginEvent t)) := by
  unfold event
  have rested : (follow (f (beginEvent t))).handOns = [] := h
  show takeHandOns (4095 + 1) _ = _
  unfold takeHandOns
  rw [rested]

theorem discardNotice_of_inactive (off : active t = false) :
    (discardNotice t).handOns = t.handOns ∧ (discardNotice t).clu = t.clu := by
  unfold discardNotice
  dsimp only
  rw [off, if_neg (by decide)]
  exact ⟨rfl, rfl⟩

/-- What arises outside JOINING and JOINED, but for the reads, hands nothing on and leaves the claim unit. -/
theorem effect_of_inactive {c : Instr} (off : active t = false) (h : arises c t = true) (a : standsAlone c = false) :
    (effect c t).handOns = t.handOns ∧ (effect c t).clu = t.clu := by
  cases c with
  | powerOnReset | externalReset | loadAttemptDone | resetPinReturnsHigh | lineFaultExit => cases a
  | retryWaitExpiry => exact ⟨rfl, rfl⟩
  | secondEvent p tw tr ta =>
    rw [show effect (.secondEvent p tw tr ta) t = countSecond t from secondPasses_inactive off]
    exact ⟨rfl, rfl⟩
  | minuteMark =>
    have still : active { t with msu := { markRecord t.msu with minuteDue := false } } = false := off
    show (minutePasses t).handOns = _ ∧ (minutePasses t).clu = _
    unfold minutePasses
    dsimp only
    rw [still, if_neg (by decide)]
    exact ⟨rfl, rfl⟩
  | quietReached | startBitFromAnotherStation => exact ⟨rfl, rfl⟩
  | noticeHeard chars =>
    show (noticeCompleted chars t).handOns = _ ∧ (noticeCompleted chars t).clu = _
    unfold noticeCompleted
    split
    · exact discardNotice_of_inactive off
    · unfold heardValid heardUnconfigured
      rw [off, if_neg (by decide)]
      split <;> exact ⟨rfl, rfl⟩
  | noticeDiscarded cause => exact discardNotice_of_inactive off
  | rawInputChange => exact absurd (h.symm.trans off) (by decide)
  | _ =>
    simp only [arises, off, Bool.false_and] at h
    cases h

end

end Sys2Proof.Machine
end

section
/-! PROOFS. Every step keeps the law of the SUPPLY claim. -/

namespace Sys2Proof.Machine

section
variable {s t : State}

theorem arises_moved (c : Instr) (s : State) : arises c (beginEvent (contactMoved c s)) = arises c s := by cases c <;> rfl

/-- At the reset values of the claim unit the law is one of the fill state and the line alone. -/
theorem slotLaw_of_reset (old : s.clu = Claims.atReset) (new : t.clu = Claims.atReset) (fill : t.flc.state = s.flc.state)
    (request : t.flc.openRequest = s.flc.openRequest) (line : t.lnu.onLine = s.lnu.onLine) (h : SlotLaw s) : SlotLaw t := by
  have bare : ∀ u : State, u.clu = Claims.atReset → standing .supply u = (OwnClaim.atReset, none) := by
    intro u clu
    unfold standing
    rw [entryAt_atReset clu, show own .supply u = OwnClaim.atReset by unfold own; rw [clu]; rfl]
  exact slotLaw_congr fill request (fun one => by rw [bare t new, ← bare s old]; exact one) (.inl line) h

theorem slotLaw_runs_event {f : State → State} (m : Runs (· = .load) True (beginEvent t) (f (beginEvent t))) (h : SlotLaw t) :
    SlotLaw (event f t) :=
  slotLaw_of_runs (runs_event m) (slotLaw_of_kept (t := t) rfl (.inl rfl) h)

/-- A read that can be trusted (R192). -/
def Trusted (block : List Byte) : Prop :=
  notAnswered block = false ∧ checkMatches block = true ∧ structureHolds (readSettings block) = true

theorem judgeRead_of_trusted {block : List Byte} (h : Trusted block) (t : State) :
    judgeRead block t = endLoading (readSettings block) (takeBlock block t) := by
  obtain ⟨answered, matches', holds⟩ := h
  unfold judgeRead judgeStructure
  dsimp only
  rw [answered, if_neg (by decide), if_pos matches', if_pos holds]

/-- Another read moves the loader and the time base alone. -/
theorem judgeRead_of_untrusted {block : List Byte} (h : ¬ Trusted block) (t : State) :
    ∃ l m, judgeRead block t = { t with sld := l, msu := m } := by
  unfold judgeRead judgeStructure noAnswer
  dsimp only
  split
  · split
    · exact ⟨_, t.msu, rfl⟩
    · exact ⟨_, _, rfl⟩
  next answered =>
    split
    next matches' =>
      split
      next holds => exact absurd ⟨Bool.eq_false_iff.mpr answered, matches', holds⟩ h
      next => exact ⟨_, _, rfl⟩
    next => exact ⟨_, _, rfl⟩

/-- The verdict on a trusted read begins with the station configured. -/
theorem active_loadDone (raw : Settings) (high : t.resetLow = false) : active (loadDone raw t) = true :=
  active_iff.mpr ⟨high, .inl rfl⟩

/-- A read's verdict keeps the law: a failed read moves neither claim nor fill, a trusted one begins with the claim unit at reset. -/
theorem supplyClaimKept_judgeRead {block : List Byte} (reading : isReading t = true) (h : SupplyClaimKept t) :
    SupplyClaimKept (event (judgeRead block) t) := by
  obtain ⟨high, mode, _⟩ := isReading_iff.mp reading
  obtain ⟨rests, law⟩ := (supplyClaimKept_iff t).mp h
  obtain ⟨hands, clu⟩ := rests (by simp [active, mode])
  by_cases trusted : Trusted block
  · have m : Runs (· = .load) True (loadDone (readSettings block) (takeBlock block (beginEvent t))) (event (judgeRead block) t) :=
      runs_event (by rw [judgeRead_of_trusted trusted]; exact runs_endLoading _ .refl)
    have start : SlotLaw (loadDone (readSettings block) (takeBlock block (beginEvent t))) :=
      slotLaw_of_reset clu clu rfl rfl rfl law
    have on := active_of_runs m (active_loadDone _ high)
    exact (supplyClaimKept_iff _).mpr ⟨fun off => absurd (on.symm.trans off) nofun, slotLaw_of_runs m start⟩
  · obtain ⟨l, x, is⟩ := judgeRead_of_untrusted trusted (beginEvent t)
    rw [event_of_silent (by rw [is]; exact hands), is]
    exact (supplyClaimKept_iff _).mpr ⟨fun _ => ⟨hands, clu⟩, slotLaw_of_reset clu clu rfl rfl rfl law⟩

/-- Every other event keeps it. -/
theorem supplyClaimKept_event {c : Instr} (a : arises c (beginEvent t) = true) (h : SupplyClaimKept t) :
    SupplyClaimKept (event (effect c) t) := by
  obtain ⟨rests, law⟩ := (supplyClaimKept_iff t).mp h
  have runs : ∀ {f : State → State}, Runs (· = .load) True (beginEvent t) (f (beginEvent t)) → active t = true →
      SupplyClaimKept (event f t) := by
    intro f m on
    have on' : active (event f t) = true := active_of_runs (runs_event m) on
    exact (supplyClaimKept_iff _).mpr ⟨fun off => absurd (on'.symm.trans off) nofun, slotLaw_runs_event m law⟩
  by_cases alone : standsAlone c = true
  · cases c with
    | powerOnReset | externalReset => cases a
    | loadAttemptDone block => exact supplyClaimKept_judgeRead (Bool.and_eq_true_iff.mp a).2 h
    | resetPinReturnsHigh =>
      have low : t.resetLow = true := a
      obtain ⟨hands, clu⟩ := rests (by simp [active, low])
      rw [event_of_silent (t := t) (f := effect .resetPinReturnsHigh) hands]
      exact (supplyClaimKept_iff _).mpr ⟨fun _ => ⟨hands, clu⟩, slotLaw_of_reset clu clu rfl rfl rfl law⟩
    | lineFaultExit =>
      have on : active t = true := (Bool.and_eq_true_iff.mp a).1
      have m : Runs (· = .load) True (lineQuiet (beginEvent t)) (event leaveLineFault t) :=
        runs_event (runs_leaveLineFault trivial .refl)
      have on' := active_of_runs m on
      refine (supplyClaimKept_iff _).mpr ⟨fun off => absurd (on'.symm.trans off) nofun, slotLaw_of_runs m ?_⟩
      exact slotLaw_congr (t := t) rfl rfl id (.inl rfl) law
    | _ => cases alone
  · have m := runs_effect (loose := (· = .load)) (s := beginEvent t) a trivial (Bool.eq_false_iff.mpr alone) .refl
    by_cases on : active t = true
    · exact runs m on
    · have off : active t = false := Bool.eq_false_iff.mpr on
      obtain ⟨hands, clu⟩ := rests off
      obtain ⟨hands', clu'⟩ := effect_of_inactive (t := beginEvent t) off a (Bool.eq_false_iff.mpr alone)
      have kept' := slotLaw_runs_event m law
      rw [event_of_silent (hands'.trans hands)] at kept' ⊢
      exact (supplyClaimKept_iff _).mpr ⟨fun _ => ⟨hands'.trans hands, clu'.trans clu⟩, kept'⟩

theorem supplyClaimKept_of_kept (hands : t.handOns = s.handOns) (clu : t.clu = s.clu) (e : kept t = kept s)
    (h : SupplyClaimKept s) : SupplyClaimKept t := by
  obtain ⟨rests, law⟩ := (supplyClaimKept_iff s).mp h
  refine (supplyClaimKept_iff t).mpr ⟨fun off => ?_, slotLaw_of_kept (congrArg slotPart e :) (.inl (congrArg Kept.onLine e :)) law⟩
  obtain ⟨hands', clu'⟩ := rests ((active_of_mode (congrArg Kept.mode e :) (congrArg Kept.resetLow e :)).symm.trans off)
  exact ⟨hands.trans hands', clu.trans clu'⟩

theorem kept_passSlot (s : State) : kept (passSlot s) = kept s := by unfold passSlot; split <;> rfl
theorem handOns_passSlot (s : State) : (passSlot s).handOns = s.handOns := by unfold passSlot; split <;> rfl
theorem clu_passSlot (s : State) : (passSlot s).clu = s.clu := by unfold passSlot; split <;> rfl

end

end Sys2Proof.Machine

namespace Sys2Proof.Proofs
open Sys2Proof Sys2Proof.Machine

/-- Settles O58: every event is made of runs that move the SUPPLY claim with the fill state, and outside JOINING and JOINED no
event moves the claim unit. -/
theorem supplyClaimLawKept : Obligations.SupplyClaimLawKept := by
  intro s t h k
  refine step_keeps (P := SupplyClaimKept) (fun s h => ?_) (fun s rest h => ?_) (fun s _ => ?_) (fun s _ => ?_) (fun i b s h => ?_)
    (fun c s a h => ?_) h k
  · exact supplyClaimKept_of_kept (handOns_passSlot s) (clu_passSlot s) (kept_passSlot s) h
  · exact supplyClaimKept_of_kept (s := s) rfl rfl rfl h
  · exact supplyClaimKept_reset rfl rfl rfl rfl rfl
  · exact supplyClaimKept_reset rfl rfl rfl rfl rfl
  · exact supplyClaimKept_of_kept (s := s) rfl rfl rfl h
  · exact supplyClaimKept_event (by rw [arises_moved]; exact a) h

end Sys2Proof.Proofs
end

section
/-! PROOFS. The end of loading: the image, the time base, the inputs, and that the joining still is to be asked. -/

namespace Sys2Proof.Machine

/-! ### The joining's questions -/

/-- The questions of this station: those waiting, the one asked, and which are answered. -/
def inquiry (s : State) : List Question × Option Question × Bool × Bool :=
  (s.clu.questions, s.clu.inFlight, s.clu.answeredSupply, s.clu.answeredLoad)

@[simp] theorem inquiry_emit (h : HandOn) (s : State) : inquiry (emit h s) = inquiry s := rfl
@[simp] theorem inquiry_setOwn (r : Resource) (c : OwnClaim) (s : State) : inquiry (setOwn r c s) = inquiry s := by cases r <;> rfl
@[simp] theorem inquiry_setTable (r : Resource) (v : Vector (Option Holding) 24) (s : State) :
    inquiry (setTable r v s) = inquiry s := by cases r <;> rfl

@[simp] theorem inquiry_setEntry (r : Resource) (n : Nat) (e : Option Holding) (s : State) :
    inquiry (setEntry r n e s) = inquiry s := by unfold setEntry; split <;> simp

theorem inquiry_giveUp {release : State → State} (h : ∀ t, inquiry (release t) = inquiry t) (r : Resource) (s : State) :
    inquiry (giveUp release r s) = inquiry s := by
  have told : ∀ t, inquiry (tellLost r t) = inquiry t := by intro t; cases r <;> rfl
  simp [giveUp, told, h, dropOwnEntry]

theorem inquiry_claimBackToWaiting (r : Resource) (s : State) : inquiry (claimBackToWaiting r s) = inquiry s := by
  unfold claimBackToWaiting; dsimp only; (repeat' split) <;> simp

theorem inquiry_dropNotice {release : Resource → State → State} (h : ∀ r t, inquiry (release r t) = inquiry t) (item : Outgoing)
    (s : State) : inquiry (dropNotice release item s) = inquiry s := by
  have noted : inquiry (noteOccurrence s) = inquiry s := rfl
  have skipped : inquiry (reportDropped (noteOccurrence s)) = inquiry s := rfl
  have marked : ∀ q, inquiry (markIncompleteFor q (noteOccurrence s)) = inquiry s := by
    intro q
    unfold markIncompleteFor setIncomplete
    split
    next r => cases r <;> rfl
    next => rfl
  unfold dropNotice tellDropped
  (repeat' split) <;> simp only [inquiry_giveUp (h _), inquiry_claimBackToWaiting, inquiry_emit, noted, skipped, marked]

theorem inquiry_queueNew {release : Resource → State → State} (h : ∀ r t, inquiry (release r t) = inquiry t) (item : Outgoing)
    (u : Nat) (s : State) : inquiry (queueNew release item u s) = inquiry s := by
  have entered : ∀ t, inquiry (enqueue item u t) = inquiry t := fun t => rfl
  unfold queueNew
  (repeat' split) <;> simp [inquiry_dropNotice h, entered]
  rfl

theorem inquiry_queueWith {release : Resource → State → State} (h : ∀ r t, inquiry (release r t) = inquiry t) (item : Outgoing)
    (u : Nat) (s : State) : inquiry (queueWith release item u s) = inquiry s := by
  have renewed : ∀ e, inquiry (queueOver item u e s) = inquiry s := by intro e; unfold queueOver; (repeat' split) <;> rfl
  unfold queueWith claimRefused
  (repeat' split) <;> simp [inquiry_queueNew h, inquiry_claimBackToWaiting, renewed]

theorem inquiry_queueRelease (n : Nat) (r : Resource) (s : State) : inquiry (queueRelease n r s) = inquiry s := by
  induction n generalizing r s with
  | zero => rfl
  | succ n ih => exact inquiry_queueWith ih _ _ _

@[simp] theorem inquiry_queueNotice (item : Outgoing) (u : Nat) (s : State) : inquiry (queueNotice item u s) = inquiry s :=
  inquiry_queueWith (inquiry_queueRelease 2) item u s

section
variable {s t : State}

/-- Where no question is asked and none waits, none is answered, and a joining does not end. -/
theorem joining_of_runs (m : Runs (fun _ => True) False s t) (mode : s.sld.mode = .joining)
    (unasked : inquiry s = ([], none, false, false)) : t.sld.mode = .joining ∧ inquiry t = ([], none, false, false) := by
  have kept' : ∀ {t u : State}, (kept u).mode = (kept t).mode → (kept u).questions = (kept t).questions →
      (kept u).inFlight = (kept t).inFlight → (kept u).answeredSupply = (kept t).answeredSupply →
      (kept u).answeredLoad = (kept t).answeredLoad → t.sld.mode = .joining ∧ inquiry t = ([], none, false, false) →
      u.sld.mode = .joining ∧ inquiry u = ([], none, false, false) := by
    intro t u a b c d e ih
    refine ⟨a.trans ih.1, ?_⟩
    rw [← ih.2]
    exact Prod.ext b (Prod.ext c (Prod.ext d e))
  induction m with
  | refl => exact ⟨mode, unasked⟩
  | still _ e ih | shape _ _ e ih | heat _ _ e ih | line _ _ e ih | off _ e ih =>
    exact kept' (congrArg Kept.mode e :) (congrArg Kept.questions e :) (congrArg Kept.inFlight e :)
      (congrArg Kept.answeredSupply e :) (congrArg Kept.answeredLoad e :) ih
  | emit x _ ih => exact ih
  | @notice t item n _ ih =>
    have same : (queueNotice item n t).sld.mode = t.sld.mode :=
      congrArg (fun b : Beside => b.state.sld.mode) (beside_queueNotice item n t)
    exact ⟨same.trans ih.1, (inquiry_queueNotice _ _ _).trans ih.2⟩
  | adjust r c _ _ ih | rawOwn r c _ _ ih => cases r <;> exact ih
  | table r v _ _ ih | rawTable r v _ _ ih => cases r <;> exact ih
  | lose _ _ no | withdraw _ no | sent _ _ _ _ no | grant _ no | fill _ no | evaluate _ no => exact absurd trivial no
  | stage k x _ _ ih => exact ih
  | @ask t _ _ may _ _ ih =>
    obtain ⟨_, none'⟩ := ih
    obtain ⟨questions, rest⟩ := Prod.mk.inj none'
    obtain ⟨flight, _⟩ := Prod.mk.inj rest
    rcases may with f | some' | wait
    · exact f.elim
    · rw [flight] at some'; cases some'
    · exact absurd questions wait
  | join _ _ may _ ih =>
    obtain ⟨_, none'⟩ := ih
    rcases may with f | ⟨supply, _⟩
    · exact f.elim
    · obtain ⟨_, rest⟩ := Prod.mk.inj none'
      obtain ⟨_, answered'⟩ := Prod.mk.inj rest
      exact absurd (supply.symm.trans (Prod.mk.inj answered').1) nofun
  | start e _ _ _ ih => exact ih

/-! ### The inputs at the end of loading (R20) -/

/-- The inputs as they are read, debounced and timed. -/
def contacts (s : State) : Vector Bool 17 × Vector Bool 17 × Vector (Option Nat) 17 :=
  (s.ilu.raw, s.ilu.debounced, s.ilu.timer)

theorem contacts_of_ilu (h : t.ilu = s.ilu) : contacts t = contacts s := by unfold contacts; rw [h]

theorem contacts_latchStartUp (i : ContactInput) (s : State) : contacts (latchStartUp i s) = contacts s := by
  have single : ∀ l, contacts (singleSettle l true s) = contacts s := by
    intro l
    unfold contacts
    rw [ilu_singleSettle]
  have member : contacts (frostMember true s) = contacts s := by
    unfold contacts
    rw [ilu_frostMember]
  unfold latchStartUp
  split
  · cases i with
    | ovf => exact single .ovf
    | hifl => exact single .hifl
    | lofl => exact single .lofl
    | door => exact single .door
    | fst k => exact member
    | _ => rfl
  · rfl

theorem contacts_stageStartUp (k : Fin 4) (s : State) : contacts (stageStartUp k s) = contacts s := by
  unfold stageStartUp
  split
  · unfold contacts; rw [ilu_failStage]
  · rfl

theorem contacts_foldl {α : Type} (f : State → α → State) (h : ∀ t k, contacts (f t k) = contacts t) (l : List α) (s : State) :
    contacts (l.foldl f s) = contacts s := by
  induction l generalizing s with
  | nil => rfl
  | cons k l ih => rw [List.foldl_cons, ih, h]

theorem contacts_startInputs (s : State) : contacts (startInputs s) = contacts (readInputs s) := by
  unfold startInputs
  dsimp only
  rw [contacts_foldl _ (fun t k => contacts_stageStartUp k t), contacts_of_ilu (ilu_takePosition _),
    contacts_foldl _ (fun t i => contacts_latchStartUp i t)]

/-- The end of loading leaves every input at its pin's value. -/
theorem contacts_endLoading (raw : Settings) (s : State) : contacts (endLoading raw s) = contacts (readInputs (loadDone raw s)) := by
  have after : contacts (endLoading raw s) = contacts (startInputs (startListening (startInflow (startMeasure (loadDone raw s))))) := by
    unfold endLoading
    exact contacts_of_ilu (by simp)
  rw [after, contacts_startInputs]
  rfl

end

end Sys2Proof.Machine

namespace Sys2Proof.Proofs
open Sys2Proof Sys2Proof.Machine

/-- Settles O5: nothing that follows the loader's verdict reaches the image, the time base or the read inputs, and with no question
asked the joining stays. -/
theorem trustedReadConfigures : Obligations.TrustedReadConfigures := by
  intro block s reading whole answered checks holds
  have trusted : Trusted block := ⟨answered, checks, holds⟩
  obtain ⟨high, _, _⟩ := isReading_iff.mp reading
  refine ⟨_, exec_of_arises (c := .loadAttemptDone block) (arises_and (decide_eq_true whole) reading), ?_⟩
  show _ ∧ _
  let b := takeBlock block (beginEvent s)
  let x := readSettings block
  have m : ∀ {loose : Resource → Prop} {free : Prop}, Runs loose free (loadDone x b) (event (judgeRead block) s) :=
    runs_event (by rw [judgeRead_of_trusted trusted]; exact runs_endLoading _ .refl)
  have same : steady (event (judgeRead block) s) = steady (startInflow (startMeasure (loadDone x b))) := by
    rw [steady_event, judgeRead_of_trusted trusted, steady_endLoading]
  have inputs : contacts (event (judgeRead block) s) = contacts (readInputs (loadDone x b)) := by
    rw [contacts_of_ilu (ilu_event _ _), judgeRead_of_trusted trusted, contacts_endLoading]
  obtain ⟨raw, rest⟩ := Prod.mk.inj inputs
  obtain ⟨debounced', timer⟩ := Prod.mk.inj rest
  refine ⟨load_of_steady same, setting_of_steady same, congrArg Steady.clamped same, fun clu => ?_, ?_, msu_of_steady same,
    qEst_of_steady same, fun i => ⟨?_, ?_, ?_⟩, congrArg Steady.pins same, congrArg Steady.pending same⟩
  · exact (joining_of_runs (m (free := False)) rfl (by show inquiry s = _; unfold inquiry; rw [clu]; rfl)).1
  · exact (active_iff.mp (active_of_runs (m (loose := fun _ => True) (free := True)) (active_loadDone x high))).2
  · exact (congrArg (fun v : Vector Bool 17 => v[i]) raw).trans (Vector.getElem_ofFn i.isLt)
  · exact (congrArg (fun v : Vector Bool 17 => v[i]) debounced').trans (Vector.getElem_ofFn i.isLt)
  · exact (congrArg (fun v : Vector (Option Nat) 17 => v[i]) timer).trans (Vector.getElem_replicate i.isLt)

end Sys2Proof.Proofs
end

section
/-! PROOFS. The amounts of the LOAD claim: what every operation of the claims keeps of them, and what of the covered amount. -/

namespace Sys2Proof.Machine

/-- A claim whose amounts a CLAIM can carry (R76). -/
def Modest (c : OwnClaim) : Prop := c.amount ≤ 255 ∧ c.held ≤ 255 ∧ ∀ x, c.raise = some x → x.pending ≤ 255

/-- An entry whose amounts a CLAIM can carry. -/
def Small (e : Option Holding) : Prop := ∀ h, e = some h → largerPart h.share ≤ 255

/-- The amounts of the LOAD claim fit, and it covers an amount unless an evaluation is handed on. -/
def Backed (n : Nat) (s : State) : Prop :=
  Modest (own .load s) ∧ (∀ i, Small (entryAt .load i s)) ∧ (.frostEvaluate ∈ s.handOns ∨ n ≤ coveredAmount s)

/-- What a claim covers while HELD (R153). -/
def coverOf (c : OwnClaim) : Nat := if c.state == .held then c.held else 0

theorem coveredAmount_eq (s : State) : coveredAmount s = coverOf (own .load s) := rfl

theorem loadAmountsKept_iff (s : State) : LoadAmountsKept s ↔ Modest (own .load s) ∧ ∀ i, Small (entryAt .load i s) := by
  constructor
  · rintro ⟨amount, held, raise, entries⟩
    exact ⟨⟨amount, held, raise⟩, entries⟩
  · rintro ⟨⟨amount, held, raise⟩, entries⟩
    exact ⟨amount, held, raise, entries⟩

theorem modest_atReset : Modest .atReset := ⟨Nat.zero_le _, Nat.zero_le _, nofun⟩
theorem small_none : Small none := nofun
theorem small_held {a u g : Nat} (h : a ≤ 255) : Small (some { share := .held a, urgency := u, age := g }) := by
  intro x is
  cases is
  exact h

section
variable {n m : Nat} {r : Resource} {s t : State} {c : OwnClaim}

/-! ### Updates -/

theorem backed_of_clu {u : State} (clu : u.clu = t.clu) (hands : ∀ h ∈ t.handOns, h ∈ u.handOns) (k : Backed n t) : Backed n u := by
  obtain ⟨modest, small, covers⟩ := k
  have claim : own .load u = own .load t := congrArg Claims.ownLoad clu
  have entry : ∀ i, entryAt .load i u = entryAt .load i t := fun i => entryAt_of_side (side_of_clu clu .load) i
  refine ⟨by rw [claim]; exact modest, fun i => by rw [entry]; exact small i, ?_⟩
  rw [coveredAmount_eq, claim]
  exact covers.imp_left (hands _)

theorem backed_emit (h : HandOn) (k : Backed n t) : Backed n (emit h t) :=
  backed_of_clu (t := t) rfl (fun _ mem => List.mem_append_left _ mem) k

theorem backed_zero (k : Backed n t) : Backed 0 t := by
  obtain ⟨modest, small, _⟩ := k
  exact ⟨modest, small, .inr (Nat.zero_le _)⟩

theorem backed_of_waits (k : Backed m t) (waits : .frostEvaluate ∈ t.handOns) : Backed n t := by
  obtain ⟨modest, small, _⟩ := k
  exact ⟨modest, small, .inl waits⟩

/-- An evaluation handed on backs any amount. -/
theorem backed_handed (k : Backed m t) : Backed n (emit .frostEvaluate t) :=
  backed_of_waits (backed_emit .frostEvaluate k) (List.mem_append_right _ (List.mem_singleton.mpr rfl))

theorem handOns_setOwn (r : Resource) (c : OwnClaim) (t : State) : (setOwn r c t).handOns = t.handOns := by cases r <;> rfl

/-- The LOAD record set, its amounts fitting and its cover reaching another amount. -/
theorem backed_setOwn_load (modest : Modest (own .load t) → Modest c) (covers : n ≤ coverOf (own .load t) → m ≤ coverOf c)
    (k : Backed n t) : Backed m (setOwn .load c t) := by
  obtain ⟨fits', small, backs⟩ := k
  exact ⟨modest fits', small, backs.imp_right covers⟩

/-- A record that covers what it covered. -/
theorem backed_setOwn (modest : Modest (own r t) → Modest c) (covers : coverOf c = coverOf (own r t)) (k : Backed n t) :
    Backed n (setOwn r c t) := by
  cases r with
  | supply => exact k
  | load => exact backed_setOwn_load modest (fun le => by rw [covers]; exact le) k

theorem backed_setEntry {i : Nat} {e : Option Holding} (small : r = .load → Small e) (k : Backed n t) :
    Backed n (setEntry r i e t) := by
  obtain ⟨modest, smalls, backs⟩ := k
  have hands : (setEntry r i e t).handOns = t.handOns := by unfold setEntry; split <;> cases r <;> rfl
  refine ⟨by rw [own_setEntry]; exact modest, fun j h is => ?_, ?_⟩
  · cases r with
    | supply =>
      rw [entryAt_of_side (side_setEntry_ne (r := .load) (r' := .supply) nofun i e t) j] at is
      exact smalls j h is
    | load =>
      by_cases same : i = j
      · subst same
        exact small rfl h (entry_of_setEntry is)
      · rw [entryAt_setEntry_of_ne (Ne.symm same)] at is
        exact smalls j h is
  · rw [hands, coveredAmount_eq, own_setEntry]
    exact backs

theorem backed_dropOwnEntry (k : Backed n t) : Backed n (dropOwnEntry r t) := backed_setEntry (fun _ => small_none) k

/-! ### The queue -/

/-- Another state than HELD on both sides covers nothing. -/
theorem coverOf_of_unheld {c d : OwnClaim} (h : c.state ≠ .held) (k : d.state ≠ .held) : coverOf c = coverOf d := by
  unfold coverOf
  rw [beq_eq_false_iff_ne.mpr h, beq_eq_false_iff_ne.mpr k]
  rfl

/-- The raise put into another phase, or another timer. -/
theorem modest_phase {c d : OwnClaim} (amount : d.amount = c.amount) (held : d.held = c.held)
    (raise : d.raise.map Raise.pending = c.raise.map Raise.pending) (h : Modest c) : Modest d := by
  obtain ⟨a, b, x⟩ := h
  refine ⟨by rw [amount]; exact a, by rw [held]; exact b, fun y is => ?_⟩
  rw [is, Option.map_some] at raise
  obtain ⟨z, found, same⟩ := Option.map_eq_some_iff.mp raise.symm
  rw [← same]
  exact x z found

theorem modest_of_adjusts {c d : OwnClaim} (h : Adjusts c d) (k : Modest c) : Modest d := by
  obtain ⟨amount, held, raise, _⟩ := h
  exact modest_phase amount held raise k

theorem coverOf_of_adjusts {c d : OwnClaim} (h : Adjusts c d) : coverOf d = coverOf c := by
  obtain ⟨_, held, _, same | ⟨old, new⟩⟩ := h
  · unfold coverOf
    rw [same, held]
  · exact coverOf_of_unheld (by rcases new with s | s <;> rw [s] <;> exact nofun) (by rcases old with s | s <;> rw [s] <;> exact nofun)

theorem backed_adjust {d : OwnClaim} (h : Adjusts (own r t) d) (k : Backed n t) : Backed n (setOwn r d t) :=
  backed_setOwn (modest_of_adjusts h) (coverOf_of_adjusts h) k

theorem backed_claimBackToWaiting (r : Resource) (k : Backed n t) : Backed n (claimBackToWaiting r t) := by
  unfold claimBackToWaiting
  dsimp only
  split
  next announcing => exact backed_adjust ⟨rfl, rfl, rfl, .inr ⟨.inr announcing, .inl rfl⟩⟩ k
  next =>
    split
    next x raised =>
      split
      · exact backed_adjust ⟨rfl, rfl, by rw [raised]; rfl, .inl rfl⟩ k
      · exact k
    next => exact k

/-- A claim given up hands its job an evaluation, the LOAD claim the frost controller's. -/
theorem backed_giveUp {release : State → State} (h : ∀ n t, Backed n t → Backed n (release t)) (r : Resource) (k : Backed n t) :
    Backed n (giveUp release r t) := by
  refine backed_emit _ ?_
  cases r with
  | supply => exact backed_emit .fillLost (h n _ (backed_dropOwnEntry (r := .supply) (t := setOwn .supply _ t) k))
  | load =>
    refine backed_handed (h 0 _ (backed_dropOwnEntry (backed_setOwn_load ?_ (fun _ => Nat.zero_le _) k)))
    rintro ⟨amount, _, _⟩
    exact ⟨amount, Nat.zero_le _, nofun⟩

theorem backed_dropNotice {release : Resource → State → State} (h : ∀ r n t, Backed n t → Backed n (release r t)) (item : Outgoing)
    (k : Backed n t) : Backed n (dropNotice release item t) := by
  have noted : Backed n (noteOccurrence t) := k
  unfold dropNotice tellDropped
  split
  · exact k
  · exact backed_claimBackToWaiting _ noted
  · split
    · exact backed_giveUp (h _) _ noted
    · exact noted
  next q =>
    refine backed_emit _ ?_
    unfold markIncompleteFor
    split
    next r => cases r <;> exact k
    next => exact noted
  all_goals exact noted

theorem backed_queueNew {release : Resource → State → State} (h : ∀ r n t, Backed n t → Backed n (release r t)) (item : Outgoing)
    (u : Nat) (k : Backed n t) : Backed n (queueNew release item u t) := by
  unfold queueNew
  split
  · exact k
  · split
    · exact backed_dropNotice h item k
    next e _ =>
      split
      · exact backed_dropNotice (t := enqueue item u { t with lnu := { t.lnu with queue := removeUnder (keyOf e.item) t.lnu.queue } })
          h e.item k
      · exact backed_dropNotice h item k

theorem backed_queueOver (item : Outgoing) (u : Nat) (e : QueueEntry) (k : Backed n t) : Backed n (queueOver item u e t) := by
  unfold queueOver
  (repeat' split) <;> exact k

theorem backed_claimRefused (r : Resource) (refresh : Bool) (k : Backed n t) : Backed n (claimRefused r refresh t) := by
  unfold claimRefused
  split
  · exact k
  · split
    · split
      · exact k
      · exact backed_claimBackToWaiting r k
    · exact backed_claimBackToWaiting r k

theorem backed_queueWith {release : Resource → State → State} (h : ∀ r n t, Backed n t → Backed n (release r t)) (item : Outgoing)
    (u : Nat) (k : Backed n t) : Backed n (queueWith release item u t) := by
  have placed : Backed n (match entryUnder (keyOf item) t.lnu.queue with
      | some e => queueOver item u e t
      | none => queueNew release item u t) := by
    split
    · exact backed_queueOver item u _ k
    · exact backed_queueNew h item u k
  unfold queueWith
  split
  · split
    · split
      · exact backed_claimRefused _ _ k
      · exact placed
    · exact placed
  · exact k

theorem backed_queueRelease (i : Nat) (r : Resource) (k : Backed n t) : Backed n (queueRelease i r t) := by
  induction i generalizing r n t with
  | zero => exact k
  | succ i ih => exact backed_queueWith (fun r _ _ k => ih r k) _ _ k

theorem backed_queueNotice (item : Outgoing) (u : Nat) (k : Backed n t) : Backed n (queueNotice item u t) :=
  backed_queueWith (fun r _ _ k => backed_queueRelease 2 r k) item u k

/-! ### The own claims -/

theorem backed_announce (r : Resource) (k : Backed n t) : Backed n (announce r t) := by
  unfold announce
  dsimp only
  split
  next waiting =>
    split
    · exact backed_queueNotice _ _ (backed_adjust ⟨rfl, rfl, rfl, .inr ⟨.inl waiting, .inr rfl⟩⟩ k)
    · exact k
  next =>
    split
    next x raised =>
      split
      · exact backed_queueNotice _ _ (backed_adjust ⟨rfl, rfl, by rw [raised]; rfl, .inl rfl⟩ k)
      · exact k
    next => exact k
  next => exact k

theorem small_of_backed (k : Backed n t) {i : Nat} {e : Holding} (h : entryAt .load i t = some e) : largerPart e.share ≤ 255 :=
  k.2.1 i e h

theorem backed_ownEntryUrgency (r : Resource) (u : Nat) (k : Backed n t) : Backed n (ownEntryUrgency r u t) := by
  unfold ownEntryUrgency
  split
  next e found =>
    split
    · exact k
    · refine backed_emit _ (backed_setEntry (fun load h is => ?_) k)
      subst load
      cases is
      exact small_of_backed (e := e) k found
  next => exact k

theorem backed_changeUrgency (r : Resource) (u : Nat) (k : Backed n t) : Backed n (changeUrgency r u t) := by
  have urgent : Backed n (setOwn r { own r t with urgency := u } t) := backed_adjust ⟨rfl, rfl, rfl, .inl rfl⟩ k
  unfold changeUrgency
  dsimp only
  split
  · exact k
  · split
    · exact k
    · exact backed_announce r urgent
    · exact backed_queueNotice _ _ urgent
    · split
      · exact backed_announce r (backed_queueNotice _ _ (backed_ownEntryUrgency r u urgent))
      · exact backed_announce r (backed_ownEntryUrgency r u urgent)

/-- A withdrawn LOAD claim covers nothing. -/
theorem backed_withdrawOwn (none' : n ≤ coverOf (own .load t) → n = 0) (k : Backed n t) : Backed n (withdrawOwn .load t) := by
  have reset : Backed n (setOwn .load .atReset t) :=
    backed_setOwn_load (fun _ => modest_atReset) (fun le => by rw [none' le]; exact Nat.zero_le _) k
  unfold withdrawOwn
  split
  · exact k
  · exact reset
  · exact backed_queueNotice _ _ reset
  · exact backed_queueNotice _ _ (backed_dropOwnEntry reset)

/-- A LOAD claim asked afresh covers nothing as yet. -/
theorem backed_askFresh {a : Nat} (u : Nat) (byte : a ≤ 255) (none' : n ≤ coverOf (own .load t) → n = 0) (k : Backed n t) :
    Backed n (askFresh .load a u t) :=
  backed_announce .load (backed_setOwn_load (fun _ => ⟨byte, Nat.zero_le _, nofun⟩) (fun le => by rw [none' le]; exact Nat.zero_le _) k)

/-- A lowered LOAD claim covers the new amount. -/
theorem backed_lowerOwn {a : Nat} (byte : a ≤ 255) (covers : n ≤ a) (held : (own .load t).state = .held) (k : Backed n t) :
    Backed n (lowerOwn .load a t) := by
  have lowered : Backed n (setOwn .load { own .load t with
      amount := a, held := a, raise := none, settle := none, refreshOwed := false } t) := by
    refine backed_setOwn_load (fun _ => ⟨byte, byte, nofun⟩) (fun _ => ?_) k
    unfold coverOf
    rw [held]
    exact covers
  exact backed_queueNotice _ _ (backed_setEntry (fun _ => small_held byte) lowered)

/-- A raise leaves what is covered. -/
theorem backed_raiseOwn {a : Nat} (byte : a ≤ 255) (k : Backed n t) : Backed n (raiseOwn .load a t) := by
  have raised : ∀ (x : Option Raise) (y : Option Nat), (∀ z, x = some z → z.pending = a) →
      Backed n (setOwn .load { own .load t with amount := a, raise := x, settle := y } t) := by
    intro x y pending
    refine backed_setOwn (r := .load) (fun modest => ?_) rfl k
    obtain ⟨_, held, _⟩ := modest
    exact ⟨byte, held, fun z is => by rw [pending z is]; exact byte⟩
  have one : ∀ (x : Raise), x.pending = a → ∀ z, some x = some z → z.pending = a := by
    intro x is z same
    cases same
    exact is
  have held : (own .load t).held ≤ 255 := k.1.2.1
  unfold raiseOwn
  dsimp only
  split
  · exact backed_announce _ (raised _ _ (one _ rfl))
  · split
    · exact backed_announce _ (raised _ _ (one _ rfl))
    · exact raised _ _ (one _ rfl)
    · exact backed_queueNotice _ _ (backed_setEntry (fun _ => small_held held) (raised _ _ (one _ rfl)))

theorem backed_askAmount {a : Nat} (byte : a ≤ 255) (covers : n ≤ a) (k : Backed n t) : Backed n (askAmount .load a t) := by
  have set : Backed n (setOwn .load { own .load t with amount := a } t) :=
    backed_setOwn (r := .load) (fun ⟨_, held, raise⟩ => ⟨byte, held, raise⟩) rfl k
  unfold askAmount
  dsimp only
  split
  · exact k
  · split
    · exact k
    · exact backed_announce _ set
    · exact set
    next settling =>
      refine backed_askFresh _ byte (fun le => ?_) (backed_withdrawOwn (fun le => ?_) k)
      · unfold coverOf at le
        rw [own_withdrawOwn] at le
        exact Nat.le_zero.mp le
      · unfold coverOf at le
        rw [settling] at le
        exact Nat.le_zero.mp le
    next held =>
      split
      · exact backed_lowerOwn byte covers held k
      · exact backed_raiseOwn byte k

/-- An ask leaves backed what it asks for (R91, R151). -/
theorem backed_askOwn {a : Nat} (u : Nat) (covers : n ≤ min 255 a) (k : Backed n t) : Backed n (askOwn .load a u t) := by
  have byte : askedAmount .load a ≤ 255 := Nat.min_le_left _ _
  have asked : n ≤ askedAmount .load a := covers
  unfold askOwn
  split
  next zero => exact backed_withdrawOwn (fun _ => Nat.le_zero.mp (zero ▸ asked)) k
  next =>
    split
    next none' =>
      refine backed_askFresh _ byte (fun le => ?_) k
      unfold coverOf at le
      rw [none'] at le
      exact Nat.le_zero.mp le
    next => exact backed_askAmount byte asked (backed_changeUrgency _ _ k)

end

end Sys2Proof.Machine
end

section
/-! PROOFS. An evaluation of the frost controller leaves the energised ratings within the covered amount. -/

namespace Sys2Proof.Machine

/-- A stage is energised only on command, at a configured station. -/
def OnCommand (s : State) : Prop := ∀ k, heatRelay k s = true → (stageAt k s).command = true ∧ active s = true

/-- The ratings of the energised stages. -/
def drawn (s : State) : Nat := ratingSum (fun k => heatRelay k s) s

/-- What the LOAD claim has to cover: nothing under local authority (R158). -/
def owed (s : State) : Nat := if localAuthority s then 0 else drawn s

theorem heatingKept_iff (s : State) : HeatingKept s ↔ StagesAgree s ∧ OnCommand s ∧ Backed (owed s) s := by
  have covers : (localAuthority s = true ∨ HandOn.frostEvaluate ∈ s.handOns ∨ drawn s ≤ coveredAmount s) ↔
      (HandOn.frostEvaluate ∈ s.handOns ∨ owed s ≤ coveredAmount s) := by
    unfold owed
    by_cases authority : localAuthority s = true
    · rw [if_pos authority]
      exact iff_of_true (.inl authority) (.inr (Nat.zero_le _))
    · rw [if_neg authority, or_iff_right authority]
  constructor
  · rintro ⟨agree, amounts, relays, backs⟩
    obtain ⟨modest, small⟩ := (loadAmountsKept_iff s).mp amounts
    exact ⟨agree, relays, modest, small, covers.mp backs⟩
  · rintro ⟨agree, relays, modest, small, backs⟩
    exact ⟨agree, (loadAmountsKept_iff s).mpr ⟨modest, small⟩, relays, covers.mpr backs⟩

section
variable {n : Nat} {s t u : State} {k j : Fin 4}

theorem backed_mono {m : Nat} (le : m ≤ n) (h : Backed n t) : Backed m t := by
  obtain ⟨modest, small, backs⟩ := h
  exact ⟨modest, small, backs.imp_right le.trans⟩

/-! ### Commands to the stages -/

theorem active_of_unstaged (h : unstaged t = unstaged s) : active t = active s := (congrArg active h :)

theorem heatRelay_of_stage (h : stageAt k t = stageAt k s) : heatRelay k t = heatRelay k s := by unfold heatRelay; rw [h]

/-- A stage commanded OFF is not energised, if no stage was without command. -/
theorem heatRelay_commandStage_off (h : heatRelay k s = true → (stageAt k s).command = true) :
    heatRelay k (commandStage k false s) = false := by
  have set : ∀ x : Stage, stageAt k (setStage k x s) = x := fun x => stageAt_setStage_same k x s
  have moved : ∀ x : Stage, stageAt k (moveStage k x s) = x := fun x => stageAt_moveStage k x s
  unfold commandStage
  dsimp only
  split
  next off => exact Bool.eq_false_iff.mpr fun hot => absurd ((h hot).symm.trans off) nofun
  next =>
    rw [if_neg nofun]
    split
    · split <;> (unfold heatRelay; rw [moved]; rfl)
    · unfold heatRelay; rw [moved]; rfl
    next proving on =>
      unfold heatRelay
      rw [set]
      exact Bool.or_eq_false_iff.mpr ⟨beq_eq_false_iff_ne.mpr proving, beq_eq_false_iff_ne.mpr on⟩

theorem onCommand_commandStage {on : Bool} (may : on = true → active s = true) (k : Fin 4) (h : OnCommand s) :
    OnCommand (commandStage k on s) := by
  intro j hot
  rw [active_of_unstaged (unstaged_commandStage k on s)]
  by_cases same : j = k
  · subst same
    cases on with
    | false => rw [heatRelay_commandStage_off fun was => (h j was).1] at hot; cases hot
    | true => exact ⟨command_commandStage j true s, may rfl⟩
  · have stage := stageAt_commandStage_ne same on s
    rw [heatRelay_of_stage stage] at hot
    rw [stage]
    exact h j hot

theorem backed_commandStage (k : Fin 4) (on : Bool) (h : Backed n s) : Backed n (commandStage k on s) := by
  have set : ∀ x, Backed n (setStage k x s) := fun x => h
  have moved : ∀ x, Backed n (moveStage k x s) := fun x => backed_emit _ (set x)
  unfold commandStage
  dsimp only
  split
  · exact h
  · split
    · split
      · exact moved _
      · exact moved _
      · exact set _
    · split
      · split
        · exact moved _
        · exact moved _
      · exact moved _
      · exact set _

theorem drawn_congr (stages : ∀ k, heatRelay k t = heatRelay k s) (settings : setting t = setting s) : drawn t = drawn s := by
  unfold drawn ratingSum ratingOf
  simp only [stages, settings]

/-- A stage commanded ON either moves, which hands an evaluation on, or draws what it drew. -/
theorem backed_commandStage_on (h : Backed (drawn s) s) (k : Fin 4) : Backed (drawn (commandStage k true s)) (commandStage k true s) := by
  have moved : ∀ x, Backed (drawn (moveStage k x s)) (moveStage k x s) := fun x => backed_handed (t := setStage k x s) (m := drawn s) h
  have set : ∀ x, x.state = (stageAt k s).state → Backed (drawn (setStage k x s)) (setStage k x s) := by
    intro x same
    have stays : drawn (setStage k x s) = drawn s := by
      refine drawn_congr (fun j => ?_) rfl
      by_cases is : j = k
      · subst is
        unfold heatRelay
        rw [stageAt_setStage_same, same]
      · exact heatRelay_of_stage (stageAt_setStage_ne (Ne.symm is) x s)
    rw [stays]
    exact h
  unfold commandStage
  dsimp only
  split
  · exact h
  · rw [if_pos rfl]
    split
    · exact moved _
    · exact moved _
    · exact set _ rfl

/-! ### The drops -/

theorem onCommand_shed (kept : List (Fin 4)) (k : Fin 4) (h : OnCommand s) : OnCommand (shed kept s k) := by
  unfold shed
  split
  · exact onCommand_commandStage (on := false) nofun k h
  · exact h

theorem backed_shed (kept : List (Fin 4)) (k : Fin 4) (h : Backed n s) : Backed n (shed kept s k) := by
  unfold shed
  split
  · exact backed_commandStage k false h
  · exact h

theorem onCommand_dropStages (h : OnCommand s) : OnCommand (dropStages s) := by
  have sheds : ∀ (l : List (Fin 4)) (t : State), OnCommand t → OnCommand (l.foldl (shed (keptStages s)) t) := by
    intro l
    induction l with
    | nil => exact fun _ k => k
    | cons k ks ih => exact fun t h => ih _ (onCommand_shed _ k h)
  exact sheds allStages s h

theorem backed_dropStages (h : Backed n s) : Backed n (dropStages s) := by
  have sheds : ∀ (l : List (Fin 4)) (t : State), Backed n t → Backed n (l.foldl (shed (keptStages s)) t) := by
    intro l
    induction l with
    | nil => exact fun _ k => k
    | cons k ks ih => exact fun t h => ih _ (backed_shed _ k h)
  exact sheds allStages s h

/-- Ratings of stages whose every running sum lies within an amount lie within it. -/
theorem ratingSum_le {p q : Fin 4 → Bool} {c : Nat} (sub : ∀ k, p k = true → q k = true)
    (bound : ∀ k, p k = true → (allStages.map (fun j => if decide (j.val ≤ k.val) && q j then ratingOf j s else 0)).sum ≤ c) :
    ratingSum p s ≤ c := by
  by_cases some' : ∃ k, p k = true
  · obtain ⟨k, on, last⟩ : ∃ k, p k = true ∧ ∀ j, p j = true → j ≤ k := by
      obtain ⟨k, mem, top⟩ := (Finset.univ.filter (fun k => p k = true)).exists_max_image id (by
        obtain ⟨k, h⟩ := some'
        exact ⟨k, by simp [h]⟩)
      exact ⟨k, by simpa using mem, fun j h => top j (by simp [h])⟩
    refine le_trans (List.sum_le_sum fun j _ => ?_) (bound k on)
    by_cases h : p j = true
    · rw [if_pos h, if_pos]
      rw [Bool.and_eq_true, decide_eq_true_iff]
      exact ⟨last j h, sub j h⟩
    · rw [if_neg h]
      exact Nat.zero_le _
  · have none' : ∀ k, p k = false := fun k => Bool.eq_false_iff.mpr fun h => some' ⟨k, h⟩
    unfold ratingSum
    simp [none']

/-- The stages that stay energised after the drops are within the covered amount. -/
theorem drawn_dropStages_le (h : OnCommand s) (tight : ¬ (s.frc.state = .critical ∧ s.lnu.state = .lineFault)) :
    drawn (dropStages s) ≤ coveredAmount s := by
  have kept : ∀ k, heatRelay k (dropStages s) = true → k ∈ keptStages s := fun k hot =>
    (command_dropStages k s).mp ((onCommand_dropStages h) k hot).1
  have ratings : drawn (dropStages s) = ratingSum (fun k => heatRelay k (dropStages s)) s := by
    unfold drawn ratingSum ratingOf
    rw [setting_of_unstaged (unstaged_dropStages s)]
  rw [ratings]
  refine ratingSum_le (q := fun k => (stageAt k s).command && s.frc.selected[k]) (fun k hot => ?_) fun k hot => ?_
  · exact ((mem_keptStages k s).mp (kept k hot)).1
  · exact ((mem_keptStages k s).mp (kept k hot)).2.resolve_left tight

/-! ### The request -/

theorem sum_map_filter {α : Type} (p : α → Bool) (f : α → Nat) (l : List α) :
    (l.map (fun x => if p x then f x else 0)).sum = ((l.filter p).map f).sum := by
  induction l with
  | nil => rfl
  | cons x xs ih =>
    rw [List.map_cons, List.sum_cons, ih, List.filter_cons]
    split
    · rw [List.map_cons, List.sum_cons]
    · exact Nat.zero_add _

/-- The required amount is that of the selected stages (R150). -/
theorem required_selectNow (s : State) :
    (selectNow s).frc.required = ratingSum (fun k => (selectNow s).frc.selected[k]) (selectNow s) := by
  obtain ⟨chosen, sub, selected, required⟩ : ∃ chosen : List (Fin 4), chosen.Sublist allStages ∧
      (∀ k : Fin 4, (selectNow s).frc.selected[k] = chosen.contains k) ∧
      (selectNow s).frc.required = (chosen.map (fun k => ratingOf k s)).sum := by
    refine ⟨selectStages (targetNow s) s, (List.take_sublist _ _).trans List.filter_sublist, fun k => ?_, rfl⟩
    exact Vector.getElem_ofFn k.isLt
  have distinct : allStages.Nodup := by decide
  have same : (allStages.filter (fun k => chosen.contains k)).Perm chosen := by
    refine (List.perm_ext_iff_of_nodup (distinct.filter _) (sub.nodup distinct)).mpr fun k => ?_
    rw [List.mem_filter, List.contains_iff_mem]
    exact ⟨And.right, fun h => ⟨mem_allStages k, h⟩⟩
  rw [required]
  unfold ratingSum
  simp only [selected]
  rw [sum_map_filter]
  exact ((same.map _).sum_eq).symm

theorem frc_chosenNow_selects (s : State) : (chosenNow s).frc.required = (selectNow (standingWishes s)).frc.required ∧
    (chosenNow s).frc.selected = (selectNow (standingWishes s)).frc.selected := by
  unfold chosenNow
  rw [frc_updateFrostState]
  exact ⟨rfl, rfl⟩

/-- The energised stages that stay draw no more than is required. -/
theorem drawn_dropStages_required (h : OnCommand (chosenNow s)) : drawn (dropStages (chosenNow s)) ≤ (chosenNow s).frc.required := by
  obtain ⟨required, selected⟩ := frc_chosenNow_selects s
  obtain ⟨_, _, _, image, _⟩ := chosenNow_keeps s
  obtain ⟨w, wishes⟩ := standingWishes_form s
  have settings : ∀ k, ratingOf k (dropStages (chosenNow s)) = ratingOf k (selectNow (standingWishes s)) := by
    intro k
    unfold ratingOf
    rw [setting_of_unstaged (unstaged_dropStages (chosenNow s)), wishes]
    exact congrArg (fun x : Loader => x.settings.ratings[k]) image
  rw [required, required_selectNow]
  unfold drawn ratingSum
  refine List.sum_le_sum fun k _ => ?_
  by_cases hot : heatRelay k (dropStages (chosenNow s)) = true
  · have kept := (command_dropStages k _).mp ((onCommand_dropStages h) k hot).1
    have chosen := (Bool.and_eq_true_iff.mp ((mem_keptStages k _).mp kept).1).2
    rw [selected] at chosen
    rw [if_pos hot, if_pos chosen, settings]
  · rw [if_neg hot]
    exact Nat.zero_le _

theorem backed_requestLoad (covers : n ≤ s.frc.required) (byte : n ≤ 255) (h : Backed n s) : Backed n (requestLoad s) := by
  have asking : ∀ x, Backed n { s with frc := { s.frc with asked := x } } := fun x => h
  have least : n ≤ min 255 (min 255 s.frc.required) := by omega
  unfold requestLoad
  dsimp only
  split
  next zero =>
    have none' : n = 0 := by omega
    split
    · exact backed_withdrawOwn (fun _ => none') (asking _)
    · exact h
  next =>
    split
    · exact backed_askOwn _ least (asking _)
    · split
      · exact backed_askOwn _ least (asking _)
      · split
        · exact backed_changeUrgency _ _ (asking _)
        · exact h

/-! ### The evaluation -/

theorem onCommand_congr (stages : ∀ k, stageAt k t = stageAt k s) (on : active s = true → active t = true) (h : OnCommand s) :
    OnCommand t := by
  intro k hot
  rw [heatRelay_of_stage (stages k)] at hot
  rw [stages k]
  exact ⟨(h k hot).1, on (h k hot).2⟩

theorem onCommand_energiseNext (on : active s = true) (h : OnCommand s) : OnCommand (energiseNext s) := by
  rcases energiseNext_spec s with ⟨k, _, is⟩ | ⟨_, is⟩ <;> rw [is]
  · exact onCommand_commandStage (fun _ => on) k h
  · exact h

theorem backed_energiseNext (h : Backed n s) : Backed n (energiseNext s) := by
  rcases energiseNext_spec s with ⟨k, _, is⟩ | ⟨_, is⟩ <;> rw [is]
  · exact backed_commandStage k true h
  · exact h

theorem backed_energiseNext_drawn (h : Backed (drawn s) s) : Backed (drawn (energiseNext s)) (energiseNext s) := by
  rcases energiseNext_spec s with ⟨k, _, is⟩ | ⟨_, is⟩ <;> rw [is]
  · exact backed_commandStage_on h k
  · exact h

theorem backed_judgeStarved (h : Backed n s) : Backed n (judgeStarved s) := by
  unfold judgeStarved
  dsimp only
  split
  · exact h
  · exact backed_emit _ (t := { s with frc := { s.frc with starved := _ } }) h

theorem backed_chosenNow (h : Backed n s) : Backed n (chosenNow s) := by
  obtain ⟨w, wishes⟩ := standingWishes_form s
  unfold chosenNow
  rw [wishes]
  unfold updateFrostState
  dsimp only
  split
  · exact h
  · exact backed_emit _ (t := changeSeen _) h

theorem active_chosenNow (s : State) : active (chosenNow s) = active s := active_of_steady (by unfold chosenNow; simp)

theorem localAuthority_frostEvaluate (on : active s = true) : localAuthority (frostEvaluate s) = localAuthority (chosenNow s) := by
  have state : (frostEvaluate s).frc.state = (chosenNow s).frc.state := by rw [frc_frostEvaluate on]
  have line : (frostEvaluate s).lnu.state = (chosenNow s).lnu.state := by
    rw [lineState_of_wire (wire_frostEvaluate s), (chosenNow_keeps s).2.2.1]
  unfold localAuthority
  rw [state, line]

theorem coveredAmount_le (h : Backed n s) : coveredAmount s ≤ 255 := by
  obtain ⟨⟨_, held, _⟩, _, _⟩ := h
  unfold coveredAmount
  split
  · exact held
  · exact Nat.zero_le _

/-- Once the claim is in step with the required amount, the stages that stay are backed. -/
theorem backed_requested (relays : OnCommand s) (h : Backed 0 s) (tight : localAuthority (chosenNow s) = false) :
    Backed (drawn (requested s)) (requested s) := by
  have command : OnCommand (chosenNow s) :=
    onCommand_congr (fun k => congrArg (fun o : Outputs => o.stages[k]) (chosenNow_keeps s).2.1)
      (fun on => (active_chosenNow s).trans on) relays
  have dropped := backed_dropStages (backed_chosenNow h)
  have unstaged' := unstaged_dropStages (chosenNow s)
  have covers : drawn (dropStages (chosenNow s)) ≤ coveredAmount (dropStages (chosenNow s)) := by
    rw [show coveredAmount (dropStages (chosenNow s)) = coveredAmount (chosenNow s) by
      unfold coveredAmount; rw [clu_of_unstaged unstaged']]
    exact drawn_dropStages_le command (by simpa [localAuthority] using tight)
  have required : drawn (dropStages (chosenNow s)) ≤ (dropStages (chosenNow s)).frc.required := by
    rw [frc_of_unstaged unstaged']
    exact drawn_dropStages_required command
  have settings : setting (requested s) = setting (dropStages (chosenNow s)) := (requestLoad_keeps _).2.2
  rw [drawn_congr (fun k => heatRelay_of_stage ((requested_keeps s).1 k)) settings]
  refine backed_requestLoad required (covers.trans (coveredAmount_le dropped)) ?_
  obtain ⟨modest, small, _⟩ := dropped
  exact ⟨modest, small, .inr covers⟩

/-- An evaluation re-establishes what R153 asks, whatever was energised on command before. -/
theorem heat_frostEvaluate (relays : OnCommand s) (h : Backed 0 s) :
    OnCommand (frostEvaluate s) ∧ Backed (owed (frostEvaluate s)) (frostEvaluate s) := by
  by_cases on : active s = true
  · have asked : Backed 0 (requested s) :=
      backed_requestLoad (Nat.zero_le _) (Nat.zero_le _) (backed_dropStages (backed_chosenNow h))
    have stands : active (requested s) = true :=
      (active_of_steady (by unfold requested chosenNow; simp)).trans on
    have command : OnCommand (energiseNext (requested s)) := by
      refine onCommand_energiseNext stands (onCommand_congr (s := dropStages (chosenNow s)) (requested_keeps s).1 (fun _ => stands) ?_)
      exact onCommand_dropStages (onCommand_congr (fun k => congrArg (fun o : Outputs => o.stages[k]) (chosenNow_keeps s).2.1)
        (fun on => (active_chosenNow s).trans on) relays)
    have judged : ∀ k, stageAt k (frostEvaluate s) = stageAt k (energiseNext (requested s)) := stageAt_frostEvaluate on
    have after : active (frostEvaluate s) = true := (active_of_steady (by simp)).trans on
    refine ⟨onCommand_congr judged (fun _ => after) command, ?_⟩
    unfold owed
    rw [localAuthority_frostEvaluate on]
    split
    · rw [frostEvaluate_eq on]
      exact backed_judgeStarved (backed_energiseNext asked)
    next tight =>
      have image : setting (frostEvaluate s) = setting (energiseNext (requested s)) := by
        have judge : ∀ u : State, setting (judgeStarved u) = setting u := by
          intro u; unfold judgeStarved; dsimp only; split <;> rfl
        rw [frostEvaluate_eq on, judge]
      rw [drawn_congr (fun k => heatRelay_of_stage (judged k)) image, frostEvaluate_eq on]
      exact backed_judgeStarved (backed_energiseNext_drawn (backed_requested relays h (Bool.eq_false_iff.mpr tight)))
  · have cold : ∀ k, heatRelay k s = false := fun k => Bool.eq_false_iff.mpr fun hot => on (relays k hot).2
    have nothing : owed s = 0 := by
      unfold owed drawn ratingSum
      simp [cold]
    rw [show frostEvaluate s = s from if_neg on]
    exact ⟨relays, by rw [nothing]; exact h⟩

end

end Sys2Proof.Machine
end

section
/-! PROOFS. What R153 asks of the stages and the LOAD claim holds through every run. -/

namespace Sys2Proof.Machine

/-- What the LOAD claim has to cover, or nothing where only the amounts are followed. -/
def owedIf (free : Bool) (s : State) : Nat := if free then 0 else owed s

/-- The stages are energised on command, and the LOAD claim backs them. -/
def Heat (free : Bool) (s : State) : Prop := OnCommand s ∧ Backed (owedIf free s) s

section
variable {z : Bool} {s t u : State}

theorem owedIf_le (h : owed u ≤ owed t) : owedIf z u ≤ owedIf z t := by
  unfold owedIf
  split
  · exact le_rfl
  · exact h

theorem owed_congr (frost : u.frc.state = t.frc.state) (line : u.lnu.state = t.lnu.state) (stages : ∀ k, heatRelay k u = heatRelay k t)
    (settings : setting u = setting t) : owed u = owed t := by
  unfold owed localAuthority
  rw [frost, line, drawn_congr stages settings]

/-- Outside a line fault no authority is local, so that another line state asks no more. -/
theorem owed_le_of_line (calm : t.lnu.state ≠ .lineFault) (stages : ∀ k, heatRelay k u = heatRelay k t)
    (settings : setting u = setting t) : owed u ≤ owed t := by
  have tight : localAuthority t = false := by
    unfold localAuthority
    rw [beq_eq_false_iff_ne.mpr calm, Bool.and_false]
  unfold owed
  rw [tight, if_neg Bool.false_ne_true, drawn_congr stages settings]
  split
  · exact Nat.zero_le _
  · exact le_rfl

theorem heat_of_backed (stages : ∀ k, stageAt k u = stageAt k t) (on : active t = true → active u = true) (asks : owed u ≤ owed t)
    (backs : ∀ n, Backed n t → Backed n u) (h : Heat z t) : Heat z u :=
  ⟨onCommand_congr stages on h.1, backed_mono (owedIf_le asks) (backs _ h.2)⟩

/-- What leaves every other block keeps it with the claim. -/
theorem heat_of_beside (rest : beside u = beside t) (backs : ∀ n, Backed n t → Backed n u) (h : Heat z t) : Heat z u := by
  have stages : ∀ k, stageAt k u = stageAt k t := fun k => (congrArg (fun b : Beside => b.state.odu.stages[k]) rest :)
  have on : active u = active t := active_of_mode (congrArg (fun b : Beside => b.state.sld.mode) rest :)
    (congrArg (fun b : Beside => b.state.resetLow) rest :)
  refine heat_of_backed stages on.trans ?_ backs h
  exact (owed_congr (congrArg (fun b : Beside => b.state.frc.state) rest :) (congrArg (fun b : Beside => b.state.lnu.state) rest :)
    (fun k => heatRelay_of_stage (stages k)) (setting_of_beside rest :)).le

/-- The parts that are followed, but for the mode and the states of line and frost. -/
def heatPart (k : Kept) : Bool × Settings × OwnClaim × Vector (Option Holding) 24 × Vector Stage 4 :=
  (k.resetLow, k.settings, k.ownLoad, k.loadTable, k.stages)

theorem heat_of_kept (same : heatPart (kept u) = heatPart (kept t)) (waits : (kept u).waits = (kept t).waits)
    (on : active t = true → active u = true) (asks : (∀ k, heatRelay k u = heatRelay k t) → setting u = setting t → owed u ≤ owed t)
    (h : Heat z t) : Heat z u := by
  obtain ⟨_, rest⟩ := Prod.mk.inj same
  obtain ⟨settings, rest⟩ := Prod.mk.inj rest
  obtain ⟨claim, rest⟩ := Prod.mk.inj rest
  obtain ⟨table, stages⟩ := Prod.mk.inj rest
  have stage : ∀ k, stageAt k u = stageAt k t := fun k => congrArg (fun v : Vector Stage 4 => v[k]) stages
  refine heat_of_backed stage on (asks (fun k => heatRelay_of_stage (stage k)) settings) (fun n k => ?_) h
  obtain ⟨modest, small, backs⟩ := k
  have entry : ∀ i, entryAt .load i u = entryAt .load i t := fun i =>
    entryAt_of_side (r := .load) (Prod.ext claim table) i
  refine ⟨?_, fun i => by rw [entry]; exact small i, ?_⟩
  · rw [show own .load u = own .load t from claim]
    exact modest
  · rw [coveredAmount_eq, show own .load u = own .load t from claim]
    exact backs.imp_left fun mem => of_decide_eq_true (waits.trans (decide_eq_true mem))

theorem backed_setTable {n : Nat} {r : Resource} {v : Vector (Option Holding) 24} (k : TableKept r v t) (h : Backed n t) :
    Backed n (setTable r v t) := by
  cases r with
  | supply => exact h
  | load =>
    obtain ⟨modest, small, backs⟩ := h
    refine ⟨modest, fun i g is => ?_, backs⟩
    rw [entryAt_setTable] at is
    split at is
    next inside =>
      obtain ⟨_, bound⟩ := k ⟨i - 1, by omega⟩
      rcases bound g is with byte | ⟨old, found, less⟩
      · exact byte
      · refine less.trans (small i old ?_)
        unfold entryAt
        rw [dif_pos inside]
        exact found
    next => cases is

theorem backed_loseOwn {n : Nat} (r : Resource) (b : Bool) (h : Backed n t) : Backed n (loseOwn r b t) := by
  refine backed_giveUp (fun n t k => ?_) r h
  split
  · exact backed_queueNotice _ _ k
  · exact k

theorem backed_tellRaiseWithdrawn {n : Nat} (r : Resource) (h : Backed n t) : Backed n (tellRaiseWithdrawn r t) := by
  cases r
  · exact h
  · exact backed_emit _ h

theorem backed_withdrawRaise {n : Nat} (r : Resource) (h : Backed n t) : Backed n (withdrawRaise r t) := by
  unfold withdrawRaise
  dsimp only
  split
  next x raised =>
    refine backed_emit _ (backed_tellRaiseWithdrawn r (backed_queueNotice _ _ (backed_setEntry (fun load => ?_) ?_)))
    · subst load
      exact small_held h.1.2.1
    · exact backed_setOwn (modest_phase rfl rfl (by rw [raised]; rfl)) rfl h
  next => exact h

theorem backed_payOwedRefresh {n : Nat} (r : Resource) (h : Backed n t) : Backed n (payOwedRefresh r t) := by
  unfold payOwedRefresh
  dsimp only
  split
  · exact backed_queueNotice _ _ (backed_setOwn (modest_phase rfl rfl rfl) rfl h)
  · exact h

/-- The amount at which the LOAD claim settles fits. -/
theorem settlingAmount_le {n : Nat} (h : Backed n t) : settlingAmount .load t ≤ 255 := by
  unfold settlingAmount
  split
  next e found => exact (yieldPart_le_largerPart _).trans (small_of_backed h found)
  next => exact h.1.1

/-- A grant hands its job an evaluation, the LOAD claim the frost controller's. -/
theorem backed_grantOwn {n : Nat} (r : Resource) (h : Backed n t) : Backed n (grantOwn r (settlingAmount r t) t) := by
  cases r with
  | supply => exact backed_payOwedRefresh .supply (backed_emit .fillGranted (backed_setEntry (r := .supply) nofun
      (t := setOwn .supply _ t) h))
  | load =>
    have amount := settlingAmount_le h
    refine backed_payOwedRefresh .load (backed_handed (m := 0) (backed_setEntry (fun _ => small_held amount) ?_))
    refine backed_setOwn_load (fun modest => ?_) (fun _ => Nat.zero_le _) h
    obtain ⟨a, _, _⟩ := modest
    exact ⟨a, amount, nofun⟩

theorem largerPart_clearLate (e : Option Holding) : ∀ h, clearLate e = some h → ∃ g, e = some g ∧ largerPart h.share = largerPart g.share := by
  intro h is
  unfold clearLate at is
  split at is
  · cases is; exact ⟨_, rfl, rfl⟩
  · exact ⟨h, is, rfl⟩

theorem tableKept_clearLate (r : Resource) (t : State) : TableKept r ((claimTable r t).map clearLate) t := by
  have figs : ∀ e : Option Holding, (clearLate e).map figures = e.map figures := by
    intro e
    unfold clearLate
    split <;> rfl
  intro i
  have at' : ((claimTable r t).map clearLate)[i] = clearLate (claimTable r t)[i] := Vector.getElem_map ..
  rw [at']
  refine ⟨fun _ => .inr (figs _), fun h is => ?_⟩
  obtain ⟨g, found, same⟩ := largerPart_clearLate _ h is
  exact .inr ⟨g, found, same.le⟩

/-- A CLAIM sent covers what was covered, its amount fitting. -/
theorem backed_claimSent {n a : Nat} (byte : a ≤ 255) (r : Resource) (refresh : Bool) (u : Nat) (h : Backed n t) :
    Backed n (claimSent r refresh a u t) := by
  have renewed : ∀ x, Backed n (setOwn r { own r t with missed := 0, refresh := x, leadDone := false } t) := fun x =>
    backed_setOwn (modest_phase rfl rfl rfl) rfl h
  have settles : ∀ (c : OwnClaim) (e : Option Holding), (Modest (own r t) → Modest c) → coverOf c = coverOf (own r t) →
      (r = .load → Small e) → ∀ v, TableKept r v (setOwn r c t) →
      Backed n (emit (.reexamine r) (setEntry r (setting t).station e (setTable r v (setOwn r c t)))) := by
    intro c e modest covers small v k
    exact backed_emit _ (backed_setEntry small (backed_setTable k (backed_setOwn modest covers h)))
  have cleared : ∀ c, TableKept r ((claimTable r t).map clearLate) (setOwn r c t) := by
    intro c
    have same : claimTable r (setOwn r c t) = claimTable r t := by cases r <;> rfl
    rw [← same]
    exact tableKept_clearLate r _
  unfold claimSent
  dsimp only
  split
  · split
    · exact backed_ownEntryUrgency r u (renewed _)
    · exact h
  · split
    next announcing =>
      refine settles _ _ ?_ ?_ ?_ _ (cleared _)
      · exact modest_phase rfl rfl rfl
      · exact coverOf_of_unheld nofun (by rw [announcing]; exact nofun)
      · intro _ g is
        cases is
        exact Nat.max_le.mpr ⟨byte, Nat.zero_le _⟩
    · split
      next held =>
        split
        next x raised =>
          split
          · refine settles _ _ ?_ ?_ ?_ _ (cleared _)
            · exact modest_phase rfl rfl (by rw [raised]; rfl)
            · rfl
            · intro load g is
              subst load
              cases is
              exact Nat.max_le.mpr ⟨h.1.2.2 x raised, h.1.2.1⟩
          · exact backed_ownEntryUrgency r u (renewed _)
        next => exact backed_ownEntryUrgency r u (renewed _)
      next => exact h

/-- A CLAIM sent moves the claim unit and what is handed on alone. -/
theorem claimSent_form (r : Resource) (refresh : Bool) (a u : Nat) (t : State) :
    ∃ c l, claimSent r refresh a u t = { t with clu := c, handOns := l } := by
  have own' : ∀ c : OwnClaim, ∃ x, setOwn r c t = { t with clu := x } := by intro c; cases r <;> exact ⟨_, rfl⟩
  have table : ∀ (v : Vector (Option Holding) 24) (x : Claims), ∃ y, setTable r v { t with clu := x } = { t with clu := y } := by
    intro v x; cases r <;> exact ⟨_, rfl⟩
  have entry : ∀ (n : Nat) (e : Option Holding) (x : Claims), ∃ y, setEntry r n e { t with clu := x } = { t with clu := y } := by
    intro n e x
    unfold setEntry
    split
    · exact table _ x
    · exact ⟨x, rfl⟩
  have urgent : ∀ c : OwnClaim, ∃ x l, ownEntryUrgency r u (setOwn r c t) = { t with clu := x, handOns := l } := by
    intro c
    obtain ⟨x, is⟩ := own' c
    rw [is]
    unfold ownEntryUrgency
    split
    · split
      · exact ⟨x, t.handOns, rfl⟩
      · obtain ⟨y, is⟩ := entry (setting { t with clu := x }).station _ x
        rw [is]
        exact ⟨y, _, rfl⟩
    · exact ⟨x, t.handOns, rfl⟩
  have settles : ∀ c v n e, ∃ x l, emit (.reexamine r) (setEntry r n e (setTable r v (setOwn r c t))) =
      { t with clu := x, handOns := l } := by
    intro c v n e
    obtain ⟨x, is⟩ := own' c
    obtain ⟨y, is'⟩ := table v x
    obtain ⟨z, is''⟩ := entry n e y
    rw [is, is', is'']
    exact ⟨z, _, rfl⟩
  unfold claimSent
  dsimp only
  split
  · split
    · exact urgent _
    · exact ⟨t.clu, t.handOns, rfl⟩
  · split
    · exact settles _ _ _ _
    · split
      · split
        · split
          · exact settles _ _ _ _
          · exact urgent _
        · exact urgent _
      · exact ⟨t.clu, t.handOns, rfl⟩

end

end Sys2Proof.Machine
end

section
/-! PROOFS. What R153 asks of the stages and the LOAD claim holds through every run. -/

namespace Sys2Proof.Machine

section
variable {z : Bool} {s t u : State}

/-- Nothing but the claim unit and what is handed on has moved. -/
theorem heat_of_claims {c : Claims} {l : List HandOn} (is : u = { t with clu := c, handOns := l })
    (backs : ∀ n, Backed n t → Backed n u) (h : Heat z t) : Heat z u := by
  have asks : owed u = owed t := by rw [is]; rfl
  have on : active u = active t := by rw [is]; rfl
  exact heat_of_backed (fun k => by rw [is]; rfl) on.trans asks.le backs h

/-- A stage put into another state is energised no further than it was. -/
theorem heat_setStage {k : Fin 4} {x : Stage}
    (may : energised x = true → energised (stageAt k t) = true ∧ x.command = (stageAt k t).command) (h : Heat z t) :
    Heat z (setStage k x t) := by
  obtain ⟨relays, backs⟩ := h
  have hot : ∀ j, heatRelay j (setStage k x t) = true →
      heatRelay j t = true ∧ (stageAt j (setStage k x t)).command = (stageAt j t).command := by
    intro j on
    by_cases same : k = j
    · subst same
      have at' := stageAt_setStage_same k x t
      have hot : energised x = true := by rw [← at']; exact on
      rw [at']
      exact may hot
    · have at' := stageAt_setStage_ne same x t
      exact ⟨(heatRelay_of_stage at').symm.trans on, by rw [at']⟩
  have asks : drawn (setStage k x t) ≤ drawn t := by
    unfold drawn ratingSum
    refine List.sum_le_sum fun j _ => ?_
    by_cases on : heatRelay j (setStage k x t) = true
    · rw [if_pos on, if_pos (hot j on).1]
      exact le_rfl
    · rw [if_neg on]
      exact Nat.zero_le _
  refine ⟨fun j on => ?_, backed_mono (owedIf_le ?_) (show Backed _ (setStage k x t) from backs)⟩
  · obtain ⟨was, command⟩ := hot j on
    exact ⟨command.trans (relays j was).1, (relays j was).2⟩
  · unfold owed
    rw [show localAuthority (setStage k x t) = localAuthority t from rfl]
    split
    · exact le_rfl
    · exact asks

/-- All of the followed parts. -/
def steadyPart (k : Kept) : StationMode × Bool × FrostState × LineState × (Bool × Settings × OwnClaim × Vector (Option Holding) 24 × Vector Stage 4) :=
  (k.mode, k.waits, k.frost, k.lineState, heatPart k)

theorem heat_of_steady (same : steadyPart (kept u) = steadyPart (kept t)) (h : Heat z t) : Heat z u := by
  obtain ⟨mode, rest⟩ := Prod.mk.inj same
  obtain ⟨waits, rest⟩ := Prod.mk.inj rest
  obtain ⟨frost, rest⟩ := Prod.mk.inj rest
  obtain ⟨line, parts⟩ := Prod.mk.inj rest
  obtain ⟨reset, _⟩ := Prod.mk.inj parts
  exact heat_of_kept parts waits (active_of_mode mode reset).trans
    (fun stages image => (owed_congr frost line stages image).le) h

theorem heat_of_owed (h : OnCommand t ∧ Backed (owed t) t) : Heat z t := by
  obtain ⟨relays, backs⟩ := h
  refine ⟨relays, backed_mono ?_ backs⟩
  unfold owedIf
  split
  · exact Nat.zero_le _
  · exact le_rfl

/-- What the stages draw, and what the LOAD claim covers, stay in step through every run. -/
theorem heat_of_runs (m : Runs (· = .supply) True s t) (h : Heat z s) : Heat z t := by
  have tight : ¬ (Resource.load = .supply) := nofun
  induction m with
  | refl => exact h
  | still _ e ih => exact heat_of_steady (congrArg steadyPart e :) ih
  | emit x _ ih => exact heat_of_beside (beside_emit _ _) (fun _ k => backed_emit x k) ih
  | notice item n _ ih => exact heat_of_beside (beside_queueNotice _ _ _) (fun _ k => backed_queueNotice _ _ k) ih
  | adjust r c _ a ih => exact heat_of_beside (beside_setOwn _ _ _) (fun _ k => backed_adjust a k) ih
  | @table t r v _ a ih =>
    obtain ⟨c, is⟩ : ∃ c, setTable r v t = { t with clu := c, handOns := t.handOns } := by cases r <;> exact ⟨_, rfl⟩
    exact heat_of_claims is (fun _ k => backed_setTable a k) ih
  | rawOwn r c any _ ih => subst any; exact heat_of_beside (beside_setOwn _ _ _) (fun _ k => k) ih
  | rawTable r v any _ ih => subst any; exact heat_of_claims rfl (fun _ k => k) ih
  | lose r b _ _ _ ih => exact heat_of_beside (beside_loseOwn _ _ _) (fun _ k => backed_loseOwn r b k) ih
  | withdraw r _ _ ih => exact heat_of_beside (beside_withdrawRaise _ _) (fun _ k => backed_withdrawRaise r k) ih
  | sent r refresh a u _ _ carried ih =>
    obtain ⟨o, _, _, amount⟩ := carried
    obtain ⟨c, l, is⟩ := claimSent_form r refresh a u _
    exact heat_of_claims is (fun _ k => backed_claimSent (amount ▸ byteAt_le _ _) r refresh u k) ih
  | grant r _ _ _ ih => exact heat_of_beside (beside_grantOwn _ _ _) (fun _ k => backed_grantOwn r k) ih
  | shape _ _ e ih => exact heat_of_steady (congrArg steadyPart e :) ih
  | fill new no => exact absurd rfl no
  | heat any => exact absurd any tight
  | @evaluate t l _ _ ih =>
    obtain ⟨relays, modest, small, _⟩ := ih
    have on : OnCommand { t with handOns := l } := relays
    exact heat_of_owed (heat_frostEvaluate on ⟨modest, small, .inr (Nat.zero_le _)⟩)
  | stage k x _ may ih => exact heat_setStage (may tight) ih
  | ask _ _ _ e ih => exact heat_of_steady (congrArg steadyPart e :) ih
  | join _ _ _ e ih =>
    refine heat_of_kept (congrArg heatPart e :) (congrArg Kept.waits e :) (fun on => ?_)
      (fun stages image => (owed_congr (congrArg Kept.frost e :) (congrArg Kept.lineState e :) stages image).le) ih
    obtain ⟨high, _⟩ := active_iff.mp on
    exact active_iff.mpr ⟨(congrArg Kept.resetLow e :).trans high, .inr (congrArg Kept.mode e :)⟩
  | line _ calm e ih =>
    exact heat_of_kept (congrArg heatPart e :) (congrArg Kept.waits e :)
      ((active_of_mode (congrArg Kept.mode e :) (congrArg Kept.resetLow e :)).trans)
      (owed_le_of_line calm) ih
  | off _ e ih => exact heat_of_steady (congrArg steadyPart e :) ih
  | @start t e _ calm _ ih =>
    exact heat_of_backed (t := t) (fun _ => rfl) id (owed_le_of_line calm (fun _ => rfl) rfl) (fun _ k => k) ih

end

end Sys2Proof.Machine
end

section
/-! PROOFS. What R153 asks of the stages and the LOAD claim holds through every event. -/

namespace Sys2Proof.Machine

section
variable {z : Bool} {s t u : State}

/-- At a station that takes no part no stage is energised, and none is at the station it becomes. -/
theorem heat_of_cold (off : active t = false) (stages : ∀ k, stageAt k u = stageAt k t) (clu : u.clu = t.clu)
    (hands : u.handOns = t.handOns) (h : Heat false t) : Heat z u := by
  obtain ⟨relays, backs⟩ := h
  have cold : ∀ k, heatRelay k u = false := fun k => Bool.eq_false_iff.mpr fun hot => by
    rw [heatRelay_of_stage (stages k)] at hot
    exact absurd ((relays k hot).2.symm.trans off) nofun
  have nothing : owedIf z u = 0 := by
    unfold owedIf owed drawn ratingSum
    simp [cold]
  refine ⟨fun k hot => absurd (hot.symm.trans (cold k)) nofun, ?_⟩
  rw [nothing]
  exact backed_of_clu clu (fun x mem => hands ▸ mem) (backed_zero backs)

theorem heat_runs_event {f : State → State} (m : Runs (· = .supply) True s (f (beginEvent t))) (h : Heat z s) : Heat z (event f t) :=
  heat_of_runs (runs_event m) h

theorem heat_judgeRead {block : List Byte} (reading : isReading t = true) (h : Heat false t) : Heat false (event (judgeRead block) t) := by
  obtain ⟨_, mode, _⟩ := isReading_iff.mp reading
  have off : active t = false := by simp [active, mode]
  by_cases trusted : Trusted block
  · refine heat_runs_event (s := loadDone (readSettings block) (takeBlock block (beginEvent t)))
      (by rw [judgeRead_of_trusted trusted]; exact runs_endLoading _ .refl) ?_
    exact heat_of_cold off (fun _ => rfl) rfl rfl h
  · obtain ⟨l, x, is⟩ := judgeRead_of_untrusted trusted (beginEvent t)
    refine heat_runs_event (s := judgeRead block (beginEvent t)) .refl ?_
    rw [is]
    exact heat_of_cold off (fun _ => rfl) rfl rfl h

/-- The end of a line fault ends local authority, and hands an evaluation on. -/
theorem heat_leaveLineFault (h : Heat false t) : Heat false (event leaveLineFault t) := by
  have amounts : Heat true (lineQuiet (beginEvent t)) := ⟨h.1, backed_zero h.2⟩
  have asked : Heat true (askAfterFault (setIncomplete .load (setIncomplete .supply (clearCondition .lineIsolated
      (lineQuiet (beginEvent t)))))) :=
    heat_of_runs (runs_askAfterFault trivial (runs_setIncomplete _ (runs_setIncomplete _ (runs_clearCondition _ .refl)))) amounts
  exact heat_runs_event (s := leaveLineFault (beginEvent t)) .refl ⟨asked.1, backed_handed asked.2⟩

theorem heat_event {c : Instr} (a : arises c (beginEvent t) = true) (h : Heat false t) : Heat false (event (effect c) t) := by
  by_cases alone : standsAlone c = true
  · cases c with
    | powerOnReset | externalReset => cases a
    | loadAttemptDone block => exact heat_judgeRead (Bool.and_eq_true_iff.mp a).2 h
    | resetPinReturnsHigh =>
      have low : t.resetLow = true := a
      refine heat_runs_event (s := leaveReset (beginEvent t)) .refl ?_
      exact heat_of_cold (t := t) (by simp [active, low]) (fun _ => rfl) rfl rfl h
    | lineFaultExit => exact heat_leaveLineFault h
    | _ => cases alone
  · refine heat_runs_event (s := beginEvent t) (runs_effect a trivial (Bool.eq_false_iff.mpr alone) .refl) ?_
    exact heat_of_steady (t := t) rfl h

end

end Sys2Proof.Machine
end

section
/-! PROOFS. What the agreement of the stages with STAGE_FAIL speaks about, and the operations that leave all of it. -/

namespace Sys2Proof.Machine

/-- The failed stages, their signals, STAGE_FAIL with its mask, and the group's quiet flag. -/
def health (s : State) : Vector Bool 4 × (Fin 4 → Bool) × Bool × Bool × Vector Bool 4 × Bool :=
  (s.frc.failed, fun k => failureSignal k s, conditionPresent .stageFail s, inFaultSet .stageFail s, s.ftu.stageMask, s.ilu.tripQuiet)

/-- The conditions of other faults than STAGE_FAIL. -/
def otherFault (_ : Bool) (c : FaultCode) : Prop := c ≠ .stageFail

section
variable {s t u : State}

theorem stagesAgree_of_health (h : health t = health s) (agree : StagesAgree s) : StagesAgree t := by
  obtain ⟨signals, present, standing, mask, quiet⟩ := agree
  obtain ⟨failed, rest⟩ := Prod.mk.inj h
  obtain ⟨signal, rest⟩ := Prod.mk.inj rest
  obtain ⟨condition, rest⟩ := Prod.mk.inj rest
  obtain ⟨inSet, rest⟩ := Prod.mk.inj rest
  obtain ⟨stageMask, tripQuiet⟩ := Prod.mk.inj rest
  refine ⟨fun k => ?_, ?_, ?_, ?_, ?_⟩
  · rw [failed, signals k]; exact (congrFun signal k).symm
  · rw [condition, present, failed]
  · rw [inSet, standing, failed]
  · rw [stageMask, mask, failed]
  · rw [tripQuiet, quiet, failed]

theorem health_of_parts (stages : ∀ k, failureSignal k t = failureSignal k s) (failed : t.frc.failed = s.frc.failed)
    (quiet : t.ilu.tripQuiet = s.ilu.tripQuiet) (flags : codeFlags .stageFail t = codeFlags .stageFail s)
    (mask : t.ftu.stageMask = s.ftu.stageMask) : health t = health s := by
  have present : conditionPresent .stageFail t = conditionPresent .stageFail s := congrArg Prod.fst flags
  have standing : inFaultSet .stageFail t = inFaultSet .stageFail s := congrArg (fun x : Bool × Bool × Bool => x.2.1) flags
  unfold health
  rw [failed, funext stages, present, standing, mask, quiet]

theorem health_of_beside (h : beside t = beside s) : health t = health s :=
  congrArg (fun b : Beside => health b.state) h

theorem health_of_works (w : Works s t) : health t = health s := by
  have calm := quiet_of_works w
  have flags := faultFlags_of_quiet calm
  exact health_of_parts (failureSignal_of_works w) (congrArg Quiet.failed calm :) (congrArg (fun q : Quiet => q.ilu.tripQuiet) calm :)
    (codeFlags_of_faultFlags _ flags) (stageMask_of_faultFlags flags)

/-- The guard and the fault unit, where they judge no stage failure. -/
theorem health_of_judges (rest : watched t = watched s) (j : Judges otherFault s t) : health t = health s :=
  health_of_parts (fun k => congrArg (fun b : Beside => failureSignal k b.state) rest)
    (congrArg (fun b : Beside => b.state.frc.failed) rest :) (congrArg (fun b : Beside => b.state.ilu.tripQuiet) rest :)
    (codeFlags_of_judges j fun _ other => other rfl) (stageMask_of_judges j fun _ other => other rfl)

/-- The latches, where they leave the group's quiet flag. -/
theorem health_of_latched (rest : latched t = latched s) (quiet : t.ilu.tripQuiet = s.ilu.tripQuiet) : health t = health s :=
  health_of_parts (fun k => congrArg (fun b : Beside => failureSignal k b.state) rest)
    (congrArg (fun b : Beside => b.state.frc.failed) rest :) quiet
    (codeFlags_of_faultFlags _ (faultFlags_of_latched rest)) (stageMask_of_faultFlags (faultFlags_of_latched rest))

/-! ### Updates -/

@[simp] theorem health_blocks (s : State) (pe : List Instr) (pi : Vector Bool 17) (b : Bool) (n : Nat) (l : Loader) (m : Measure)
    (c : Claims) (x : Line) (p : Peers) (f : Fill) (g : Guard) (st : Situation) (r : Reports) (h : List HandOn) :
    health { s with pending := pe, pins := pi, resetLow := b, bodiesFilled := n, sld := l, msu := m, clu := c, lnu := x, ptb := p
                    flc := f, ogu := g, stu := st, rpu := r, handOns := h } = health s := rfl

@[simp] theorem health_frost (s : State) (a b : Bool) (st : FrostState) (w : Vector Bool 4) (n : Nat) (v : Vector Bool 4) (r : Nat)
    (q : Option (Nat × Nat)) (c : Bool) (l h : Option Int) (g : Nat) (x : Bool) :
    health { s with frc := { s.frc with
      airWatch := a, critical := b, state := st, wishes := w, target := n, selected := v, required := r, asked := q, starved := c
      stagLow := l, stagHigh := h, stagMinutes := g, turnoverRequest := x } } = health s := rfl

@[simp] theorem health_inputs (s : State) (a b : Vector Bool 17) (c : Vector (Option Nat) 17) :
    health { s with ilu := { s.ilu with raw := a, debounced := b, timer := c } } = health s := rfl

@[simp] theorem health_outputs (s : State) (p : Position) (a b : Bool) :
    health { s with odu := { s.odu with position := p, inletOpen := a, alarm := b } } = health s := rfl

@[simp] theorem health_emit (h : HandOn) (s : State) : health (emit h s) = health s := rfl
@[simp] theorem health_handField (f : KeyField) (s : State) : health (handField f s) = health s := rfl
@[simp] theorem health_queueNotice (item : Outgoing) (n : Nat) (s : State) : health (queueNotice item n s) = health s :=
  health_of_beside (beside_queueNotice item n s)
@[simp] theorem health_noteOccurrence (s : State) : health (noteOccurrence s) = health s := rfl
@[simp] theorem health_dueEvent (s : State) : health (dueEvent s) = health s := health_of_beside (beside_dueEvent s)
@[simp] theorem health_setTable (r : Resource) (v : Vector (Option Holding) 24) (s : State) : health (setTable r v s) = health s := by
  cases r <;> rfl
@[simp] theorem health_setEntry (r : Resource) (n : Nat) (e : Option Holding) (s : State) : health (setEntry r n e s) = health s := by
  unfold setEntry; split <;> simp
@[simp] theorem health_setIncomplete (r : Resource) (s : State) : health (setIncomplete r s) = health s :=
  health_of_beside (beside_setIncomplete r s)
@[simp] theorem health_setPeer (n : Nat) (p : Peer) (s : State) : health (setPeer n p s) = health s := by
  unfold setPeer; split <;> rfl

/-! ### Conditions and the guard -/

theorem hold_otherFault (b : Bool) : ∀ c, isHold c = true → otherFault b c := fun c hold => by rintro rfl; cases hold

theorem health_raiseCondition {c : FaultCode} (h : c ≠ .stageFail) (s : State) : health (raiseCondition c s) = health s :=
  health_of_judges (watched_raiseCondition c s) (judges_raiseCondition h .refl)
theorem health_clearCondition {c : FaultCode} (h : c ≠ .stageFail) (s : State) : health (clearCondition c s) = health s :=
  health_of_judges (watched_clearCondition c s) (judges_clearCondition h .refl)
theorem health_setCondition {c : FaultCode} (h : c ≠ .stageFail) (b : Bool) (s : State) : health (setCondition c b s) = health s :=
  health_of_judges (watched_setCondition c b s) (.set b c .refl h)

@[simp] theorem health_guardPass (n : Nat) (s : State) : health (guardPass n s) = health s :=
  health_of_judges (watched_guardPass n s) (judges_guardPass (hold_otherFault false) n .refl)
@[simp] theorem health_guardExamine (b : Bool) (s : State) : health (guardExamine b s) = health s :=
  health_of_judges (watched_guardExamine b s) (judges_guardExamine (hold_otherFault false) b .refl)
@[simp] theorem health_stopOn (cause : StopCause) (s : State) : health (stopOn cause s) = health s :=
  health_of_judges (watched_stopOn cause s) (judges_stopOn cause .refl)
@[simp] theorem health_setGuard (g : GuardState) (s : State) : health (setGuard g s) = health s := rfl

@[simp] theorem health_guardSample (s : State) : health (guardSample s) = health s := by
  unfold guardSample
  dsimp only
  (repeat' split) <;> simp

@[simp] theorem health_strokeExpires (s : State) : health (strokeExpires s) = health s := by
  unfold strokeExpires
  simp [health_raiseCondition]

@[simp] theorem health_leakCheck (s : State) : health (leakCheck s) = health s := by
  unfold leakCheck
  (repeat' split) <;> simp [health_raiseCondition]

@[simp] theorem health_floatCheck (s : State) : health (floatCheck s) = health s := by
  unfold floatCheck
  dsimp only
  (repeat' split) <;> simp [health_raiseCondition, health_clearCondition]

@[simp] theorem health_reofferOwed (s : State) : health (reofferOwed s) = health s := by
  unfold reofferOwed
  dsimp only
  (repeat' split) <;> simp

@[simp] theorem health_guardMinute (s : State) : health (guardMinute s) = health s := by simp [guardMinute]

@[simp] theorem health_examineConfirmation (s : State) : health (examineConfirmation s) = health s := by
  unfold examineConfirmation
  (repeat' split) <;> simp [health_clearCondition]

@[simp] theorem health_stopSent (on : Bool) (cause : Nat) (s : State) : health (stopSent on cause s) = health s := by
  unfold stopSent
  dsimp only
  (repeat' split) <;> simp

@[simp] theorem health_spillAlarmSent (b : Bool) (s : State) : health (spillAlarmSent b s) = health s := by
  unfold spillAlarmSent
  split <;> simp

@[simp] theorem health_confirmExpires (s : State) : health (confirmExpires s) = health s := by
  simp [confirmExpires, health_raiseCondition]

/-! ### The fill and frost controllers -/

@[simp] theorem health_fillFollows (s : State) : health (fillFollows s) = health s := health_of_works (works_fillFollows .refl)
@[simp] theorem health_takeCauses (s : State) : health (takeCauses s) = health s := health_of_works (works_takeCauses .refl)
@[simp] theorem health_reliefEnd (s : State) : health (reliefEnd s) = health s := health_of_works (works_reliefEnd .refl)
@[simp] theorem health_planAndStep (b : Bool) (s : State) : health (planAndStep b s) = health s := health_of_works (works_planAndStep b .refl)
@[simp] theorem health_planStep (s : State) : health (planStep s) = health s := health_of_works (works_planStep .refl)
@[simp] theorem health_handUrgency (s : State) : health (handUrgency s) = health s := health_of_works (works_handUrgency .refl)
@[simp] theorem health_replan (b : Bool) (s : State) : health (replan b s) = health s := health_of_works (works_replan b .refl)
@[simp] theorem health_setFill_rest (s : State) : health (setFill .rest s) = health s := health_of_works (works_setFill_rest .refl)
@[simp] theorem health_frostEvaluate (s : State) : health (frostEvaluate s) = health s := health_of_works (works_frostEvaluate .refl)
@[simp] theorem health_frostJudge (s : State) : health (frostJudge s) = health s := (health_of_works (works_frostJudge s)).trans rfl

@[simp] theorem health_withdrawTurnover (s : State) : health (withdrawTurnover s) = health s := by
  unfold withdrawTurnover
  dsimp only
  (repeat' split) <;> simp

@[simp] theorem health_fillSample (s : State) : health (fillSample s) = health s := by
  unfold fillSample
  dsimp only
  (repeat' split) <;> simp

@[simp] theorem health_fillPosition (old new : Position) (s : State) : health (fillPosition old new s) = health s := by
  unfold fillPosition
  dsimp only
  (repeat' split) <;> simp [health_clearCondition]

@[simp] theorem health_openExpires (s : State) : health (openExpires s) = health s := by simp [openExpires, health_raiseCondition]
@[simp] theorem health_clearingExpires (s : State) : health (clearingExpires s) = health s := by
  simp [clearingExpires, health_clearCondition]

@[simp] theorem health_setPeriod (night : Bool) (e : Nat) (s : State) : health (setPeriod night e s) = health s := by
  unfold setPeriod; dsimp only; split <;> rfl

@[simp] theorem health_dayEndsTariff (s : State) : health (dayEndsTariff s) = health s := by
  unfold dayEndsTariff; split <;> simp

@[simp] theorem health_tariffChange (s : State) : health (tariffChange s) = health s := by
  unfold tariffChange
  dsimp only
  split <;> simp

@[simp] theorem health_takePeriod (night : Bool) (e : Nat) (s : State) : health (takePeriod night e s) = health s := by
  unfold takePeriod; split <;> simp

@[simp] theorem health_tariffContact (now : Bool) (s : State) : health (tariffContact now s) = health s := by
  unfold tariffContact; split <;> simp

@[simp] theorem health_tariffHeard (night : Bool) (e : Nat) (s : State) : health (tariffHeard night e s) = health s := by
  unfold tariffHeard; split <;> simp

@[simp] theorem health_tariffCount (s : State) : health (tariffCount s) = health s := by
  unfold tariffCount
  dsimp only
  (repeat' split) <;> simp

@[simp] theorem health_fillMinute (s : State) : health (fillMinute s) = health s := by
  have learnt : ∀ t, health (learnStep t) = health t := fun t => rfl
  unfold fillMinute
  dsimp only
  split <;> simp [learnt]

@[simp] theorem health_nightTimesOut (s : State) : health (nightTimesOut s) = health s := by
  unfold nightTimesOut
  dsimp only
  split <;> simp

@[simp] theorem health_frostSample (s : State) : health (frostSample s) = health s := by
  have wishes : ∀ t, health (sampleWishes t) = health t := fun t => by unfold sampleWishes; split <;> rfl
  have warm : ∀ t, health (turnoverWarm t) = health t := fun t => by unfold turnoverWarm; split <;> simp
  simp [frostSample, wishes, warm]

/-! ### The time base -/

theorem health_takeSamples (p tw tr ta : AnalogCode) (s : State) : health (takeSamples p tw tr ta s) = health s := by
  have pending : health (takePending s) = health s := by
    unfold takePending evaluateSituation
    dsimp only
    (repeat' split) <;> rfl
  have pressure : ∀ t, health (samplePressure p t) = health t := fun t => by
    unfold samplePressure
    split <;> simp [health_raiseCondition, health_clearCondition]
  have temperatures : ∀ t, health (sampleTemperatures tw tr ta t) = health t := fun t => by
    unfold sampleTemperatures
    simp [health_setCondition]
  simp [takeSamples, sampleTaken, pressure, temperatures, pending]

theorem health_secondPasses (p tw tr ta : AnalogCode) (s : State) : health (secondPasses p tw tr ta s) = health s := by
  have timers : ∀ t, health (countTimers t) = health t := fun t => by simp [countTimers, countReport, countClaims, countTable]
  have second : health (countSecond s) = health s := rfl
  unfold secondPasses
  dsimp only
  split
  · rw [health_takeSamples, timers, second]
  · exact second

theorem health_minutePasses (s : State) : health (minutePasses s) = health s := by
  have change : ∀ t, health (changeRule t) = health t := fun t => by unfold changeRule; split <;> simp
  have record : ∀ t, health (stagnationMinute t) = health t := fun t => rfl
  unfold minutePasses
  dsimp only
  split
  · simp [markJobs, change, record]
  · rfl

end

end Sys2Proof.Machine
end

section
/-! PROOFS. Every event's own effect keeps the agreement of the stages with STAGE_FAIL. -/

namespace Sys2Proof.Machine

section
variable {s t : State}

/-! ### Inputs and latches -/

@[simp] theorem health_singleSettle (l : Latch) (now : Bool) (s : State) : health (singleSettle l now s) = health s :=
  health_of_latched (latched_singleSettle l now s) (by rw [ilu_singleSettle])
@[simp] theorem health_frostMember (now : Bool) (s : State) : health (frostMember now s) = health s :=
  health_of_latched (latched_frostMember now s) (by rw [ilu_frostMember])

@[simp] theorem health_takePosition (s : State) : health (takePosition s) = health s := by
  unfold takePosition
  dsimp only
  split
  · rfl
  · simp [health_setCondition]

@[simp] theorem health_settleInput (i : ContactInput) (s : State) : health (settleInput i s) = health s := rfl
@[simp] theorem health_setRaw (i : ContactInput) (now : Bool) (x : Option Nat) (s : State) : health (setRaw i now x s) = health s := rfl
@[simp] theorem health_readInputs (s : State) : health (readInputs s) = health s := rfl

theorem health_ackCode {c : FaultCode} (hold : isHold c = true) (s : State) : health (ackCode c s) = health s := by
  have other : c ≠ .stageFail := by rintro rfl; cases hold
  refine health_of_parts (fun k => congrArg (fun b : Beside => failureSignal k b.state) (watched_ackCode c s))
    (congrArg (fun b : Beside => b.state.frc.failed) (watched_ackCode c s) :)
    (congrArg (fun b : Beside => b.state.ilu.tripQuiet) (watched_ackCode c s) :)
    ((codeFlags_ackCode c .stageFail s).trans (if_neg (Ne.symm other))) ?_
  unfold ackCode leaveFault
  simp only [if_neg other]
  split
  · split
    · rfl
    · exact (stageMask_of_faultFlags (faultFlags_announceHold _ _)).trans rfl
  · rfl

@[simp] theorem health_ackFaults (s : State) : health (ackFaults s) = health s := by
  unfold ackFaults holdCodes
  simp only [List.foldl_cons, List.foldl_nil]
  rw [health_ackCode rfl, health_ackCode rfl, health_ackCode rfl]

theorem stagesAgree_ackLatches (ls : List Latch) (agree : StagesAgree s) : StagesAgree (ackLatches ls s) := by
  by_cases mem : Latch.tripgrp ∈ ls
  · obtain ⟨agree', _⟩ := ackLatches_stages mem agree
    exact agree'
  · rw [ackLatches_eq, if_neg (by simpa using mem)]
    exact stagesAgree_ackEach ls agree

theorem stagesAgree_ackActs (ls : List Latch) (faults : Bool) (agree : StagesAgree s) : StagesAgree (ackActs ls faults s) := by
  refine stagesAgree_of_health ?_ (stagesAgree_ackLatches ls agree)
  unfold ackActs
  dsimp only
  split <;> simp

/-! ### The stages -/

theorem health_moveStage {k : Fin 4} {x : Stage} (old : (stageAt k s).state ≠ .failed) (new : x.state ≠ .failed) :
    health (moveStage k x s) = health s :=
  health_of_works (works_emit _ (works_setStage ⟨fun f => absurd f new, fun f => absurd f old⟩ .refl))

theorem stagesAgree_proofExpires (k : Fin 4) (agree : StagesAgree s) : StagesAgree (proofExpires k s) := by
  unfold proofExpires
  dsimp only
  split
  next proving =>
    split
    · exact stagesAgree_of_health (health_moveStage (by rw [proving]; exact nofun) nofun) agree
    · exact stagesAgree_failStage k agree
  next dropping =>
    split
    · exact stagesAgree_failStage k agree
    · exact stagesAgree_of_health (health_moveStage (by rw [dropping]; exact nofun) nofun) agree
  next => exact agree

theorem stagesAgree_feedbackSettles (k : Fin 4) (now : Bool) (agree : StagesAgree s) : StagesAgree (feedbackSettles k now s) := by
  unfold feedbackSettles
  dsimp only
  split
  · split
    · split
      · exact stagesAgree_failStage k agree
      · exact agree
    · split
      · exact agree
      · exact stagesAgree_failStage k agree
    next dropping =>
      split
      · exact agree
      · exact stagesAgree_of_health (health_moveStage (by rw [dropping]; exact nofun) nofun) agree
    · exact agree
  · exact agree

theorem stagesAgree_handSettled (i : ContactInput) (now : Bool) (agree : StagesAgree s) : StagesAgree (handSettled i now s) := by
  cases i with
  | hfb k => exact stagesAgree_feedbackSettles k now agree
  | ackin =>
    have press : pressAck s = ackActs allLatches true s := by unfold pressAck ackActs; rfl
    show StagesAgree (if now then pressAck s else s)
    split
    · rw [press]
      exact stagesAgree_ackActs allLatches true agree
    · exact agree
  | _ => exact stagesAgree_of_health (by simp [handSettled]) agree

theorem stagesAgree_inputSettles (i : ContactInput) (agree : StagesAgree s) : StagesAgree (inputSettles i s) :=
  stagesAgree_handSettled i _ (stagesAgree_of_health (health_settleInput i s) agree)

theorem stagesAgree_followPin (i : ContactInput) (agree : StagesAgree s) : StagesAgree (followPin i s) := by
  have raw : ∀ x, StagesAgree (setRaw i (pinActive i s) x s) := fun x => stagesAgree_of_health rfl agree
  unfold followPin
  dsimp only
  split
  · exact agree
  · split
    · exact raw _
    · split
      · exact stagesAgree_inputSettles i (raw _)
      · exact raw _

/-! ### Loading -/

theorem stagesAgree_foldl {α : Type} (f : State → α → State) (h : ∀ t k, StagesAgree t → StagesAgree (f t k)) (l : List α)
    (agree : StagesAgree t) : StagesAgree (l.foldl f t) := by
  induction l generalizing t with
  | nil => exact agree
  | cons k l ih => exact ih (h _ _ agree)

theorem stagesAgree_startInputs (agree : StagesAgree s) : StagesAgree (startInputs s) := by
  refine stagesAgree_foldl _ (fun t k ok => ?_) _ (stagesAgree_of_health (health_takePosition _)
    (stagesAgree_foldl _ (fun t i ok => stagesAgree_of_health ?_ ok) _ (stagesAgree_of_health (health_readInputs s) agree)))
  · unfold stageStartUp
    split
    · exact stagesAgree_failStage k ok
    · exact ok
  · unfold latchStartUp
    split
    · cases i <;> simp
    · rfl

theorem stagesAgree_endLoading (raw : Settings) (agree : StagesAgree s) : StagesAgree (endLoading raw s) := by
  have started : StagesAgree (startInputs (startListening (startInflow (startMeasure (loadDone raw s))))) :=
    stagesAgree_startInputs (stagesAgree_of_health (s := s) rfl agree)
  have situation : ∀ t, health (startSituation t) = health t := fun t => rfl
  have tariff : ∀ t, health (startTariff t) = health t := fun t => by unfold startTariff; split <;> simp
  have trip : ∀ t, health (startTrip t) = health t := fun t => by unfold startTrip; split <;> simp
  unfold endLoading
  dsimp only
  exact stagesAgree_of_health (by simp [situation, tariff, trip]) started

theorem stagesAgree_judgeRead (block : List Byte) (agree : StagesAgree s) : StagesAgree (judgeRead block s) := by
  by_cases trusted : Trusted block
  · rw [judgeRead_of_trusted trusted]
    exact stagesAgree_endLoading _ (stagesAgree_of_health (s := s) rfl agree)
  · obtain ⟨l, m, is⟩ := judgeRead_of_untrusted trusted s
    rw [is]
    exact stagesAgree_of_health (s := s) rfl agree

/-! ### The line -/

@[simp] theorem health_discardNotice (s : State) : health (discardNotice s) = health s := by
  unfold discardNotice
  dsimp only
  split <;> rfl

theorem health_cancelHead (item : Outgoing) (s : State) : health (cancelHead item s) = health s := by
  unfold cancelHead
  dsimp only
  split
  · exact (health_emit _ _).trans ((health_of_beside (beside_claimBackToWaiting _ _)).trans rfl)
  · rfl

theorem health_winSlot (slot n : Nat) (s : State) : health (winSlot slot n s) = health s := by
  induction n generalizing s with
  | zero => rfl
  | succ n ih =>
    unfold winSlot
    split
    · rfl
    · split
      · dsimp only
        split
        · exact health_cancelHead _ s
        · split
          · exact (ih _).trans (health_cancelHead _ s)
          · exact health_cancelHead _ s
      · rfl

theorem health_finishSending (s : State) : health (finishSending s) = health s := by
  have told : ∀ o, health (tellSent o s) = health s := by
    intro o
    unfold tellSent
    split <;> first
      | rfl
      | exact health_spillAlarmSent _ s
      | exact health_stopSent _ _ s
      | (obtain ⟨c, l, is⟩ := claimSent_form _ _ _ _ s
         rw [is]
         rfl)
  unfold finishSending
  split
  · rfl
  · unfold lineAfterSent
    split <;> exact told _

theorem health_mapTowers (f : Bool → Peer → Peer) (w : WindowSamples) (s : State) : health (mapTowers f w s) = health s := by
  simp [mapTowers]

theorem health_endWindow (line : WindowSamples) (s : State) : health (endWindow line s) = health s := by
  have given : ∀ q w t, health (giveResult q w t) = health t := by
    intro q w t
    unfold giveResult
    split
    · unfold reconcile
      dsimp only
      (repeat' split) <;> simp
    · exact health_mapTowers _ _ _
    · exact health_mapTowers _ _ _
  have marked : ∀ q t, health (markIncompleteFor q t) = health t := fun q t => health_of_beside (beside_markIncompleteFor q t)
  have done : ∀ q t, health (questionDone q t) = health t := fun q t => health_of_works (works_questionDone q .refl)
  have judged : ∀ c w t, health (judgeWindow c w t) = health t := by
    intro c w t
    unfold judgeWindow
    dsimp only
    (repeat' split) <;> simp [given, marked, done]
  unfold endWindow
  dsimp only
  (repeat' split)
  · exact judged _ _ _
  · rfl
  · rfl

theorem health_beginDuplicate (s : State) : health (beginDuplicate s) = health s := by
  unfold beginDuplicate
  rw [health_of_beside (beside_releaseForDuplicate .load _), health_of_beside (beside_releaseForDuplicate .supply _),
    health_raiseCondition (by decide)]

/-! ### Notices -/

@[simp] theorem health_removeEntry (r : Resource) (n : Nat) (s : State) : health (removeEntry r n s) = health s := by
  unfold removeEntry; split <;> simp

theorem health_claimHeard (r : Resource) (refresh : Bool) (n a u : Nat) (s : State) :
    health (claimHeard r refresh n a u s) = health s := by
  unfold claimHeard
  split
  · simp
  · split
    · simp [refreshHeard]
    · unfold initialHeard
      dsimp only
      split
      · rw [health_emit, health_of_beside (beside_yieldOwn r _ _)]
        simp [enterInitial]
      · rw [health_emit, health_of_beside (beside_object r _ _)]
        simp [enterInitial]

theorem stagesAgree_handOn (h : Heard) (agree : StagesAgree s) : StagesAgree (handOn h s) := by
  unfold handOn
  split
  · exact agree
  · exact stagesAgree_of_health (health_claimHeard _ _ _ _ _ s) agree
  · exact stagesAgree_of_health (health_removeEntry _ _ s) agree
  · exact agree
  · exact agree
  · exact stagesAgree_of_health (health_tariffHeard _ _ s) agree
  · exact stagesAgree_of_health (s := s) rfl agree
  · exact agree
  · split
    · exact stagesAgree_of_health (health_examineConfirmation s) agree
    · exact agree
  · split
    · rw [takeAck_eq]
      split
      · exact stagesAgree_ackActs _ _ agree
      · exact agree
    · exact agree

theorem stagesAgree_noticeCompleted (chars : List Byte) (agree : StagesAgree s) : StagesAgree (noticeCompleted chars s) := by
  unfold noticeCompleted
  split
  · exact stagesAgree_of_health (health_discardNotice s) agree
  next h _ =>
    unfold heardValid
    split
    · split
      · refine stagesAgree_of_health ?_ agree
        rw [show heardDuplicate h s =
          if dupPresent (duplicateHeard h s) then duplicateHeard h s else beginDuplicate (duplicateHeard h s) from rfl]
        split
        · rfl
        · exact (health_beginDuplicate _).trans rfl
      · exact stagesAgree_handOn h (stagesAgree_heardBefore h agree)
    · refine stagesAgree_of_health ?_ agree
      unfold heardUnconfigured
      split <;> rfl

theorem health_peersChanged (s : State) : health (peersChanged s) = health s := by
  have summary : ∀ t, health (updateSummary t) = health t := fun t => (health_of_works (works_updateSummary t)).trans rfl
  have capacity : health (updateCapacity s) = health s := (health_of_beside (beside_takeCapacity _ _)).trans rfl
  exact (summary _).trans capacity

theorem health_losePeer (n : Nat) (s : State) : health (losePeer n s) = health s := by
  unfold losePeer
  dsimp only
  split <;> simp [health_peersChanged]

theorem health_endAnswering (s : State) : health (endAnswering s) = health s := by
  have joined : ∀ t, health (becomeJoined t) = health t := fun t => (health_of_works (works_becomeJoined t)).trans rfl
  unfold endAnswering
  dsimp only
  (repeat' split) <;> simp [joined]

theorem health_leaveLineFault (s : State) : health (leaveLineFault s) = health s := by
  have asked : ∀ t, health (askAfterFault t) = health t := fun t => health_of_works (works_askAfterFault .refl)
  unfold leaveLineFault
  dsimp only
  rw [health_emit, asked, health_setIncomplete, health_setIncomplete, health_clearCondition (by decide)]
  rfl

/-! ### The events -/

theorem stagesAgree_effect (c : Instr) (agree : StagesAgree s) : StagesAgree (effect c s) := by
  cases c with
  | powerOnReset | externalReset => exact agree
  | loadAttemptDone block => exact stagesAgree_judgeRead block agree
  | proofTimerExpiry k => exact stagesAgree_proofExpires k agree
  | rawInputChange i closed => exact stagesAgree_followPin i agree
  | inputSettled i => exact stagesAgree_inputSettles i agree
  | noticeHeard chars => exact stagesAgree_noticeCompleted chars agree
  | retryWaitExpiry | quietReached | echoConflict | driverFailure | answerWaitEnd | startBitFromAnotherStation | resetPinReturnsHigh
  | stagnationPeriodEnd => exact stagesAgree_of_health (s := s) rfl agree
  | secondEvent p tw tr ta => exact stagesAgree_of_health (health_secondPasses p tw tr ta s) agree
  | minuteMark => exact stagesAgree_of_health (health_minutePasses s) agree
  | winTime slot => exact stagesAgree_of_health (health_winSlot slot 8 _) (stagesAgree_of_health (s := s) rfl agree)
  | noticeSent => exact stagesAgree_of_health (health_finishSending s) agree
  | noticeDiscarded cause => exact stagesAgree_of_health (health_discardNotice s) agree
  | dupTimerExpiry => exact stagesAgree_of_health ((health_clearCondition (by decide) _).trans rfl) agree
  | lineFaultEntry => exact stagesAgree_of_health ((health_raiseCondition (by decide) _).trans rfl) agree
  | lineFaultExit => exact stagesAgree_of_health (health_leaveLineFault s) agree
  | windowEnd samples => exact stagesAgree_of_health (health_endWindow samples s) agree
  | peerLost n => exact stagesAgree_of_health (health_losePeer n s) agree
  | tariffNightTimeout => exact stagesAgree_of_health (health_nightTimesOut s) agree
  | peerSettleExpiry n r => exact stagesAgree_of_health (health_setEntry _ _ _ _) agree
  | entryAgedOut n r => exact stagesAgree_of_health (health_removeEntry r n s) agree
  | ownSettleExpiry r => exact stagesAgree_of_health (health_of_beside (beside_ownSettleDone r s)) agree
  | refreshLead r => exact stagesAgree_of_health (health_of_beside (beside_refreshLeadReached r s)) agree
  | refreshTime r => exact stagesAgree_of_health (health_of_beside (beside_refreshMissed r s)) agree
  | incompleteTimerExpiry r => exact stagesAgree_of_health (health_of_beside (beside_setIncompleteTimer r none s)) agree
  | listeningTimerExpiry => exact stagesAgree_of_health ((health_of_beside (beside_askNext _)).trans rfl) agree
  | answerTimerExpiry => exact stagesAgree_of_health (health_endAnswering s) agree
  | openTimerExpiry => exact stagesAgree_of_health (health_openExpires s) agree
  | clearingTimerExpiry => exact stagesAgree_of_health (health_clearingExpires s) agree
  | strokeTimerExpiry => exact stagesAgree_of_health (by simp [effect]) agree
  | confirmTimerExpiry => exact stagesAgree_of_health (by simp [effect]) agree
  | reportTimerDue => exact stagesAgree_of_health ((health_dueEvent _).trans rfl) agree

theorem stagesAgree_event {c : Instr} (agree : StagesAgree t) : StagesAgree (event (effect c) t) :=
  stagesAgree_of_health (health_of_works (works_event (effect c) t))
    (stagesAgree_effect c (stagesAgree_of_health (s := t) rfl agree))

end

end Sys2Proof.Machine
end

section
/-! PROOFS. Every step keeps the heating law. -/

namespace Sys2Proof.Machine

section
variable {s t : State}

theorem heatingKept_iff_heat (s : State) : HeatingKept s ↔ StagesAgree s ∧ Heat false s := heatingKept_iff s

theorem heatingKept_event {c : Instr} (a : arises c (beginEvent t) = true) (h : HeatingKept t) : HeatingKept (event (effect c) t) := by
  obtain ⟨agree, heat⟩ := (heatingKept_iff_heat t).mp h
  exact (heatingKept_iff_heat _).mpr ⟨stagesAgree_event agree, heat_event a heat⟩

theorem heatingKept_of_kept (same : health t = health s) (e : kept t = kept s) (h : HeatingKept s) : HeatingKept t := by
  obtain ⟨agree, heat⟩ := (heatingKept_iff_heat s).mp h
  exact (heatingKept_iff_heat t).mpr ⟨stagesAgree_of_health same agree, heat_of_steady (congrArg steadyPart e :) heat⟩

theorem health_passSlot (s : State) : health (passSlot s) = health s := by unfold passSlot; split <;> rfl

/-- The ratings that R153 speaks of, written out. -/
theorem ratings_drawn (s : State) : ([0, 1, 2, 3].map (fun k : Fin 4 =>
    if (stageAt k s).state = .proving ∨ (stageAt k s).state = .on then (setting s).ratings[k] else 0)).sum = drawn s := by
  have hot : ∀ k, heatRelay k s = true ↔ (stageAt k s).state = .proving ∨ (stageAt k s).state = .on := by
    intro k
    unfold heatRelay
    rw [Bool.or_eq_true, beq_iff_eq, beq_iff_eq]
  unfold drawn ratingSum
  simp only [hot]
  rfl

end

end Sys2Proof.Machine

namespace Sys2Proof.Proofs
open Sys2Proof Sys2Proof.Machine

/-- Settles O56: the stages' agreement is kept by every operation but a failure report and a stage health event, which restore it; the
covered amount by every run, an evaluation re-establishing it and all that lowers it handing one on. -/
theorem heatingLawKept : Obligations.HeatingLawKept := by
  refine ⟨fun s t h k => ?_, fun s h rested calm => ?_⟩
  · refine step_keeps (P := HeatingKept) (fun s h => ?_) (fun s rest h => ?_) (fun s _ => ?_) (fun s _ => ?_) (fun i b s h => ?_)
      (fun c s a h => ?_) h k
    · exact heatingKept_of_kept (health_passSlot s) (kept_passSlot s) h
    · exact heatingKept_of_kept (s := s) rfl rfl h
    · exact heatingKept_reset rfl rfl rfl rfl rfl rfl rfl
    · exact heatingKept_reset rfl rfl rfl rfl rfl rfl rfl
    · exact heatingKept_of_kept (s := s) rfl rfl h
    · exact heatingKept_event (by rw [arises_moved]; exact a) h
  · obtain ⟨_, _, _, _, backs⟩ := (heatingKept_iff s).mp h
    have tight : localAuthority s = false := by simpa [localAuthority] using calm
    have covered : drawn s ≤ coveredAmount s := by
      rcases backs with waits | covers
      · rw [show s.handOns = [] from rested] at waits
        cases waits
      · unfold owed at covers
        rw [tight, if_neg Bool.false_ne_true] at covers
        exact covers
    rw [ratings_drawn]
    refine covered.trans (le_of_eq ?_)
    unfold coveredAmount
    simp only [beq_iff_eq]

end Sys2Proof.Proofs
end

section
/-! PROOFS. The budget of an event: what each part of it depends on, and what updates leave it. -/

namespace Sys2Proof.Machine

/-! ### What an evaluation sees -/

/-- The wishes an evaluation sees (R148, R149). -/
def wishesNow (s : State) : Vector Bool 4 :=
  if wishesExamined s then (if channelInvalid s.msu.tr then Vector.ofFn (fun k => stagePresent k s) else s.frc.wishes)
  else Vector.replicate 4 false

/-- The state with those wishes. -/
def wishing (s : State) : State := { s with frc := { s.frc with wishes := wishesNow s } }

theorem standingWishes_eq (s : State) : standingWishes s = wishing s := by
  unfold standingWishes wishing wishesNow
  split
  · split <;> rfl
  · rfl

/-- The frost block an evaluation sees before its drops. -/
def viewFrost (s : State) : Frost := { (selectNow (wishing s)).frc with state := frostStateNow (selectNow (wishing s)) }

theorem evaluationView_eq (s : State) : evaluationView s = { s with frc := viewFrost s } := by
  unfold evaluationView
  rw [standingWishes_eq]
  rfl

/-- What an evaluation reads beside the covered amount. -/
structure FrostPart where
  stages : Vector Stage 4
  frost : Frost
  orders : Option Orders
  riser : TempChannel
  settings : Settings
  line : LineState

def frostPart (s : State) : FrostPart :=
  { stages := s.odu.stages, frost := s.frc, orders := s.stu.orders, riser := s.msu.tr, settings := s.sld.settings, line := s.lnu.state }

/-- The amount and urgency that a frost block asks. -/
def asksOf (f : Frost) : Option (Nat × Nat) :=
  if f.required = 0 then none else some (min 255 f.required, if f.state = .critical then 6 else 3)

/-- The starved flag of a frost block. -/
def starvedOf (f : Frost) (line : LineState) (covered : Nat) : Bool :=
  !(f.state == .critical && line == .lineFault) && decide (covered < f.required)

section
variable {s t u : State}

theorem askStale_eq (s : State) : askStale s = (s.frc.asked != asksOf (viewFrost s)) := by
  unfold askStale
  rw [evaluationView_eq]
  rfl

theorem frostStale_eq (s : State) : frostStale s = (s.frc.state != (viewFrost s).state) := by
  unfold frostStale
  rw [evaluationView_eq]

theorem starvedStale_eq (s : State) :
    starvedStale s = (s.frc.starved != starvedOf (viewFrost s) s.lnu.state (coveredAmount s)) := by
  unfold starvedStale
  rw [evaluationView_eq]
  rfl

/-- A stage that an evaluation would drop. -/
def drops (k : Fin 4) (s : State) : Bool := (stageAt k s).command && !(keptStages { s with frc := viewFrost s }).contains k

theorem dropsDue_eq (s : State) : dropsDue s = (allStages.filter (fun k => drops k s)).length := by
  unfold dropsDue
  rw [evaluationView_eq]
  rfl

theorem viewFrost_congr (part : frostPart t = frostPart s) : viewFrost t = viewFrost s := by
  have view : ∀ u, viewFrost u = viewFrost { State.reset with
      stu := { Situation.atReset with orders := (frostPart u).orders }, frc := (frostPart u).frost
      msu := { Measure.atReset with tr := (frostPart u).riser }, sld := { Loader.atReset with settings := (frostPart u).settings } } :=
    fun _ => rfl
  rw [view t, view s, part]

theorem stageAt_of_part (part : frostPart t = frostPart s) (k : Fin 4) : stageAt k t = stageAt k s :=
  congrArg (fun p : FrostPart => p.stages[k]) part

theorem mem_kept_congr (k : Fin 4) (stages : ∀ j, stageAt j t = stageAt j s) (selected : t.frc.selected = s.frc.selected)
    (state : t.frc.state = s.frc.state) (line : t.lnu.state = s.lnu.state) (settings : setting t = setting s) (covered : coveredAmount t = coveredAmount s) :
    k ∈ keptStages t ↔ k ∈ keptStages s := by
  rw [mem_keptStages, mem_keptStages]
  unfold ratingOf
  simp only [stages, selected, state, line, settings, covered]

theorem drops_congr (part : frostPart t = frostPart s) (covered : coveredAmount t = coveredAmount s) (k : Fin 4) :
    drops k t = drops k s := by
  have kept' : k ∈ keptStages { t with frc := viewFrost t } ↔ k ∈ keptStages { s with frc := viewFrost s } :=
    mem_kept_congr k (fun j => (stageAt_of_part part j :)) (congrArg Frost.selected (viewFrost_congr part))
      (congrArg Frost.state (viewFrost_congr part)) (congrArg FrostPart.line part :)
      (congrArg FrostPart.settings part :) covered
  unfold drops
  rw [stageAt_of_part part k, Bool.eq_iff_iff.mpr (List.contains_iff_mem.trans (kept'.trans List.contains_iff_mem.symm))]

/-- The part of the frost controller's budget that the covered amount does not enter. -/
def firmBudget (s : State) : Nat := 2 * idleStages s + 40 * (askStale s).toNat + 30 * (frostStale s).toNat

/-- The part that it enters. -/
def coverBudget (s : State) : Nat := 5 * dropsDue s + 2 * (starvedStale s).toNat

theorem frostBudget_eq (s : State) : frostBudget s = firmBudget s + coverBudget s := by
  unfold frostBudget firmBudget coverBudget
  omega

theorem idleStages_congr (part : frostPart t = frostPart s) : idleStages t = idleStages s := by
  unfold idleStages
  simp only [stageAt_of_part part]

theorem firmBudget_congr (part : frostPart t = frostPart s) : firmBudget t = firmBudget s := by
  have frost : t.frc = s.frc := (congrArg FrostPart.frost part :)
  unfold firmBudget
  rw [idleStages_congr part, askStale_eq, askStale_eq, frostStale_eq, frostStale_eq, viewFrost_congr part, frost]

theorem coverBudget_congr (part : frostPart t = frostPart s) (covered : coveredAmount t = coveredAmount s) :
    coverBudget t = coverBudget s := by
  have frost : t.frc = s.frc := (congrArg FrostPart.frost part :)
  have line : t.lnu.state = s.lnu.state := (congrArg FrostPart.line part :)
  unfold coverBudget
  rw [dropsDue_eq, dropsDue_eq, starvedStale_eq, starvedStale_eq, viewFrost_congr part, frost, line, covered]
  simp only [drops_congr part covered]

theorem frostBudget_congr (part : frostPart t = frostPart s) (covered : coveredAmount t = coveredAmount s) :
    frostBudget t = frostBudget s := by
  rw [frostBudget_eq, frostBudget_eq, firmBudget_congr part, coverBudget_congr part covered]

theorem stages_count_le (p : Fin 4 → Bool) : (allStages.filter p).length ≤ 4 := List.length_filter_le p allStages

theorem coverBudget_le (s : State) : coverBudget s ≤ 22 := by
  have drops := stages_count_le (fun k => drops k s)
  have starved := Bool.toNat_le (starvedStale s)
  unfold coverBudget
  rw [dropsDue_eq]
  omega

theorem firmBudget_le (s : State) : firmBudget s ≤ 78 := by
  have idle := stages_count_le (fun k => !(stageAt k s).command)
  have ask := Bool.toNat_le (askStale s)
  have frost := Bool.toNat_le (frostStale s)
  unfold firmBudget idleStages
  omega

/-- Whatever happens to the covered amount, little becomes due. -/
theorem frostBudget_le (part : frostPart t = frostPart s) : frostBudget t ≤ frostBudget s + 22 := by
  have cover := coverBudget_le t
  rw [frostBudget_eq, frostBudget_eq, firmBudget_congr part]
  omega

/-! ### The whole budget -/

/-- What the loss of a claim of this record may still hand on. -/
def lossOf (c : OwnClaim) : Nat :=
  40 * (c.state == .settling || c.state == .held).toNat + 8 * ((c.raise.map Raise.phase) == some .settling).toNat

/-- The hand-ons' own part. -/
def charge (s : State) : Nat := (s.handOns.map HandOn.cost).sum

/-- What the orders changes, the joining and the questions may still bring. -/
def chances (s : State) : Nat :=
  180 * (2 - s.stu.changeCount) + 100 * (s.sld.mode == .joining).toNat + 4 * s.clu.questions.length

theorem restBudget_eq (s : State) : restBudget s =
    charge s + chances s + frostBudget s + lossOf (own .supply s) + lossOf (own .load s) := by
  unfold restBudget charge chances
  show _ = _ + lossBudget .supply s + lossBudget .load s
  omega

theorem lossOf_le (c : OwnClaim) : lossOf c ≤ 48 := by
  have a := Bool.toNat_le (c.state == .settling || c.state == .held)
  have b := Bool.toNat_le ((c.raise.map Raise.phase) == some .settling)
  unfold lossOf
  omega

/-- What the budget depends on. -/
theorem restBudget_congr (hands : t.handOns = s.handOns) (part : frostPart t = frostPart s)
    (count : t.stu.changeCount = s.stu.changeCount) (mode : t.sld.mode = s.sld.mode)
    (questions : t.clu.questions = s.clu.questions) (supply : own .supply t = own .supply s) (load : own .load t = own .load s) :
    restBudget t = restBudget s := by
  have covered : coveredAmount t = coveredAmount s := by rw [coveredAmount_eq, coveredAmount_eq, load]
  rw [restBudget_eq, restBudget_eq, frostBudget_congr part covered, supply, load]
  unfold charge chances
  rw [hands, count, mode, questions]

end

end Sys2Proof.Machine
end

section
/-! PROOFS. The budget of an event through the operations of the queue and of the own claims. -/

namespace Sys2Proof.Machine

section
variable {s t u : State} {r : Resource}

/-! ### Updates -/

@[simp] theorem rest_blocks (s : State) (pe : List Instr) (pi : Vector Bool 17) (b : Bool) (n : Nat)
    (i : Inputs) (p : Peers) (f : Fill) (g : Guard) (rp : Reports) (ft : Faults) :
    restBudget { s with pending := pe, pins := pi, resetLow := b, bodiesFilled := n, ilu := i, ptb := p, flc := f, ogu := g
                        rpu := rp, ftu := ft } = restBudget s :=
  restBudget_congr rfl rfl rfl rfl rfl rfl rfl

@[simp] theorem rest_loader (s : State) (a : LoadState) (x y : Nat) :
    restBudget { s with sld := { s.sld with load := a, attempt := x, clamped := y } } = restBudget s :=
  restBudget_congr rfl rfl rfl rfl rfl rfl rfl

@[simp] theorem rest_situation (s : State) (k : KeyBits) (w : Bool) :
    restBudget { s with stu := { s.stu with key := k, pendingFlag := w } } = restBudget s :=
  restBudget_congr rfl rfl rfl rfl rfl rfl rfl

@[simp] theorem rest_claims (s : State) (a b c d : Option Nat) (v w : Vector (Option Holding) 24) (f : Option Question) (g h : Bool) :
    restBudget { s with clu := { s.clu with supplyTable := v, loadTable := w, incompleteSupply := a, incompleteLoad := b, inFlight := f
                                            answeredSupply := g, answeredLoad := h, listening := c, answer := d } } = restBudget s :=
  restBudget_congr rfl rfl rfl rfl rfl rfl rfl

@[simp] theorem rest_line (s : State) (p : Parser) (n k m e : Nat) (b : Bool) (q : List QueueEntry) (g : Nat) (l : Option OnLine)
    (c : Option RollCall) (d : Option Nat) :
    restBudget { s with lnu := { s.lnu with
      parser := p, recessive := n, slot := k, heldOff := b, dominantRun := m, queue := q, nextAge := g, onLine := l, rollCall := c
      dupTimer := d, errors := e } } = restBudget s :=
  restBudget_congr rfl rfl rfl rfl rfl rfl rfl

@[simp] theorem rest_outputs (s : State) (a b : Bool) (p : Position) :
    restBudget { s with odu := { s.odu with inletOpen := a, alarm := b, position := p } } = restBudget s :=
  restBudget_congr rfl rfl rfl rfl rfl rfl rfl

theorem charge_emit (h : HandOn) (s : State) : charge (emit h s) = charge s + h.cost := by
  unfold charge emit
  simp

@[simp] theorem rest_emit (h : HandOn) (s : State) : restBudget (emit h s) = restBudget s + h.cost := by
  have chance : chances (emit h s) = chances s := rfl
  have supply : own .supply (emit h s) = own .supply s := rfl
  have load : own .load (emit h s) = own .load s := rfl
  rw [restBudget_eq, restBudget_eq, charge_emit, frostBudget_congr (t := emit h s) (s := s) rfl rfl, chance, supply, load]
  omega

theorem frostPart_setOwn (r : Resource) (c : OwnClaim) (t : State) : frostPart (setOwn r c t) = frostPart t := by cases r <;> rfl

/-- A record set: what its loss may hand on, and what becomes due where the covered amount moves. -/
theorem rest_setOwn (r : Resource) (c : OwnClaim) (t : State) :
    restBudget (setOwn r c t) + lossOf (own r t) ≤ restBudget t + lossOf c + 22 := by
  have part := frostBudget_le (frostPart_setOwn r c t)
  have hands : charge (setOwn r c t) = charge t := by unfold charge; rw [handOns_setOwn]
  have chance : chances (setOwn r c t) = chances t := by cases r <;> rfl
  rw [restBudget_eq, restBudget_eq, hands, chance]
  cases r with
  | supply =>
    show _ + _ + _ + lossOf c + lossOf (own .load t) + _ ≤ _
    omega
  | load =>
    show _ + _ + _ + lossOf (own .supply t) + lossOf c + _ ≤ _
    omega

/-- A record set that covers what the old one did. -/
theorem rest_setOwn_of_cover {c : OwnClaim} (covers : coverOf c = coverOf (own r t)) :
    restBudget (setOwn r c t) + lossOf (own r t) = restBudget t + lossOf c := by
  have covered : coveredAmount (setOwn r c t) = coveredAmount t := by
    cases r with
    | supply => rfl
    | load => exact covers
  have hands : charge (setOwn r c t) = charge t := by unfold charge; rw [handOns_setOwn]
  have chance : chances (setOwn r c t) = chances t := by cases r <;> rfl
  rw [restBudget_eq, restBudget_eq, hands, chance, frostBudget_congr (frostPart_setOwn r c t) covered]
  cases r with
  | supply =>
    show _ + _ + _ + lossOf c + lossOf (own .load t) + _ = _
    omega
  | load =>
    show _ + _ + _ + lossOf (own .supply t) + lossOf c + _ = _
    omega

theorem rest_setOwn_same {c : OwnClaim} (covers : coverOf c = coverOf (own r t)) (loss : lossOf c ≤ lossOf (own r t)) :
    restBudget (setOwn r c t) ≤ restBudget t := by
  have set := rest_setOwn_of_cover covers
  omega

@[simp] theorem rest_setTable (r : Resource) (v : Vector (Option Holding) 24) (t : State) :
    restBudget (setTable r v t) = restBudget t := by cases r <;> exact rest_claims t _ _ _ _ _ _ _ _ _

@[simp] theorem rest_setEntry (r : Resource) (n : Nat) (e : Option Holding) (t : State) :
    restBudget (setEntry r n e t) = restBudget t := by unfold setEntry; split <;> simp

@[simp] theorem rest_setIncompleteTimer (r : Resource) (x : Option Nat) (t : State) :
    restBudget (setIncompleteTimer r x t) = restBudget t := by cases r <;> exact rest_claims t _ _ _ _ _ _ _ _ _

@[simp] theorem rest_setIncomplete (r : Resource) (t : State) : restBudget (setIncomplete r t) = restBudget t :=
  rest_setIncompleteTimer r _ t

@[simp] theorem rest_dropOwnEntry (r : Resource) (t : State) : restBudget (dropOwnEntry r t) = restBudget t := by simp [dropOwnEntry]
@[simp] theorem rest_noteOccurrence (t : State) : restBudget (noteOccurrence t) = restBudget t := by simp [noteOccurrence]
@[simp] theorem rest_countSkipped (t : State) : restBudget (countSkipped t) = restBudget t := by simp [countSkipped]
@[simp] theorem rest_reportDropped (t : State) : restBudget (reportDropped t) = restBudget t := by simp [reportDropped]
@[simp] theorem rest_enqueue (item : Outgoing) (n : Nat) (t : State) : restBudget (enqueue item n t) = restBudget t := by simp [enqueue]
@[simp] theorem rest_changeSeen (t : State) : restBudget (changeSeen t) = restBudget t := by simp [changeSeen]
@[simp] theorem rest_handField (f : KeyField) (t : State) : restBudget (handField f t) = restBudget t + 1 := by
  simp [handField, HandOn.cost]
@[simp] theorem rest_tellLost (r : Resource) (t : State) : restBudget (tellLost r t) = restBudget t + 1 := by
  cases r <;> simp [tellLost, HandOn.cost]
@[simp] theorem rest_markIncompleteFor (q : Question) (t : State) : restBudget (markIncompleteFor q t) = restBudget t := by
  unfold markIncompleteFor; split <;> simp

/-! ### The queue -/

theorem rest_claimBackToWaiting (r : Resource) (t : State) : restBudget (claimBackToWaiting r t) ≤ restBudget t := by
  unfold claimBackToWaiting
  dsimp only
  split
  next announcing =>
    exact rest_setOwn_same (coverOf_of_unheld nofun (by rw [announcing]; exact nofun)) (by unfold lossOf; rw [announcing]; exact le_rfl)
  next =>
    split
    next x raised =>
      split
      next phase => exact rest_setOwn_same rfl (by unfold lossOf; rw [raised, Option.map_some, Option.map_some, phase]; exact le_rfl)
      next => exact le_rfl
    next => exact le_rfl

theorem lossOf_of_holding {c : OwnClaim} (h : c.state = .settling ∨ c.state = .held) : 40 ≤ lossOf c := by
  unfold lossOf
  rcases h with h | h <;> simp [h]

theorem lossOf_lostRecord (c : OwnClaim) : lossOf (lostRecord c) = 0 := rfl

/-- A claim given up hands on its loss and its re-examination, and its RELEASE may drop another notice. -/
theorem rest_giveUp_le {release : State → State} (h : ∀ t, restBudget (release t) ≤ restBudget t + 1) (r : Resource) (t : State) :
    restBudget (giveUp release r t) + lossOf (own r t) ≤ restBudget t + 27 := by
  have lost := rest_setOwn r (lostRecord (own r t)) t
  have released := h (dropOwnEntry r (setOwn r (lostRecord (own r t)) t))
  rw [rest_dropOwnEntry] at released
  rw [lossOf_lostRecord] at lost
  unfold giveUp
  rw [rest_emit, rest_tellLost, show (HandOn.reexamine r).cost = 3 from rfl]
  omega

/-- What a drop tells costs no more than the drop of a question. -/
theorem rest_dropNotice {release : Resource → State → State} (h : ∀ r t, restBudget (release r t) ≤ restBudget t + 1)
    (item : Outgoing) (t : State) : restBudget (dropNotice release item t) ≤ restBudget t + 1 := by
  have noted := rest_noteOccurrence t
  unfold dropNotice tellDropped
  split
  · simp
  next r =>
    have back := rest_claimBackToWaiting r (noteOccurrence t)
    omega
  next r =>
    split
    next held =>
      have lost := rest_giveUp_le (h r) r (noteOccurrence t)
      have worth := lossOf_of_holding (.inr held)
      omega
    next => omega
  · simp [HandOn.cost]
  all_goals omega

theorem rest_queueNew {release : Resource → State → State} (h : ∀ r t, restBudget (release r t) ≤ restBudget t + 1)
    (item : Outgoing) (n : Nat) (t : State) : restBudget (queueNew release item n t) ≤ restBudget t + 1 := by
  unfold queueNew
  split
  · simp
  · split
    · exact rest_dropNotice h item t
    · split
      · exact (rest_dropNotice h _ _).trans (by simp)
      · exact rest_dropNotice h item t

theorem rest_queueOver (item : Outgoing) (n : Nat) (e : QueueEntry) (t : State) : restBudget (queueOver item n e t) = restBudget t := by
  unfold queueOver; (repeat' split) <;> simp

theorem rest_claimRefused (r : Resource) (refresh : Bool) (t : State) : restBudget (claimRefused r refresh t) ≤ restBudget t := by
  have back := rest_claimBackToWaiting r t
  unfold claimRefused
  (repeat' split) <;> first | exact le_rfl | exact back

theorem rest_queueWith {release : Resource → State → State} (h : ∀ r t, restBudget (release r t) ≤ restBudget t + 1)
    (item : Outgoing) (n : Nat) (t : State) : restBudget (queueWith release item n t) ≤ restBudget t + 1 := by
  have placed : restBudget (match entryUnder (keyOf item) t.lnu.queue with
      | some e => queueOver item n e t
      | none => queueNew release item n t) ≤ restBudget t + 1 := by
    split
    · rw [rest_queueOver]; omega
    · exact rest_queueNew h item n t
  unfold queueWith
  split
  · split
    next r refresh =>
      split
      · have refused := rest_claimRefused r refresh t
        omega
      · exact placed
    next => exact placed
  · omega

theorem rest_queueRelease (i : Nat) (r : Resource) (t : State) : restBudget (queueRelease i r t) ≤ restBudget t + 1 := by
  induction i generalizing r t with
  | zero => exact Nat.le_succ _
  | succ i ih => exact rest_queueWith ih _ _ _

theorem rest_queueNotice (item : Outgoing) (n : Nat) (t : State) : restBudget (queueNotice item n t) ≤ restBudget t + 1 :=
  rest_queueWith (rest_queueRelease 2) item n t

theorem rest_dueEvent (t : State) : restBudget (dueEvent t) ≤ restBudget t + 1 := by
  unfold dueEvent
  dsimp only
  split
  · simp
  · exact (rest_queueNotice _ _ _).trans (by simp)

/-! ### The own claims -/

theorem rest_announce (r : Resource) (t : State) : restBudget (announce r t) ≤ restBudget t + 1 := by
  unfold announce
  dsimp only
  split
  next waiting =>
    split
    · have set : restBudget (setOwn r { own r t with state := .announcing } t) ≤ restBudget t :=
        rest_setOwn_same (coverOf_of_unheld nofun (by rw [waiting]; exact nofun)) (by unfold lossOf; rw [waiting]; exact le_rfl)
      exact (rest_queueNotice _ _ _).trans (Nat.add_le_add_right set 1)
    · omega
  next =>
    split
    next x raised =>
      split
      · have set : restBudget (setOwn r { own r t with raise := some { x with phase := .announcing } } t) ≤ restBudget t :=
          rest_setOwn_same rfl (Nat.add_le_add_left (Nat.zero_le _) _)
        exact (rest_queueNotice _ _ _).trans (Nat.add_le_add_right set 1)
      · omega
    next => omega
  next => omega

theorem rest_loseOwn (r : Resource) (b : Bool) (t : State) : restBudget (loseOwn r b t) + lossOf (own r t) ≤ restBudget t + 27 := by
  refine rest_giveUp_le (fun t => ?_) r t
  split
  · exact rest_queueNotice _ _ t
  · omega

/-- A raise given up takes its own worth off the budget. -/
theorem rest_withdrawRaise {x : Raise} (raised : (own r t).raise = some x) (settling : x.phase = .settling) :
    restBudget (withdrawRaise r t) + 3 ≤ restBudget t := by
  unfold withdrawRaise
  dsimp only
  rw [raised]
  dsimp only
  have told : ∀ u, restBudget (tellRaiseWithdrawn r u) ≤ restBudget u + 1 := by
    intro u; cases r <;> simp [tellRaiseWithdrawn, HandOn.cost]
  generalize set : ({ own r t with raise := some { x with phase := .waiting }, settle := none, refreshOwed := false } : OwnClaim) = c
  have worth : lossOf (own r t) = lossOf c + 8 := by rw [← set]; simp [lossOf, raised, settling]
  have withdrawn : restBudget (setOwn r c t) + lossOf (own r t) = restBudget t + lossOf c :=
    rest_setOwn_of_cover (by rw [← set]; rfl)
  generalize entered : setEntry r (setting t).station _ (setOwn r c t) = u
  have same : restBudget u = restBudget (setOwn r c t) := by rw [← entered, rest_setEntry]
  have queued := rest_queueNotice (.claim r true) (own r t).urgency u
  have tell := told (queueNotice (.claim r true) (own r t).urgency u)
  rw [rest_emit, show (HandOn.reexamine r).cost = 3 from rfl]
  omega

theorem rest_settleCheck (r : Resource) (t : State) : restBudget (settleCheck r t) ≤ restBudget t := by
  unfold settleCheck
  dsimp only
  split
  · exact le_rfl
  · split
    next settling =>
      split
      · exact le_rfl
      · have lost := rest_loseOwn r true t
        have worth := lossOf_of_holding (.inl settling)
        omega
    next =>
      split
      next raising =>
        split
        · exact le_rfl
        · obtain ⟨x, raised, settling⟩ := Option.map_eq_some_iff.mp raising.2
          have withdrawn := rest_withdrawRaise raised settling
          omega
      next => exact le_rfl

theorem rest_reexamineNow (r : Resource) (t : State) : restBudget (reexamineNow r t) ≤ restBudget t + 1 := by
  have checked := rest_settleCheck r t
  have announced := rest_announce r (settleCheck r t)
  unfold reexamineNow
  omega

theorem rest_ownEntryUrgency (r : Resource) (n : Nat) (t : State) : restBudget (ownEntryUrgency r n t) ≤ restBudget t + 3 := by
  unfold ownEntryUrgency
  split
  · split
    · omega
    · simp [HandOn.cost]
  · omega

theorem rest_changeUrgency (r : Resource) (n : Nat) (t : State) : restBudget (changeUrgency r n t) ≤ restBudget t + 5 := by
  have urgent : restBudget (setOwn r { own r t with urgency := n } t) ≤ restBudget t := rest_setOwn_same rfl le_rfl
  unfold changeUrgency
  dsimp only
  split
  · omega
  · split
    · omega
    · exact ((rest_announce r _).trans (Nat.add_le_add_right urgent 1)).trans (by omega)
    · exact ((rest_queueNotice _ _ _).trans (Nat.add_le_add_right urgent 1)).trans (by omega)
    · have entry : restBudget (ownEntryUrgency r n (setOwn r { own r t with urgency := n } t)) ≤ restBudget t + 3 :=
        (rest_ownEntryUrgency r n _).trans (Nat.add_le_add_right urgent 3)
      revert entry
      generalize ownEntryUrgency r n (setOwn r _ t) = u
      intro entry
      split
      next item _ =>
        have queued := rest_queueNotice item n u
        have announced := rest_announce r (queueNotice item n u)
        omega
      next =>
        have announced := rest_announce r u
        omega

/-- A withdrawal hands on no more than a drop for its RELEASE. -/
theorem rest_withdrawOwn (r : Resource) (t : State) : restBudget (withdrawOwn r t) ≤ restBudget t + 1 := by
  have reset := rest_setOwn r .atReset t
  have nothing : lossOf OwnClaim.atReset = 0 := rfl
  have unheld : (own r t).state ≠ .held → restBudget (setOwn r .atReset t) ≤ restBudget t := fun other =>
    rest_setOwn_same (coverOf_of_unheld nofun other) (by rw [nothing]; exact Nat.zero_le _)
  unfold withdrawOwn
  split
  · omega
  next waiting => exact (unheld (by rw [waiting]; exact nofun)).trans (Nat.le_succ _)
  next announcing =>
    have same := unheld (by rw [announcing]; exact nofun)
    have queued := rest_queueNotice (.release r) 5 (setOwn r .atReset t)
    omega
  next other waits announces =>
    have holding : (own r t).state = .settling ∨ (own r t).state = .held := by
      cases state : (own r t).state with
      | none => exact absurd state other
      | waiting => exact absurd state waits
      | announcing => exact absurd state announces
      | settling => exact .inl rfl
      | held => exact .inr rfl
    have worth := lossOf_of_holding holding
    have queued := rest_queueNotice (.release r) 5 (dropOwnEntry r (setOwn r .atReset t))
    rw [rest_dropOwnEntry] at queued
    omega

theorem rest_askFresh (a n : Nat) (unheld : (own r t).state ≠ .held) : restBudget (askFresh r a n t) ≤ restBudget t + 1 := by
  have set : restBudget (setOwn r { OwnClaim.atReset with state := .waiting, amount := a, urgency := n } t) ≤ restBudget t :=
    rest_setOwn_same (coverOf_of_unheld nofun unheld) (Nat.zero_le _)
  exact (rest_announce r _).trans (Nat.add_le_add_right set 1)

theorem rest_lowerOwn (a : Nat) (held : (own r t).state = .held) : restBudget (lowerOwn r a t) ≤ restBudget t + 23 := by
  unfold lowerOwn
  dsimp only
  generalize set : ({ own r t with amount := a, held := a, raise := none, settle := none, refreshOwed := false } : OwnClaim) = c
  have lowered := rest_setOwn r c t
  have loss : lossOf c ≤ lossOf (own r t) := by rw [← set]; unfold lossOf; rw [held]; exact Nat.add_le_add_left (Nat.zero_le _) _
  generalize entered : setEntry r (setting t).station _ (setOwn r c t) = u
  have same : restBudget u = restBudget (setOwn r c t) := by rw [← entered, rest_setEntry]
  have queued := rest_queueNotice (.claim r true) (own r t).urgency u
  omega

theorem rest_raiseOwn (r : Resource) (a : Nat) (t : State) : restBudget (raiseOwn r a t) ≤ restBudget t + 1 := by
  have raises : ∀ (x : Raise) (y : Option Nat), x.phase ≠ .settling →
      restBudget (setOwn r { own r t with amount := a, raise := some x, settle := y } t) ≤ restBudget t := by
    intro x y other
    refine rest_setOwn_same rfl (Nat.add_le_add_left ?_ _)
    rw [Option.map_some, beq_eq_false_iff_ne.mpr fun h => other (Option.some.inj h)]
    exact Nat.zero_le _
  unfold raiseOwn
  dsimp only
  split
  · exact (rest_announce r _).trans (Nat.add_le_add_right (raises { pending := a, phase := .waiting } (own r t).settle nofun) 1)
  next x raised =>
    split
    next waiting =>
      have set := raises { x with pending := a } (own r t).settle (by show x.phase ≠ _; rw [waiting]; exact nofun)
      exact (rest_announce r _).trans (Nat.add_le_add_right set 1)
    next announcing =>
      have set := raises { x with pending := a } (own r t).settle (by show x.phase ≠ _; rw [announcing]; exact nofun)
      exact Nat.le_succ_of_le set
    next =>
      have set := raises { pending := a, phase := .announcing } none nofun
      refine (rest_queueNotice _ _ _).trans (Nat.add_le_add_right ?_ 1)
      rw [rest_setEntry]
      exact set

theorem rest_askAmount (r : Resource) (a : Nat) (t : State) : restBudget (askAmount r a t) ≤ restBudget t + 23 := by
  have set : restBudget (setOwn r { own r t with amount := a } t) ≤ restBudget t := rest_setOwn_same rfl le_rfl
  unfold askAmount
  dsimp only
  split
  · omega
  · split
    · omega
    · exact ((rest_announce r _).trans (Nat.add_le_add_right set 1)).trans (by omega)
    · exact Nat.le_add_right_of_le set
    next settling =>
      have withdrawn := rest_withdrawOwn r t
      have fresh := rest_askFresh (t := withdrawOwn r t) (r := r) a (own r t).urgency (by rw [own_withdrawOwn]; exact nofun)
      omega
    next held =>
      split
      · exact rest_lowerOwn a held
      · have raised := rest_raiseOwn r a t
        omega

theorem rest_askOwn (r : Resource) (a n : Nat) (t : State) : restBudget (askOwn r a n t) ≤ restBudget t + 28 := by
  unfold askOwn
  split
  · have withdrawn := rest_withdrawOwn r t
    omega
  · split
    next none' =>
      have fresh := rest_askFresh (t := t) (r := r) (askedAmount r a) n (by rw [none']; exact nofun)
      omega
    next =>
      have urgent := rest_changeUrgency r n t
      have asked := rest_askAmount r (askedAmount r a) (changeUrgency r n t)
      omega

end

end Sys2Proof.Machine
end

section
/-! PROOFS. The budget of an event through an evaluation of the frost controller. -/

namespace Sys2Proof.Machine

/-- The frost block is as an evaluation would have it before its drops. -/
def Fresh (s : State) : Prop := viewFrost s = s.frc

section
variable {s t u : State}

/-! ### The choice -/

/-- The frost block of an evaluation with certain wishes. -/
def viewWith (v : Vector Bool 4) (s : State) : Frost :=
  let x := { s with frc := { s.frc with wishes := v } }
  { (selectNow x).frc with state := frostStateNow (selectNow x) }

theorem viewFrost_eq (s : State) : viewFrost s = viewWith (wishesNow s) s := rfl

theorem fresh_view (s : State) : Fresh { s with frc := viewFrost s } := by
  have wishes : wishesNow { s with frc := viewFrost s } = wishesNow s := by
    show (if wishesExamined s then (if channelInvalid s.msu.tr then Vector.ofFn (fun k => stagePresent k s) else wishesNow s)
      else Vector.replicate 4 false) = wishesNow s
    unfold wishesNow
    by_cases examined : wishesExamined s = true
    · simp only [if_pos examined]
      split
      · rfl
      · rfl
    · simp only [if_neg examined]
  unfold Fresh
  rw [viewFrost_eq, wishes]
  rfl

theorem fresh_of_part (part : frostPart t = frostPart s) (h : Fresh s) : Fresh t := by
  unfold Fresh
  rw [viewFrost_congr part]
  exact h.trans (congrArg FrostPart.frost part).symm

theorem fresh_asked {a : Option (Nat × Nat)} (h : Fresh s) : Fresh { s with frc := { s.frc with asked := a } } := by
  have same : viewFrost { s with frc := { s.frc with asked := a } } = { viewFrost s with asked := a } := rfl
  unfold Fresh
  rw [same, h]

theorem keptStages_fresh (h : Fresh s) : { s with frc := viewFrost s } = s := by rw [h]

theorem drops_fresh (h : Fresh s) (k : Fin 4) : drops k s = ((stageAt k s).command && !(keptStages s).contains k) := by
  unfold drops
  rw [keptStages_fresh h]

/-- The frost block moves the frost controller's budget alone. -/
theorem rest_setFrost (f : Frost) (s : State) :
    restBudget { s with frc := f } + frostBudget s = restBudget s + frostBudget { s with frc := f } := by
  have supply : own .supply { s with frc := f } = own .supply s := rfl
  have load : own .load { s with frc := f } = own .load s := rfl
  have hands : charge { s with frc := f } = charge s := rfl
  have chance : chances { s with frc := f } = chances s := rfl
  rw [restBudget_eq, restBudget_eq s, supply, load, hands, chance]
  omega

/-- Where neither the selected set nor the frost state moves no other stage is due to be dropped. -/
theorem dropsDue_setFrost {f : Frost} (fresh : Fresh s) (fresh' : Fresh { s with frc := f }) (selected : f.selected = s.frc.selected)
    (state : f.state = s.frc.state) : dropsDue { s with frc := f } = dropsDue s := by
  have keeps : ∀ k, (keptStages { s with frc := f }).contains k = (keptStages s).contains k := fun k =>
    Bool.eq_iff_iff.mpr (List.contains_iff_mem.trans ((mem_kept_congr (t := { s with frc := f }) (s := s) k (fun _ => rfl) selected state
      rfl rfl rfl).trans List.contains_iff_mem.symm))
  rw [dropsDue_eq, dropsDue_eq]
  simp only [drops_fresh fresh, drops_fresh fresh', keeps]
  rfl

/-- The budget of a state whose frost block has been chosen anew. -/
theorem rest_view (s : State) : restBudget { s with frc := viewFrost s } + 30 * (frostStale s).toNat = restBudget s := by
  have view : viewFrost { s with frc := viewFrost s } = viewFrost s := fresh_view s
  have ask : askStale { s with frc := viewFrost s } = askStale s := by rw [askStale_eq, askStale_eq, view]; rfl
  have state : frostStale { s with frc := viewFrost s } = false := by rw [frostStale_eq, view]; exact bne_self_eq_false _
  have starved : starvedStale { s with frc := viewFrost s } = starvedStale s := by rw [starvedStale_eq, starvedStale_eq, view]; rfl
  have due : dropsDue { s with frc := viewFrost s } = dropsDue s := by
    rw [dropsDue_eq, dropsDue_eq]
    unfold drops
    rw [view]
    rfl
  have idle : idleStages { s with frc := viewFrost s } = idleStages s := rfl
  have frost : frostBudget { s with frc := viewFrost s } + 30 * (frostStale s).toNat = frostBudget s := by
    unfold frostBudget
    rw [ask, state, starved, due, idle, Bool.toNat_false]
    omega
  have moved := rest_setFrost (viewFrost s) s
  omega

theorem chosenNow_eq (s : State) : chosenNow s = if frostStale s then handField .frost (changeSeen { s with frc := viewFrost s })
    else { s with frc := viewFrost s } := by
  have chosen : chosenNow s = updateFrostState (selectNow (wishing s)) := by unfold chosenNow; rw [standingWishes_eq]
  rw [chosen, frostStale_eq]
  unfold updateFrostState
  dsimp only
  by_cases same : s.frc.state = (viewFrost s).state
  · have stands : (selectNow (wishing s)).frc.state = frostStateNow (selectNow (wishing s)) := same
    rw [if_pos stands, if_neg (by rw [same, bne_self_eq_false]; exact Bool.false_ne_true)]
    have block : (selectNow (wishing s)).frc = viewFrost s := by
      unfold viewFrost
      rw [← stands]
    show { s with frc := (selectNow (wishing s)).frc } = _
    rw [block]
  · have moves : ¬ (selectNow (wishing s)).frc.state = frostStateNow (selectNow (wishing s)) := same
    rw [if_neg moves, if_pos (bne_iff_ne.mpr same)]
    rfl

theorem rest_chosenNow (s : State) : restBudget (chosenNow s) ≤ restBudget s := by
  have view := rest_view s
  rw [chosenNow_eq]
  split
  next stale =>
    rw [stale, Bool.toNat_true] at view
    rw [rest_handField, rest_changeSeen]
    omega
  next => omega

theorem fresh_chosenNow (s : State) : Fresh (chosenNow s) := by
  have fresh := fresh_view s
  rw [chosenNow_eq]
  split
  · exact fresh_of_part (s := { s with frc := viewFrost s }) rfl fresh
  · exact fresh

/-! ### Commands to the stages -/

theorem viewFrost_of_unstaged (h : unstaged t = unstaged s) : viewFrost t = viewFrost s :=
  (congrArg viewFrost h :)

theorem fresh_of_unstaged (h : unstaged t = unstaged s) (fresh : Fresh s) : Fresh t :=
  (viewFrost_of_unstaged h).trans (fresh.trans (frc_of_unstaged h).symm)

/-- What commands to the stages may move of the budget. -/
theorem rest_of_unstaged (h : unstaged t = unstaged s) :
    restBudget t + (charge s + 2 * idleStages s + 5 * dropsDue s) = restBudget s + (charge t + 2 * idleStages t + 5 * dropsDue t) := by
  have view := viewFrost_of_unstaged h
  have frost := frc_of_unstaged h
  have claims := clu_of_unstaged h
  have line := congrArg Line.state (lnu_of_unstaged h)
  have covered : coveredAmount t = coveredAmount s := by unfold coveredAmount; rw [claims]
  have ask : askStale t = askStale s := by rw [askStale_eq, askStale_eq, view, frost]
  have state : frostStale t = frostStale s := by rw [frostStale_eq, frostStale_eq, view, frost]
  have starved : starvedStale t = starvedStale s := by rw [starvedStale_eq, starvedStale_eq, view, frost, line, covered]
  have chance : chances t = chances s := (congrArg chances h :)
  have supply : own .supply t = own .supply s := congrArg Claims.ownSupply claims
  have load : own .load t = own .load s := congrArg Claims.ownLoad claims
  rw [restBudget_eq, restBudget_eq, supply, load, chance]
  unfold frostBudget
  rw [ask, state, starved]
  omega

theorem charge_moveStage (k : Fin 4) (x : Stage) (s : State) : charge (moveStage k x s) = charge s + 1 := charge_emit _ _

theorem charge_commandStage (k : Fin 4) (on : Bool) (s : State) : charge (commandStage k on s) ≤ charge s + 1 := by
  unfold commandStage
  dsimp only
  (repeat' split) <;> first | exact Nat.le_succ _ | exact (charge_moveStage _ _ _).le

/-! ### The drops -/

/-- The stages of a list that are commanded and not kept. -/
def unkept (kept l : List (Fin 4)) (s : State) : List (Fin 4) := l.filter (fun k => (stageAt k s).command && !kept.contains k)

theorem charge_sheds (kept : List (Fin 4)) (l : List (Fin 4)) (once : l.Nodup) (s : State) :
    charge (l.foldl (shed kept) s) ≤ charge s + (unkept kept l s).length := by
  induction l generalizing s with
  | nil => exact le_rfl
  | cons k ks ih =>
    obtain ⟨apart, rest⟩ := List.nodup_cons.mp once
    have others : unkept kept ks (shed kept s k) = unkept kept ks s := by
      refine List.filter_congr fun j mem => ?_
      rw [stageAt_shed_ne (by rintro rfl; exact apart mem)]
    have later := ih rest (shed kept s k)
    rw [others] at later
    refine later.trans ?_
    unfold unkept
    rw [List.filter_cons]
    unfold shed
    split
    next =>
      have one := charge_commandStage k false s
      rw [List.length_cons]
      omega
    next => exact le_rfl

theorem length_filter_split (p q : Fin 4 → Bool) (sub : ∀ k, q k = true → p k = true) :
    (allStages.filter (fun k => !q k)).length =
      (allStages.filter (fun k => !p k)).length + (allStages.filter (fun k => p k && !q k)).length := by
  have split : ∀ l : List (Fin 4), (l.filter (fun k => !q k)).length =
      (l.filter (fun k => !p k)).length + (l.filter (fun k => p k && !q k)).length := by
    intro l
    induction l with
    | nil => rfl
    | cons k ks ih =>
      have here := sub k
      rw [List.filter_cons, List.filter_cons, List.filter_cons]
      cases on : p k <;> cases stays : q k <;> simp [on, stays] at here ⊢ <;> omega
  exact split allStages

theorem contains_kept (k : Fin 4) (s : State) : (stageAt k (dropStages s)).command = (keptStages s).contains k :=
  Bool.eq_iff_iff.mpr ((command_dropStages k s).trans List.contains_iff_mem.symm)

/-- After the drops no stage is due to be dropped. -/
theorem drops_dropStages (fresh : Fresh s) (k : Fin 4) : drops k (dropStages s) = false := by
  have unstaged' := unstaged_dropStages s
  rw [drops_fresh (fresh_of_unstaged unstaged' fresh), contains_kept]
  cases kept : (keptStages s).contains k with
  | false => rfl
  | true =>
    have mem := List.contains_iff_mem.mp kept
    obtain ⟨chosen, within'⟩ := (mem_keptStages k s).mp mem
    have stays : k ∈ keptStages (dropStages s) := by
      refine (mem_keptStages k _).mpr ⟨?_, within'.imp ?_ fun sum => ?_⟩
      · rw [contains_kept, kept, frc_of_unstaged unstaged']
        exact (Bool.and_eq_true_iff.mp chosen).2
      · rw [frc_of_unstaged unstaged', lnu_of_unstaged unstaged']
        exact id
      · have covered : coveredAmount (dropStages s) = coveredAmount s := by
          unfold coveredAmount; rw [clu_of_unstaged unstaged']
        rw [covered]
        refine le_trans (List.sum_le_sum fun j _ => ?_) sum
        have rating : ratingOf j (dropStages s) = ratingOf j s := by
          unfold ratingOf; rw [setting_of_unstaged unstaged']
        rw [contains_kept, frc_of_unstaged unstaged', rating]
        by_cases keep : j ∈ keptStages s
        · obtain ⟨on, _⟩ := (mem_keptStages j s).mp keep
          have both := Bool.and_eq_true_iff.mp on
          rw [List.contains_iff_mem.mpr keep, both.1]
        · rw [Bool.eq_false_iff.mpr fun yes => keep (List.contains_iff_mem.mp yes), Bool.false_and, Bool.and_false,
            if_neg Bool.false_ne_true]
          exact Nat.zero_le _
    rw [List.contains_iff_mem.mpr stays]
    rfl

theorem rest_dropStages (fresh : Fresh s) : restBudget (dropStages s) ≤ restBudget s := by
  have whole := rest_of_unstaged (unstaged_dropStages s)
  have charged : charge (dropStages s) ≤ charge s + (unkept (keptStages s) allStages s).length :=
    charge_sheds (keptStages s) allStages (by decide) s
  have due : dropsDue s = (unkept (keptStages s) allStages s).length := by
    rw [dropsDue_eq]
    unfold unkept
    simp only [drops_fresh fresh]
  have none' : dropsDue (dropStages s) = 0 := by
    rw [dropsDue_eq]
    simp [drops_dropStages fresh]
  have idle : idleStages (dropStages s) = idleStages s + (unkept (keptStages s) allStages s).length := by
    unfold idleStages unkept
    simp only [contains_kept]
    refine length_filter_split (fun k => (stageAt k s).command) (fun k => (keptStages s).contains k) fun k kept => ?_
    obtain ⟨on, _⟩ := (mem_keptStages k s).mp (List.contains_iff_mem.mp kept)
    exact (Bool.and_eq_true_iff.mp on).1
  omega

/-! ### The request -/

theorem askStale_asked (fresh : Fresh s) : askStale { s with frc := { s.frc with asked := asksNow s } } = false := by
  have view : viewFrost { s with frc := { s.frc with asked := asksNow s } } = { s.frc with asked := asksNow s } := fresh_asked fresh
  rw [askStale_eq, view]
  exact bne_self_eq_false _

/-- What is asked being noted takes the stale ask off the budget. -/
theorem rest_asked (fresh : Fresh s) :
    restBudget { s with frc := { s.frc with asked := asksNow s } } + 40 * (askStale s).toNat = restBudget s := by
  have view : viewFrost { s with frc := { s.frc with asked := asksNow s } } = { s.frc with asked := asksNow s } := fresh_asked fresh
  have ask := askStale_asked fresh
  have state : frostStale { s with frc := { s.frc with asked := asksNow s } } = frostStale s := by
    rw [frostStale_eq, frostStale_eq, view, fresh]
  have starved : starvedStale { s with frc := { s.frc with asked := asksNow s } } = starvedStale s := by
    rw [starvedStale_eq, starvedStale_eq, view, fresh]
    rfl
  have due : dropsDue { s with frc := { s.frc with asked := asksNow s } } = dropsDue s := dropsDue_setFrost fresh (fresh_asked fresh) rfl rfl
  have idle : idleStages { s with frc := { s.frc with asked := asksNow s } } = idleStages s := rfl
  have moved := rest_setFrost { s.frc with asked := asksNow s } s
  unfold frostBudget at moved
  rw [ask, state, starved, due, idle, Bool.toNat_false] at moved
  omega

theorem asksNow_eq (s : State) : asksNow s = asksOf s.frc := rfl

theorem rest_requestLoad (fresh : Fresh s) : restBudget (requestLoad s) ≤ restBudget s := by
  have asked := rest_asked fresh
  have stale : askStale s = (s.frc.asked != asksNow s) := by rw [askStale_eq, fresh, asksNow_eq]
  by_cases same : s.frc.asked = asksNow s
  · have unmoved : { s with frc := { s.frc with asked := asksNow s } } = s := by rw [← same]
    have rests : requestLoad s = s := by
      unfold requestLoad
      unfold asksNow at same
      dsimp only
      by_cases zero : s.frc.required = 0
      · rw [if_pos zero] at same ⊢
        rw [same, if_neg (by decide)]
      · rw [if_neg zero] at same ⊢
        rw [same]
        dsimp only
        rw [if_neg (by simp), if_neg (by simp)]
    rw [rests]
  · rw [stale, bne_iff_ne.mpr same, Bool.toNat_true] at asked
    have within' : restBudget (requestLoad s) ≤ restBudget { s with frc := { s.frc with asked := asksNow s } } + 28 := by
      unfold requestLoad asksNow
      dsimp only
      by_cases zero : s.frc.required = 0
      · rw [if_pos zero, if_pos zero]
        split
        · exact (rest_withdrawOwn _ _).trans (by omega)
        next unasked =>
          have none' := Option.not_isSome_iff_eq_none.mp unasked
          exact absurd (none'.trans (by unfold asksNow; rw [if_pos zero])) same
      · rw [if_neg zero, if_neg zero]
        split
        · exact rest_askOwn _ _ _ _
        next a u is =>
          split
          · exact rest_askOwn _ _ _ _
          · split
            · exact (rest_changeUrgency _ _ _).trans (by omega)
            next amount urgency =>
              refine absurd ?_ same
              unfold asksNow
              rw [is, if_neg zero, of_not_not amount, of_not_not urgency]
    omega

theorem frostPart_requestLoad (s : State) :
    frostPart (requestLoad s) = frostPart { s with frc := { s.frc with asked := asksNow s } } :=
  (congrArg (fun b : Beside => frostPart b.state) (beside_requestLoad s) :)

theorem fresh_requestLoad (fresh : Fresh s) : Fresh (requestLoad s) :=
  fresh_of_part (frostPart_requestLoad s) (fresh_asked fresh)

/-! ### The next stage -/

theorem idleStages_commandStage {k : Fin 4} (was : (stageAt k s).command = false) :
    idleStages (commandStage k true s) + 1 = idleStages s := by
  have lost : ∀ l : List (Fin 4), l.Nodup → k ∈ l →
      (l.filter (fun j => !(stageAt j (commandStage k true s)).command)).length + 1 =
        (l.filter (fun j => !(stageAt j s).command)).length := by
    intro l once mem
    have others : l.filter (fun j => !(stageAt j (commandStage k true s)).command) =
        (l.filter (fun j => !(stageAt j s).command)).erase k := by
      rw [List.Nodup.erase_eq_filter (once.filter _), List.filter_filter]
      refine List.filter_congr fun j _ => ?_
      by_cases same : j = k
      · subst same
        rw [command_commandStage, was]
        simp
      · rw [stageAt_commandStage_ne same]
        simp [same]
    rw [others, List.length_erase_of_mem (List.mem_filter.mpr ⟨mem, by rw [was]; rfl⟩)]
    have some' := List.length_pos_of_mem (List.mem_filter (p := fun j => !(stageAt j s).command) |>.mpr ⟨mem, by rw [was]; rfl⟩)
    omega
  exact lost allStages (by decide) (mem_allStages k)

/-- The stage energised and those kept before are kept. -/
theorem drops_commandStage {k : Fin 4} (fresh : Fresh s) (may : energises k s) (j : Fin 4)
    (due : drops j (commandStage k true s) = true) : drops j s = true := by
  have unstaged' := unstaged_commandStage k true s
  have frost := frc_of_unstaged unstaged'
  have line := congrArg Line.state (lnu_of_unstaged unstaged')
  obtain ⟨_, next', within'⟩ := may
  obtain ⟨selected, was, _⟩ := (nextStage_iff k s).mp next'
  have command : ∀ i, (stageAt i (commandStage k true s)).command = (decide (i = k) || (stageAt i s).command) := by
    intro i
    by_cases same : i = k
    · subst same
      rw [command_commandStage]
      simp
    · rw [stageAt_commandStage_ne same]
      simp [same]
  have covered : coveredAmount (commandStage k true s) = coveredAmount s := by
    unfold coveredAmount; rw [clu_of_unstaged unstaged']
  have rating : ∀ i, ratingOf i (commandStage k true s) = ratingOf i s := fun i => by
    unfold ratingOf; rw [setting_of_unstaged unstaged']
  have keeps : ∀ i, (stageAt i (commandStage k true s)).command = true → s.frc.selected[i] = true →
      i ∈ keptStages (commandStage k true s) := by
    intro i on chosen
    refine (mem_keptStages i _).mpr ⟨by rw [on, frost, chosen]; rfl, within'.imp (fun authority => ?_) fun sum => ?_⟩
    · rw [frost, line]
      simpa [localAuthority] using authority
    · rw [covered]
      refine le_trans ?_ sum
      have total : (allStages.map (fun j => if (stageAt j s).command then ratingOf j s else 0)).sum + ratingOf k s =
          (allStages.map (fun j => if (stageAt j (commandStage k true s)).command then ratingOf j s else 0)).sum := by
        have each : ∀ j, (if (stageAt j (commandStage k true s)).command then ratingOf j s else 0) =
            (if (stageAt j s).command then ratingOf j s else 0) + (if j = k then ratingOf k s else 0) := by
          intro j
          rw [command]
          by_cases same : j = k
          · subst same
            simp [was]
          · simp [same]
        simp only [each, List.sum_map_add]
        have alone : (allStages.map (fun j => if j = k then ratingOf k s else 0)).sum = ratingOf k s := by
          fin_cases k <;> simp [allStages]
        rw [alone]
      unfold ratingSum
      rw [total]
      refine List.sum_le_sum fun j _ => ?_
      rw [rating, frost]
      cases (stageAt j (commandStage k true s)).command with
      | false => simp
      | true =>
        rw [if_pos rfl]
        split
        · exact le_rfl
        · exact Nat.zero_le _
  rw [drops_fresh (fresh_of_unstaged unstaged' fresh), Bool.and_eq_true, Bool.not_eq_true'] at due
  obtain ⟨on, out⟩ := due
  have unchosen : s.frc.selected[j] = false := Bool.eq_false_iff.mpr fun chosen =>
    absurd (List.contains_iff_mem.mpr (keeps j on chosen)) (by rw [out]; exact Bool.false_ne_true)
  have other : j ≠ k := by
    rintro rfl
    exact absurd (selected.symm.trans unchosen) nofun
  rw [command, decide_eq_false other, Bool.false_or] at on
  have gone : ¬ j ∈ keptStages s := fun mem => by
    obtain ⟨chosen, _⟩ := (mem_keptStages j s).mp mem
    exact absurd ((Bool.and_eq_true_iff.mp chosen).2.symm.trans unchosen) nofun
  rw [drops_fresh fresh, on, Bool.eq_false_iff.mpr fun yes => gone (List.contains_iff_mem.mp yes)]
  rfl

theorem rest_energiseNext (fresh : Fresh s) : restBudget (energiseNext s) ≤ restBudget s := by
  rcases energiseNext_spec s with ⟨k, may, is⟩ | ⟨_, is⟩ <;> rw [is]
  have whole := rest_of_unstaged (unstaged_commandStage k true s)
  have charged := charge_commandStage k true s
  obtain ⟨_, was, _⟩ := (nextStage_iff k s).mp may.2.1
  have idle := idleStages_commandStage was
  have due : dropsDue (commandStage k true s) ≤ dropsDue s := by
    rw [dropsDue_eq, dropsDue_eq]
    refine (List.monotone_filter_right allStages fun j on => ?_).length_le
    exact drops_commandStage fresh may j on
  omega

/-! ### The starved flag -/

theorem starved_fresh (fresh : Fresh s) : starvedStale s =
    (s.frc.starved != (!localAuthority s && decide (coveredAmount s < s.frc.required))) := by
  rw [starvedStale_eq, fresh]
  rfl

theorem rest_judgeStarved (fresh : Fresh s) : restBudget (judgeStarved s) ≤ restBudget s := by
  unfold judgeStarved
  dsimp only
  generalize flag : (!localAuthority s && decide (coveredAmount s < s.frc.required)) = f
  split
  · exact le_rfl
  next differs =>
    have view : viewFrost { s with frc := { s.frc with starved := f } } = { s.frc with starved := f } := by
      have same : viewFrost { s with frc := { s.frc with starved := f } } = { viewFrost s with starved := f } := rfl
      rw [same, fresh]
    have fresh' : Fresh { s with frc := { s.frc with starved := f } } := view
    have was : starvedStale s = true := by rw [starved_fresh fresh, flag]; exact bne_iff_ne.mpr differs
    have judged : starvedStale { s with frc := { s.frc with starved := f } } = false := by
      rw [starved_fresh fresh']
      show (f != (!localAuthority s && decide (coveredAmount s < s.frc.required))) = false
      rw [flag]
      exact bne_self_eq_false _
    have ask : askStale { s with frc := { s.frc with starved := f } } = askStale s := by
      rw [askStale_eq, askStale_eq, view, fresh]
      rfl
    have state : frostStale { s with frc := { s.frc with starved := f } } = frostStale s := by
      rw [frostStale_eq, frostStale_eq, view, fresh]
    have due : dropsDue { s with frc := { s.frc with starved := f } } = dropsDue s := dropsDue_setFrost fresh fresh' rfl rfl
    have idle : idleStages { s with frc := { s.frc with starved := f } } = idleStages s := rfl
    have worth : restBudget { s with frc := { s.frc with starved := f } } + 2 = restBudget s := by
      have moved := rest_setFrost { s.frc with starved := f } s
      unfold frostBudget at moved
      rw [ask, state, due, idle, judged, was, Bool.toNat_false, Bool.toNat_true] at moved
      omega
    rw [rest_handField]
    exact (Nat.le_succ _).trans worth.le

/-- An evaluation adds nothing to the budget. -/
theorem rest_frostEvaluate (s : State) : restBudget (frostEvaluate s) ≤ restBudget s := by
  by_cases on : active s = true
  · rw [frostEvaluate_eq on]
    have chosen := fresh_chosenNow s
    have dropped := fresh_of_unstaged (unstaged_dropStages (chosenNow s)) chosen
    have asked : Fresh (requested s) := fresh_requestLoad dropped
    have energised := fresh_of_unstaged (unstaged_energiseNext (requested s)) asked
    calc restBudget (judgeStarved (energiseNext (requested s)))
        ≤ restBudget (energiseNext (requested s)) := rest_judgeStarved energised
      _ ≤ restBudget (requested s) := rest_energiseNext asked
      _ ≤ restBudget (dropStages (chosenNow s)) := rest_requestLoad dropped
      _ ≤ restBudget (chosenNow s) := rest_dropStages chosen
      _ ≤ restBudget s := rest_chosenNow s
  · rw [show frostEvaluate s = s from if_neg on]

end

end Sys2Proof.Machine
end

section
/-! PROOFS. Every hand-on taken lowers the budget of an event. -/

namespace Sys2Proof.Machine

section
variable {s t u : State}

/-! ### The fill controller -/

@[simp] theorem rest_moveFill (new : FillState) (t : State) : restBudget (moveFill new t) = restBudget t := by simp [moveFill]

/-- A state that asks no claim is entered with a RELEASE at the most. -/
theorem rest_setFill_rests {new : FillState} (rests : holdsRequest new = false) (t : State) :
    restBudget (setFill new t) ≤ restBudget t + 1 := by
  have withdrawn := rest_withdrawOwn .supply (moveFill new t)
  rw [rest_moveFill] at withdrawn
  unfold setFill
  dsimp only
  split
  · omega
  · split
    · cases rests
    · cases rests
    · cases rests
    · split
      · exact withdrawn
      · rw [rest_moveFill]; omega

/-- Between states that hold a request nothing is asked. -/
theorem rest_setFill_holds {new : FillState} (old : holdsRequest t.flc.state = true) (holds : holdsRequest new = true) :
    restBudget (setFill new t) = restBudget t := by
  unfold setFill
  dsimp only
  split
  · rfl
  · split
    · exact rest_moveFill _ t
    · exact rest_moveFill _ t
    · exact rest_moveFill _ t
    next claims tariff turnover =>
      cases new with
      | claim why => exact absurd rfl (claims why)
      | fill why =>
        cases why with
        | tariff => exact absurd rfl tariff
        | turnover => exact absurd rfl turnover
        | relief => cases holds
      | _ => cases holds

theorem rest_setFill (new : FillState) (t : State) : restBudget (setFill new t) ≤ restBudget t + 28 := by
  unfold setFill
  dsimp only
  split
  · omega
  · split
    next why =>
      split
      · rw [rest_moveFill]; omega
      · exact (rest_askOwn _ _ _ _).trans (by rw [rest_moveFill])
    · rw [rest_moveFill]; omega
    · rw [rest_moveFill]; omega
    · split
      · exact (rest_withdrawOwn _ _).trans (by rw [rest_moveFill]; omega)
      · rw [rest_moveFill]; omega

theorem rest_reliefStart (t : State) : restBudget (reliefStart t) ≤ restBudget t + 1 := by
  have relief := rest_setFill_rests (new := .fill .relief) rfl t
  unfold reliefStart
  (repeat' split) <;> omega

theorem rests_afterFill (t : State) : holdsRequest (afterFill t) = false := by
  rcases afterFill_cases t with is | is <;> rw [is] <;> rfl

theorem rest_reliefEnd (t : State) : restBudget (reliefEnd t) ≤ restBudget t + 1 := by
  have ends := rest_setFill_rests (rests_afterFill t) t
  unfold reliefEnd
  split <;> omega

theorem rest_planStep (t : State) : restBudget (planStep t) ≤ restBudget t + 28 := by
  have row := rest_setFill (restRow t) t
  have ends := rest_setFill_rests (new := .rest) rfl t
  have relief := rest_reliefStart t
  unfold planStep
  (repeat' split) <;> omega

theorem rest_handUrgency (t : State) : restBudget (handUrgency t) ≤ restBudget t + 5 := by
  have urgent := rest_changeUrgency .supply t.flc.plan.urgency t
  unfold handUrgency
  split <;> omega

theorem rest_replan (hands : Bool) (t : State) : restBudget (replan hands t) = restBudget t + hands.toNat := by
  unfold replan
  dsimp only
  cases hands with
  | true => rw [if_pos rfl, rest_emit, rest_blocks]; rfl
  | false => rw [if_neg Bool.false_ne_true, rest_blocks]; rfl

theorem rest_planAndStep (hands : Bool) (t : State) : restBudget (planAndStep hands t) ≤ restBudget t + (33 + hands.toNat) := by
  have planned := rest_replan hands t
  have urgent := rest_handUrgency (replan hands t)
  have stepped := rest_planStep (handUrgency (replan hands t))
  unfold planAndStep
  omega

theorem rest_takeCauses (t : State) : restBudget (takeCauses t) ≤ restBudget t + 35 := by
  have causes : restBudget { t with flc := { t.flc with causes := causesNow t } } = restBudget t := by simp
  unfold takeCauses
  dsimp only
  generalize { t with flc := { t.flc with causes := causesNow t } } = u at causes ⊢
  have ends := rest_setFill_rests (new := .rest) rfl u
  have blocks := rest_setFill_rests (new := .blocked) rfl u
  have planned := rest_planAndStep true (setFill .rest u)
  rw [Bool.toNat_true] at planned
  (repeat' split) <;> omega

theorem rest_fillFollows (t : State) : restBudget (fillFollows t) ≤ restBudget t + 36 := by
  have causes := rest_takeCauses t
  have ends := rest_reliefEnd (takeCauses t)
  unfold fillFollows
  split <;> omega

theorem rest_fillGranted (t : State) : restBudget (fillGranted t) = restBudget t := by
  unfold fillGranted
  split
  next claim => exact rest_setFill_holds (by rw [claim]; rfl) rfl
  next claim => exact rest_setFill_holds (by rw [claim]; rfl) rfl
  next => rfl

theorem rest_fillLost (t : State) : restBudget (fillLost t) = restBudget t := by
  unfold fillLost
  split
  next fill => exact rest_setFill_holds (by rw [fill]; rfl) rfl
  next fill => exact rest_setFill_holds (by rw [fill]; rfl) rfl
  next => rfl

theorem rest_fillOrders (t : State) : restBudget (fillOrders t) ≤ restBudget t + 35 := by
  have permits : restBudget (applyPermits t) ≤ restBudget t + 2 := by
    have ends := rest_setFill_rests (new := .rest) rfl t
    unfold applyPermits
    dsimp only
    split
    · exact (rest_reliefEnd _).trans (by omega)
    · exact (rest_reliefEnd _).trans (by omega)
  have planned := rest_planAndStep false (applyPermits t)
  rw [Bool.toNat_false] at planned
  unfold fillOrders
  omega

/-! ### The situation table -/

/-- Where the hand-ons and the own claims stay, the chances and the frost controller's part move the budget. -/
theorem rest_of_parts (hands : t.handOns = s.handOns) (supply : own .supply t = own .supply s) (load : own .load t = own .load s) :
    restBudget t + (chances s + frostBudget s) = restBudget s + (chances t + frostBudget t) := by
  have charged : charge t = charge s := by unfold charge; rw [hands]
  rw [restBudget_eq, restBudget_eq s, supply, load, charged]
  omega

/-- Whatever the frost controller is to do, no stage is the more idle for it. -/
theorem frostBudget_le_idle (s : State) : 2 * idleStages s ≤ frostBudget s ∧ frostBudget s ≤ 2 * idleStages s + 92 := by
  have cover := coverBudget_le s
  have ask := Bool.toNat_le (askStale s)
  have frost := Bool.toNat_le (frostStale s)
  rw [frostBudget_eq]
  unfold firmBudget
  omega

/-- Orders taken and handed on. -/
def ordersTaken (o : Orders) (s : State) : State :=
  emit .orders { s with stu := { s.stu with pendingFlag := false, orders := some o, changeCount := s.stu.changeCount + 1 } }

theorem rest_ordersTaken (o : Orders) (s : State) :
    restBudget (ordersTaken o s) + 180 * (2 - s.stu.changeCount) ≤ restBudget s + 152 + 180 * (2 - (s.stu.changeCount + 1)) := by
  unfold ordersTaken
  generalize taken : { s with stu := { s.stu with pendingFlag := false, orders := some o, changeCount := s.stu.changeCount + 1 } } = t
  have idle : idleStages t = idleStages s := by rw [← taken]; rfl
  have chance : chances t + 180 * (2 - s.stu.changeCount) = chances s + 180 * (2 - (s.stu.changeCount + 1)) := by
    rw [← taken]; unfold chances; dsimp only; omega
  have moved := rest_of_parts (t := t) (s := s) (by rw [← taken]) (by rw [← taken]; rfl) (by rw [← taken]; rfl)
  obtain ⟨_, after⟩ := frostBudget_le_idle t
  obtain ⟨before, _⟩ := frostBudget_le_idle s
  rw [rest_emit, show HandOn.orders.cost = 60 from rfl]
  omega

theorem evaluateSituation_cases (s : State) : evaluateSituation s = { s with stu := { s.stu with pendingFlag := false } } ∨
    ∃ o, evaluateSituation s = ordersTaken o s := by
  unfold evaluateSituation
  dsimp only
  split
  · exact .inl rfl
  · exact .inr ⟨_, rfl⟩

theorem rest_evaluateSituation (s : State) : restBudget (evaluateSituation s) ≤ restBudget s + 152 := by
  rcases evaluateSituation_cases s with is | ⟨o, is⟩ <;> rw [is]
  · simp
  · have taken := rest_ordersTaken o s
    omega

/-- A situation change adds nothing: the orders change it may bring is one of those R172 still allows. -/
theorem rest_takeKey (key : KeyBits) (s : State) : restBudget (takeKey key s) ≤ restBudget s := by
  unfold takeKey situationChange
  dsimp only
  split
  · split
    · exact le_rfl
    · split
      next few =>
        have keyed : restBudget { s with stu := { s.stu with key := key } } = restBudget s := by simp
        have allowed : ({ s with stu := { s.stu with key := key } } : State).stu.changeCount < 2 := few
        generalize { s with stu := { s.stu with key := key } } = u at keyed allowed ⊢
        rcases evaluateSituation_cases u with is | ⟨o, is⟩ <;> rw [is]
        · simp [keyed]
        · have taken := rest_ordersTaken o u
          omega
      next => simp
  · exact le_rfl

theorem rest_reportOrders (s : State) : restBudget (reportOrders s) ≤ restBudget s + 1 := by
  unfold reportOrders
  split
  · exact (rest_dueEvent _).trans (by simp)
  · omega

/-! ### Questions -/

/-- The next question costs its place in the queue, and no longer waits. -/
theorem rest_askNext (s : State) : restBudget (askNext s) ≤ restBudget s := by
  unfold askNext
  split
  · exact le_rfl
  · split
    · exact le_rfl
    next q qs waiting =>
      refine (rest_queueNotice _ _ _).trans ?_
      generalize asked : { s with clu := { s.clu with inFlight := some q, questions := qs } } = t
      have frost : frostBudget t = frostBudget s := by rw [← asked]; exact frostBudget_congr rfl rfl
      have chance : chances t + 4 = chances s := by
        rw [← asked]; unfold chances; rw [waiting, List.length_cons]; dsimp only; omega
      have moved := rest_of_parts (t := t) (s := s) (by rw [← asked]) (by rw [← asked]; rfl) (by rw [← asked]; rfl)
      omega

theorem rest_markAnswered (q : Question) (s : State) : restBudget (markAnswered q s) = restBudget s := by
  unfold markAnswered
  split <;> simp

/-- The end of the joining pays for all that it hands on. -/
theorem rest_becomeJoined (joining : s.sld.mode = .joining) : restBudget (becomeJoined s) + 56 ≤ restBudget s := by
  unfold becomeJoined
  dsimp only
  generalize joined : { s with sld := { s.sld with mode := .joined }, clu := { s.clu with answer := none, listening := none } } = t
  have frost : frostBudget t = frostBudget s := by rw [← joined]; exact frostBudget_congr rfl rfl
  have chance : chances t + 100 = chances s := by
    rw [← joined]
    unfold chances
    rw [joining]
    show _ + 100 * 0 + _ + 100 = _ + 100 * 1 + _
    dsimp only
    omega
  have moved := rest_of_parts (t := t) (s := s) (by rw [← joined]) (by rw [← joined]; rfl) (by rw [← joined]; rfl)
  have follows := rest_fillFollows (emit .frostEvaluate (emit (.reexamine .load) (emit (.reexamine .supply) (handField .joined t))))
  rw [rest_emit, rest_emit, rest_emit, rest_handField] at follows
  simp only [HandOn.cost] at follows
  omega

theorem rest_questionDone (q : Question) (s : State) : restBudget (questionDone q s) ≤ restBudget s := by
  have cleared : restBudget { s with clu := { s.clu with inFlight := none } } = restBudget s := by simp
  have asked := rest_askNext (markAnswered q { s with clu := { s.clu with inFlight := none } })
  rw [rest_markAnswered, cleared] at asked
  unfold questionDone joinIfAnswered
  split
  next answered =>
    have joined := rest_becomeJoined answered.1
    omega
  next => exact asked

/-! ### The hand-ons -/

theorem rest_follow (s : State) : restBudget (follow s) = restBudget s := restBudget_congr rfl rfl rfl rfl rfl rfl rfl

/-- A hand-on taken from the front pays its own part. -/
theorem rest_taken {h : HandOn} {l : List HandOn} (front : s.handOns = h :: l) :
    restBudget { s with handOns := l } + h.cost = restBudget s := by
  rw [restBudget_eq, restBudget_eq s, frostBudget_congr (t := { s with handOns := l }) (s := s) rfl rfl]
  unfold charge
  rw [front, List.map_cons, List.sum_cons]
  show (l.map HandOn.cost).sum + chances s + _ + lossOf (own .supply s) + lossOf (own .load s) + _ = _
  omega

/-- What a hand-on leads to stays below its own part. -/
theorem rest_takeHandOn (h : HandOn) (s : State) : restBudget (takeHandOn h s) < restBudget s + h.cost := by
  unfold takeHandOn
  cases h with
  | fillLost => exact Nat.lt_succ_of_le (rest_fillLost s).le
  | fillGranted => exact Nat.lt_succ_of_le (rest_fillGranted s).le
  | frostEvaluate => exact Nat.lt_succ_of_le (rest_frostEvaluate s)
  | reexamine r =>
    have examined := rest_reexamineNow r s
    simp only [HandOn.cost]
    omega
  | questionDropped q =>
    have done := rest_questionDone q s
    simp only [HandOn.cost]
    unfold questionWasDropped
    split <;> omega
  | situation f v => exact Nat.lt_succ_of_le (rest_takeKey _ s)
  | slack v => exact Nat.lt_succ_of_le (rest_takeKey _ s)
  | orders =>
    have filled := rest_fillOrders s
    have evaluated := rest_frostEvaluate (fillOrders s)
    have reported := rest_reportOrders (frostEvaluate (fillOrders s))
    simp only [HandOn.cost]
    unfold takeOrders
    omega

/-- Each hand-on taken lowers the budget. -/
theorem handOnsLower : HandOnsLower := by
  intro s h l front
  have paid := rest_taken front
  have taken := rest_takeHandOn h { s with handOns := l }
  rw [rest_follow]
  omega

end

end Sys2Proof.Machine
end

section
/-! PROOFS. The budget of an event through the fault unit, the latches, the stages' channels and the guard. -/

namespace Sys2Proof.Machine

section
variable {s t : State}

/-! ### What a change of the frost controller or of the own claims can add -/

theorem frostBudget_le_whole (s : State) : frostBudget s ≤ 100 := by
  have firm := firmBudget_le s
  have cover := coverBudget_le s
  rw [frostBudget_eq]
  omega

/-- A change of what an evaluation reads. -/
theorem rest_of_frost (hands : t.handOns = s.handOns) (chance : chances t = chances s)
    (supply : own .supply t = own .supply s) (load : own .load t = own .load s) : restBudget t ≤ restBudget s + 100 := by
  have parts := rest_of_parts hands supply load
  have whole := frostBudget_le_whole t
  omega

/-- A change of the own claims, and of what an evaluation reads. -/
theorem rest_of_claims (hands : charge t = charge s) (chance : chances t = chances s) : restBudget t ≤ restBudget s + 196 := by
  have whole := frostBudget_le_whole t
  have supply := lossOf_le (own .supply t)
  have load := lossOf_le (own .load t)
  rw [restBudget_eq, restBudget_eq, hands, chance]
  omega

theorem rest_frc (f : Frost) (s : State) : restBudget { s with frc := f } ≤ restBudget s + 100 := rest_of_frost rfl rfl rfl rfl

/-- What each member of a list adds, all of them add. -/
theorem rest_foldl {α : Type} {f : State → α → State} {n : Nat} (each : ∀ t x, restBudget (f t x) ≤ restBudget t + n)
    (l : List α) (s : State) : restBudget (l.foldl f s) ≤ restBudget s + n * l.length := by
  induction l generalizing s with
  | nil => exact Nat.le_add_right _ _
  | cons x l ih =>
    have head := each s x
    have tail := ih (f s x)
    rw [List.foldl_cons, List.length_cons, Nat.mul_add]
    omega

/-! ### The STOP demand -/

theorem rest_announceStop (t : State) : restBudget (announceStop t) ≤ restBudget t + 1 := by
  unfold announceStop
  grind [rest_queueNotice, rest_blocks]

theorem rest_stopOn (cause : StopCause) (t : State) : restBudget (stopOn cause t) ≤ restBudget t + 1 := by
  unfold stopOn
  dsimp only
  (repeat' split) <;> grind [rest_announceStop, rest_blocks]

theorem rest_stopOff (t : State) : restBudget (stopOff t) ≤ restBudget t + 1 := by
  unfold stopOff
  (repeat' split) <;> grind [rest_announceStop, rest_blocks]

theorem rest_stopForSafeHold (t : State) : restBudget (stopForSafeHold t) ≤ restBudget t + 1 := by
  unfold stopForSafeHold
  split <;> grind [rest_announceStop, rest_stopOn, rest_blocks]

/-! ### The fault unit -/

theorem rest_announceHold (c : FaultCode) (t : State) : restBudget (announceHold c t) ≤ restBudget t + 1 := by
  unfold announceHold
  split <;> grind [rest_queueNotice]

theorem rest_enterSafeHold (t : State) : restBudget (enterSafeHold t) ≤ restBudget t + 2 := by
  unfold enterSafeHold
  grind [rest_queueNotice, rest_stopForSafeHold, rest_blocks]

theorem rest_enterFault (c : FaultCode) (t : State) : restBudget (enterFault c t) ≤ restBudget t + 3 := by
  unfold enterFault
  dsimp only
  split <;> grind [rest_announceHold, rest_enterSafeHold, rest_blocks]

theorem rest_leaveFault (c : FaultCode) (t : State) : restBudget (leaveFault c t) ≤ restBudget t + 1 := by
  unfold leaveFault
  grind [rest_announceHold, rest_blocks]

theorem rest_raiseCondition (c : FaultCode) (t : State) : restBudget (raiseCondition c t) ≤ restBudget t + 3 := by
  unfold raiseCondition
  dsimp only
  (repeat' split) <;> grind [rest_enterFault, rest_blocks]

theorem rest_clearCondition (c : FaultCode) (t : State) : restBudget (clearCondition c t) ≤ restBudget t + 1 := by
  unfold clearCondition
  dsimp only
  (repeat' split) <;> grind [rest_leaveFault, rest_blocks]

theorem rest_setCondition (c : FaultCode) (present : Bool) (t : State) : restBudget (setCondition c present t) ≤ restBudget t + 3 := by
  unfold setCondition
  split <;> grind [rest_raiseCondition, rest_clearCondition]

theorem rest_ackCode (c : FaultCode) (t : State) : restBudget (ackCode c t) ≤ restBudget t + 1 := by
  unfold ackCode
  (repeat' split) <;> grind [rest_leaveFault, rest_blocks]

theorem rest_ackFaults (t : State) : restBudget (ackFaults t) ≤ restBudget t + 3 :=
  rest_foldl (fun t c => rest_ackCode c t) holdCodes t

/-! ### The latches -/

theorem rest_announceLatch (l : Latch) (t : State) : restBudget (announceLatch l t) ≤ restBudget t + 2 := by
  unfold announceLatch
  grind [rest_queueNotice, rest_handField, rest_changeSeen]

theorem rest_setLatch (l : Latch) (t : State) : restBudget (setLatch l t) ≤ restBudget t + 2 := by
  unfold setLatch
  split <;> grind [rest_announceLatch, rest_blocks]

theorem rest_clearLatch (l : Latch) (t : State) : restBudget (clearLatch l t) ≤ restBudget t + 2 := by
  unfold clearLatch
  grind [rest_announceLatch, rest_blocks]

theorem rest_ackLatch (l : Latch) (t : State) : restBudget (ackLatch l t) ≤ restBudget t + 2 := by
  unfold ackLatch
  (repeat' split) <;> grind [rest_clearLatch, rest_blocks]

theorem rest_causeEnded (l : Latch) (t : State) : restBudget (causeEnded l t) ≤ restBudget t + 2 := by
  unfold causeEnded
  split <;> grind [rest_clearLatch]

theorem rest_singleSettle (l : Latch) (now : Bool) (t : State) : restBudget (singleSettle l now t) ≤ restBudget t + 2 := by
  unfold singleSettle
  split <;> grind [rest_setLatch, rest_causeEnded]

theorem rest_frostMember (now : Bool) (t : State) : restBudget (frostMember now t) ≤ restBudget t + 2 := by
  unfold frostMember
  dsimp only
  (repeat' split) <;> grind [rest_setLatch, rest_causeEnded, rest_blocks]

theorem rest_tripMemberActive (t : State) : restBudget (tripMemberActive t) ≤ restBudget t + 2 := by
  unfold tripMemberActive
  dsimp only
  split <;> grind [rest_setLatch, rest_blocks]

theorem rest_tripMembersInactive (t : State) : restBudget (tripMembersInactive t) ≤ restBudget t + 2 := by
  unfold tripMembersInactive
  split <;> grind [rest_causeEnded, rest_blocks]

/-! ### The stages' channels -/

theorem rest_setStage (k : Fin 4) (x : Stage) (t : State) : restBudget (setStage k x t) ≤ restBudget t + 100 :=
  rest_of_frost rfl rfl rfl rfl

theorem rest_setFailed (v : Vector Bool 4) (t : State) : restBudget (setFailed v t) ≤ restBudget t + 100 :=
  rest_of_frost rfl rfl rfl rfl

theorem cost_frostEvaluate : HandOn.cost .frostEvaluate = 1 := rfl

theorem rest_failStage (k : Fin 4) (t : State) : restBudget (failStage k t) ≤ restBudget t + 206 := by
  unfold failStage
  grind [rest_setStage, rest_tripMemberActive, rest_raiseCondition, rest_setFailed, rest_emit, cost_frostEvaluate]

theorem rest_moveStage (k : Fin 4) (x : Stage) (t : State) : restBudget (moveStage k x t) ≤ restBudget t + 101 := by
  unfold moveStage
  grind [rest_setStage, rest_emit, cost_frostEvaluate]

theorem rest_feedbackSettles (k : Fin 4) (now : Bool) (t : State) : restBudget (feedbackSettles k now t) ≤ restBudget t + 206 := by
  unfold feedbackSettles
  dsimp only
  (repeat' split) <;> grind [rest_failStage, rest_moveStage]

theorem rest_proofExpires (k : Fin 4) (t : State) : restBudget (proofExpires k t) ≤ restBudget t + 206 := by
  unfold proofExpires
  dsimp only
  (repeat' split) <;> grind [rest_failStage, rest_moveStage]

theorem rest_restoreStage (k : Fin 4) (t : State) : restBudget (restoreStage k t) ≤ restBudget t + 101 := by
  unfold restoreStage
  split <;> grind [rest_moveStage]

theorem rest_stageHealth (t : State) : restBudget (stageHealth t) ≤ restBudget t + 1332 := by
  have restored := rest_foldl (fun t k => rest_restoreStage k t) allStages
  rw [show allStages.length = 4 from rfl] at restored
  unfold stageHealth
  dsimp only
  split
  · rw [rest_emit, cost_frostEvaluate]
    refine (Nat.add_le_add_right (rest_foldl (n := 206) (fun u k => ?_) allStages _) 1).trans ?_
    · split
      · exact rest_failStage k u
      · omega
    · rw [show allStages.length = 4 from rfl]
      grind [rest_setFailed, rest_clearCondition, rest_tripMembersInactive]
  · omega

theorem rest_ackLatches (ls : List Latch) (t : State) (few : ls.length ≤ 6) : restBudget (ackLatches ls t) ≤ restBudget t + 1344 := by
  have latches := rest_foldl (fun t l => rest_ackLatch l t) ls t
  unfold ackLatches
  dsimp only
  split <;> grind [rest_stageHealth]

/-! ### The guard -/

theorem rest_setGuard (g : GuardState) (t : State) : restBudget (setGuard g t) ≤ restBudget t + 1 := by
  unfold setGuard
  grind [rest_handField, rest_changeSeen, rest_blocks]

theorem rest_endDemand (t : State) : restBudget (endDemand t) ≤ restBudget t + 2 := by
  unfold endDemand
  (repeat' split) <;> grind [rest_clearCondition, rest_stopOff]

theorem rest_announceSpill (t : State) : restBudget (announceSpill t) ≤ restBudget t + 1 := by
  unfold announceSpill
  grind [rest_queueNotice, rest_blocks]

theorem rest_enterSpill (t : State) : restBudget (enterSpill t) ≤ restBudget t + 3 := by
  unfold enterSpill
  grind [rest_announceSpill, rest_stopOn, rest_setGuard, rest_blocks]

theorem rest_enterCut (t : State) : restBudget (enterCut t) ≤ restBudget t + 1 := by
  unfold enterCut
  grind [rest_setGuard, rest_blocks]

theorem rest_enterShut (t : State) : restBudget (enterShut t) ≤ restBudget t + 1 := by
  unfold enterShut
  grind [rest_setGuard, rest_blocks]

theorem rest_shutToWatch (t : State) : restBudget (shutToWatch t) ≤ restBudget t + 1 := by
  unfold shutToWatch
  grind [rest_setGuard, rest_blocks]

theorem rest_holdToWatch (t : State) : restBudget (holdToWatch t) ≤ restBudget t + 4 := by
  unfold holdToWatch
  dsimp only
  split <;> grind [rest_setGuard, rest_endDemand, rest_clearCondition, rest_blocks]

theorem rest_calmUrgency (t : State) : restBudget (calmUrgency t) = restBudget t := by
  unfold calmUrgency
  (repeat' split) <;> simp

theorem rest_leaveSpill (t : State) : restBudget (leaveSpill t) ≤ restBudget t + 4 := by
  unfold leaveSpill
  dsimp only
  (repeat' split) <;>
    grind [rest_announceSpill, rest_stopOn, rest_calmUrgency, rest_setGuard, rest_endDemand, rest_enterShut, rest_enterCut]

theorem rest_guardMove {ovfOnset : Bool} (moves : guardMove ovfOnset s = some t) : restBudget t ≤ restBudget s + 4 := by
  unfold guardMove at moves
  (repeat' split at moves) <;> injections <;> subst t <;>
    grind [rest_enterSpill, rest_enterShut, rest_enterCut, rest_endDemand, rest_shutToWatch, rest_holdToWatch, rest_leaveSpill]

theorem rest_guardPass (n : Nat) (t : State) : restBudget (guardPass n t) ≤ restBudget t + 4 * n := by
  induction n generalizing t with
  | zero => exact Nat.le_refl _
  | succ n ih =>
    unfold guardPass
    split
    · omega
    next u moves =>
      have move := rest_guardMove moves
      have passed := ih u
      omega

theorem guardPassBound_eq : Config.guardPassBound = 3 := rfl

theorem rest_guardExamine (ovfOnset : Bool) (t : State) : restBudget (guardExamine ovfOnset t) ≤ restBudget t + 16 := by
  unfold guardExamine
  split
  · omega
  next u moves =>
    have move := rest_guardMove moves
    have passed := rest_guardPass Config.guardPassBound u
    rw [guardPassBound_eq] at passed ⊢
    omega

theorem rest_guardSample (t : State) : restBudget (guardSample t) ≤ restBudget t + 16 := by
  unfold guardSample
  dsimp only
  (repeat' split) <;> grind [rest_guardExamine, rest_blocks]

theorem rest_strokeExpires (t : State) : restBudget (strokeExpires t) ≤ restBudget t + 17 := by
  unfold strokeExpires
  grind [rest_guardPass, rest_raiseCondition, rest_stopOn, rest_setGuard, rest_blocks, guardPassBound_eq]

theorem rest_leakCheck (t : State) : restBudget (leakCheck t) ≤ restBudget t + 17 := by
  unfold leakCheck
  dsimp only
  (repeat' split) <;> grind [rest_guardPass, rest_raiseCondition, rest_stopOn, rest_setGuard, rest_blocks, guardPassBound_eq]

theorem rest_floatCheck (t : State) : restBudget (floatCheck t) ≤ restBudget t + 3 := by
  unfold floatCheck
  dsimp only
  (repeat' split) <;> grind [rest_raiseCondition, rest_clearCondition, rest_blocks]

theorem rest_reofferOwed (t : State) : restBudget (reofferOwed t) ≤ restBudget t + 2 := by
  unfold reofferOwed
  dsimp only
  (repeat' split) <;> grind [rest_queueNotice]

theorem rest_guardMinute (t : State) : restBudget (guardMinute t) ≤ restBudget t + 22 := by
  unfold guardMinute
  grind [rest_reofferOwed, rest_floatCheck, rest_leakCheck]

theorem rest_examineConfirmation (t : State) : restBudget (examineConfirmation t) ≤ restBudget t + 1 := by
  unfold examineConfirmation
  (repeat' split) <;> grind [rest_clearCondition, rest_blocks]

theorem rest_stopSent (on : Bool) (cause : Nat) (t : State) : restBudget (stopSent on cause t) ≤ restBudget t + 1 := by
  unfold stopSent
  dsimp only
  (repeat' split) <;> grind [rest_examineConfirmation, rest_blocks]

theorem rest_spillAlarmSent (set : Bool) (t : State) : restBudget (spillAlarmSent set t) = restBudget t := by
  unfold spillAlarmSent
  split <;> simp

theorem rest_confirmExpires (t : State) : restBudget (confirmExpires t) ≤ restBudget t + 4 := by
  unfold confirmExpires
  grind [rest_raiseCondition, rest_queueNotice, rest_blocks]

end

end Sys2Proof.Machine
end

section
/-! PROOFS. The budget of an event through the fill controller, the samples and the minute mark. -/

namespace Sys2Proof.Machine

section
variable {s t : State}

/-! ### The fill controller -/

theorem rest_msu (m : Measure) (s : State) : restBudget { s with msu := m } ≤ restBudget s + 100 := rest_of_frost rfl rfl rfl rfl

theorem cost_reexamine (r : Resource) : HandOn.cost (.reexamine r) = 3 := rfl

theorem rest_withdrawTurnover (t : State) : restBudget (withdrawTurnover t) ≤ restBudget t + 128 := by
  unfold withdrawTurnover
  dsimp only
  (repeat' split) <;> grind [rest_setFill, rest_frc]

theorem rest_fillSample (t : State) : restBudget (fillSample t) ≤ restBudget t + 191 := by
  have causes := rest_takeCauses t
  unfold fillSample
  dsimp only
  (repeat' split) <;> grind [rest_setFill, rest_withdrawTurnover, rest_reliefEnd]

theorem rest_fillPosition (old new : Position) (t : State) : restBudget (fillPosition old new t) ≤ restBudget t + 37 := by
  unfold fillPosition
  dsimp only
  (repeat' split) <;> grind [rest_fillFollows, rest_clearCondition, rest_blocks]

theorem rest_openExpires (t : State) : restBudget (openExpires t) ≤ restBudget t + 39 := by
  unfold openExpires
  grind [rest_fillFollows, rest_raiseCondition, rest_blocks]

theorem rest_clearingExpires (t : State) : restBudget (clearingExpires t) ≤ restBudget t + 37 := by
  unfold clearingExpires
  grind [rest_fillFollows, rest_clearCondition, rest_blocks]

theorem rest_learnStep (t : State) : restBudget (learnStep t) = restBudget t := by simp [learnStep]

theorem rest_setPeriod (night : Bool) (elapsed : Nat) (t : State) : restBudget (setPeriod night elapsed t) ≤ restBudget t + 1 := by
  unfold setPeriod
  dsimp only
  split <;> grind [rest_handField, rest_blocks]

theorem rest_dayEndsTariff (t : State) : restBudget (dayEndsTariff t) ≤ restBudget t + 28 := by
  unfold dayEndsTariff
  split <;> grind [rest_setFill]

theorem rest_tariffChange (t : State) : restBudget (tariffChange t) ≤ restBudget t + 62 := by
  have planned := rest_replan true t
  rw [Bool.toNat_true] at planned
  unfold tariffChange
  dsimp only
  split <;> grind [rest_planStep, rest_handUrgency, rest_dayEndsTariff]

theorem rest_takePeriod (night : Bool) (elapsed : Nat) (t : State) : restBudget (takePeriod night elapsed t) ≤ restBudget t + 63 := by
  unfold takePeriod
  split <;> grind [rest_setPeriod, rest_tariffChange]

theorem rest_tariffContact (now : Bool) (t : State) : restBudget (tariffContact now t) ≤ restBudget t + 64 := by
  unfold tariffContact
  split <;> grind [rest_takePeriod, rest_queueNotice]

theorem rest_tariffHeard (night : Bool) (elapsed : Nat) (t : State) : restBudget (tariffHeard night elapsed t) ≤ restBudget t + 63 := by
  unfold tariffHeard
  (repeat' split) <;> grind [rest_takePeriod, rest_blocks]

theorem rest_tariffCount (t : State) : restBudget (tariffCount t) ≤ restBudget t + 1 := by
  unfold tariffCount
  dsimp only
  (repeat' split) <;> grind [rest_queueNotice, rest_blocks]

theorem rest_fillMinute (t : State) : restBudget (fillMinute t) ≤ restBudget t + 35 := by
  have counted := rest_tariffCount t
  have learnt := rest_learnStep (tariffCount t)
  have planned := rest_planAndStep true (learnStep (tariffCount t))
  rw [Bool.toNat_true] at planned
  unfold fillMinute
  dsimp only
  split <;> omega

theorem rest_nightTimesOut (t : State) : restBudget (nightTimesOut t) ≤ restBudget t + 63 := by
  have planned := rest_planAndStep true { t with flc := { t.flc with nightTimeoutDue := false } }
  rw [Bool.toNat_true] at planned
  unfold nightTimesOut
  dsimp only
  split <;> grind [rest_takePeriod, rest_blocks]

/-! ### The frost controller -/

theorem rest_frostJudge (t : State) : restBudget (frostJudge t) ≤ restBudget t + 100 := by
  unfold frostJudge
  dsimp only
  split <;> grind [rest_frostEvaluate, rest_frc]

theorem rest_sampleWishes (t : State) : restBudget (sampleWishes t) ≤ restBudget t + 100 := by
  unfold sampleWishes
  split <;> grind [rest_frc]

theorem rest_turnoverWarm (t : State) : restBudget (turnoverWarm t) ≤ restBudget t + 128 := by
  unfold turnoverWarm
  split <;> grind [rest_withdrawTurnover]

theorem rest_frostSample (t : State) : restBudget (frostSample t) ≤ restBudget t + 328 := by
  unfold frostSample
  grind [rest_frostEvaluate, rest_sampleWishes, rest_turnoverWarm, rest_frc]

theorem rest_stagnationMinute (t : State) : restBudget (stagnationMinute t) ≤ restBudget t + 100 := rest_frc _ t

theorem rest_stagnationEnds (t : State) : restBudget (stagnationEnds t) ≤ restBudget t + 100 := rest_frc _ t

/-! ### The second event -/

theorem rest_samplePressure (p : AnalogCode) (t : State) : restBudget (samplePressure p t) ≤ restBudget t + 103 := by
  unfold samplePressure
  split <;> grind [rest_clearCondition, rest_raiseCondition, rest_msu]

theorem rest_sampleTemperatures (tw tr ta : AnalogCode) (t : State) :
    restBudget (sampleTemperatures tw tr ta t) ≤ restBudget t + 109 := by
  unfold sampleTemperatures
  grind [rest_setCondition, rest_msu]

theorem rest_sampleTaken (t : State) : restBudget (sampleTaken t) ≤ restBudget t + 536 := by
  unfold sampleTaken
  grind [rest_frostSample, rest_fillSample, rest_guardSample, rest_handField]

theorem rest_takePending (t : State) : restBudget (takePending t) ≤ restBudget t + 152 := by
  unfold takePending
  split <;> grind [rest_evaluateSituation]

theorem rest_takeSamples (p tw tr ta : AnalogCode) (t : State) : restBudget (takeSamples p tw tr ta t) ≤ restBudget t + 900 := by
  unfold takeSamples
  grind [rest_sampleTaken, rest_sampleTemperatures, rest_samplePressure, rest_takePending]

/-- The claim unit's records as they count. -/
theorem rest_countClaims (t : State) : restBudget (countClaims t) ≤ restBudget t + 196 := by
  have tables : restBudget (countTable .load (countTable .supply t)) = restBudget t := by simp [countTable]
  unfold countClaims
  dsimp only
  generalize countTable .load (countTable .supply t) = u at tables ⊢
  rw [← tables]
  exact rest_of_claims rfl rfl

theorem rest_countReport (t : State) : restBudget (countReport t) = restBudget t := restBudget_congr rfl rfl rfl rfl rfl rfl rfl

theorem rest_countTimers (t : State) : restBudget (countTimers t) ≤ restBudget t + 196 := by
  have counted := (rest_countReport (countClaims t)).trans_le (rest_countClaims t)
  unfold countTimers
  dsimp only
  generalize countReport (countClaims t) = u at counted ⊢
  refine Nat.le_trans (Nat.le_of_eq ?_) counted
  exact restBudget_congr rfl rfl rfl rfl rfl rfl rfl

theorem rest_secondPasses (p tw tr ta : AnalogCode) (t : State) : restBudget (secondPasses p tw tr ta t) ≤ restBudget t + 1196 := by
  have counted : restBudget (countSecond t) ≤ restBudget t + 100 := rest_msu _ t
  unfold secondPasses
  dsimp only
  split <;> grind [rest_takeSamples, rest_countTimers]

/-! ### The minute mark -/

theorem rest_changeRule (t : State) : restBudget (changeRule t) ≤ restBudget t + 1 := by
  unfold changeRule
  split <;> grind [rest_dueEvent, rest_blocks]

theorem rest_minutePasses (t : State) : restBudget (minutePasses t) ≤ restBudget t + 294 := by
  unfold minutePasses markJobs
  dsimp only
  split <;> grind [rest_stagnationMinute, rest_fillFollows, rest_guardMinute, rest_fillMinute, rest_changeRule, rest_msu]

end

end Sys2Proof.Machine
end

section
/-! PROOFS. The budget of an event through the peer table, the claims of others, the own claims' timers and the line. -/

namespace Sys2Proof.Machine

section
variable {s t : State}

/-! ### The claims -/

/-- Any change of an own claim. -/
theorem rest_setOwn_any (r : Resource) (c : OwnClaim) (t : State) : restBudget (setOwn r c t) ≤ restBudget t + 70 := by
  have change := rest_setOwn r c t
  have loss := lossOf_le c
  omega

theorem rest_loseOwn_any (r : Resource) (releases : Bool) (t : State) : restBudget (loseOwn r releases t) ≤ restBudget t + 27 :=
  (Nat.le_add_right _ _).trans (rest_loseOwn r releases t)

theorem rest_yieldOwn (r : Resource) (l : List Nat) (t : State) : restBudget (yieldOwn r l t) ≤ restBudget t + 27 := by
  unfold yieldOwn
  split <;> grind [rest_loseOwn_any]

theorem rest_takeCapacity (before : Nat) (t : State) : restBudget (takeCapacity before t) ≤ restBudget t + 30 := by
  unfold takeCapacity
  (repeat' split) <;> grind [rest_emit, cost_reexamine, rest_yieldOwn]

theorem rest_removeEntry (r : Resource) (n : Nat) (t : State) : restBudget (removeEntry r n t) ≤ restBudget t + 3 := by
  unfold removeEntry
  split <;> grind [rest_emit, cost_reexamine, rest_setEntry]

theorem rest_object (r : Resource) (n : Nat) (t : State) : restBudget (object r n t) ≤ restBudget t + 1 := by
  unfold object
  dsimp only
  (repeat' split) <;> grind [rest_queueNotice]

theorem rest_enterInitial (r : Resource) (n a u : Nat) (t : State) : restBudget (enterInitial r n a u t) = restBudget t := by
  simp [enterInitial]

theorem rest_initialHeard (r : Resource) (n a u : Nat) (t : State) : restBudget (initialHeard r n a u t) ≤ restBudget t + 30 := by
  unfold initialHeard
  dsimp only
  split <;> grind [rest_emit, cost_reexamine, rest_enterInitial, rest_object, rest_yieldOwn]

theorem rest_refreshHeard (r : Resource) (n a u : Nat) (t : State) : restBudget (refreshHeard r n a u t) ≤ restBudget t + 3 := by
  unfold refreshHeard
  grind [rest_emit, cost_reexamine, rest_setEntry]

theorem rest_claimHeard (r : Resource) (refresh : Bool) (n a u : Nat) (t : State) :
    restBudget (claimHeard r refresh n a u t) ≤ restBudget t + 30 := by
  unfold claimHeard
  (repeat' split) <;> grind [rest_removeEntry, rest_refreshHeard, rest_initialHeard]

theorem rest_claimSent (r : Resource) (refresh : Bool) (a u : Nat) (t : State) :
    restBudget (claimSent r refresh a u t) ≤ restBudget t + 73 := by
  unfold claimSent
  dsimp only
  (repeat' split) <;>
    grind [rest_emit, cost_reexamine, rest_setEntry, rest_setTable, rest_setOwn_any, rest_ownEntryUrgency]

theorem rest_tellGranted (r : Resource) (t : State) : restBudget (tellGranted r t) = restBudget t + 1 := by
  cases r <;> exact rest_emit _ _

theorem rest_payOwedRefresh (r : Resource) (t : State) : restBudget (payOwedRefresh r t) ≤ restBudget t + 71 := by
  unfold payOwedRefresh
  dsimp only
  split <;> grind [rest_queueNotice, rest_setOwn_any]

theorem rest_grantOwn (r : Resource) (a : Nat) (t : State) : restBudget (grantOwn r a t) ≤ restBudget t + 142 := by
  unfold grantOwn
  grind [rest_payOwedRefresh, rest_tellGranted, rest_setEntry, rest_setOwn_any]

theorem rest_withdrawRaise_any (r : Resource) (t : State) : restBudget (withdrawRaise r t) ≤ restBudget t + 75 := by
  unfold withdrawRaise tellRaiseWithdrawn
  dsimp only
  (repeat' split) <;> grind [rest_emit, cost_reexamine, cost_frostEvaluate, rest_queueNotice, rest_setEntry, rest_setOwn_any]

theorem rest_ownSettleDone (r : Resource) (t : State) : restBudget (ownSettleDone r t) ≤ restBudget t + 142 := by
  unfold ownSettleDone
  dsimp only
  (repeat' split) <;> grind [rest_grantOwn, rest_loseOwn_any, rest_withdrawRaise_any]

theorem rest_refreshLeadReached (r : Resource) (t : State) : restBudget (refreshLeadReached r t) ≤ restBudget t + 71 := by
  unfold refreshLeadReached
  dsimp only
  (repeat' split) <;> grind [rest_queueNotice, rest_setOwn_any]

theorem rest_refreshMissed (r : Resource) (t : State) : restBudget (refreshMissed r t) ≤ restBudget t + 70 := by
  unfold refreshMissed
  dsimp only
  split <;> grind [rest_loseOwn_any, rest_setOwn_any]

theorem rest_releaseForDuplicate (r : Resource) (t : State) : restBudget (releaseForDuplicate r t) ≤ restBudget t + 74 := by
  unfold releaseForDuplicate
  split <;> grind [rest_loseOwn_any, rest_emit, cost_reexamine, rest_queueNotice, rest_setOwn_any]

theorem rest_reconcile (r : Resource) (samples : WindowSamples) (t : State) : restBudget (reconcile r samples t) ≤ restBudget t + 3 := by
  unfold reconcile
  dsimp only
  (repeat' split) <;> grind [rest_emit, cost_reexamine, rest_setTable, rest_setIncomplete]

theorem rest_settlePeer (r : Resource) (n : Nat) (t : State) : restBudget (settlePeer r n t) ≤ restBudget t + 3 := by
  unfold settlePeer
  grind [rest_emit, cost_reexamine, rest_setEntry]

/-! ### The peer table -/

theorem rest_setPeer (n : Nat) (p : Peer) (t : State) : restBudget (setPeer n p t) = restBudget t := by
  unfold setPeer
  split <;> simp

theorem rest_updateSummary (t : State) : restBudget (updateSummary t) ≤ restBudget t + 4 := by
  unfold updateSummary
  dsimp only
  (repeat' split) <;> grind [rest_reliefEnd, rest_reliefStart, rest_handField, rest_changeSeen, rest_blocks]

theorem rest_peersChanged (t : State) : restBudget (peersChanged t) ≤ restBudget t + 34 := by
  unfold peersChanged updateCapacity
  grind [rest_updateSummary, rest_takeCapacity, rest_blocks]

theorem rest_losePeer (n : Nat) (t : State) : restBudget (losePeer n t) ≤ restBudget t + 41 := by
  unfold losePeer
  dsimp only
  split <;> grind [rest_examineConfirmation, rest_peersChanged, rest_removeEntry, rest_setPeer]

theorem rest_writePeer (h : Heard) (t : State) : restBudget (writePeer h t) = restBudget t := by
  unfold writePeer
  dsimp only
  (repeat' split) <;> simp only [rest_setPeer]

/-! ### The line -/

theorem rest_lnu (l : Line) (s : State) : restBudget { s with lnu := l } ≤ restBudget s + 100 := rest_of_frost rfl rfl rfl rfl

theorem rest_abandonSending (t : State) : restBudget (abandonSending t) = restBudget t := by simp [abandonSending]

theorem rest_enterSkip (t : State) : restBudget (enterSkip t) ≤ restBudget t + 100 := rest_lnu _ t

theorem rest_lineError (t : State) : restBudget (lineError t) = restBudget t := by simp [lineError]

theorem rest_discardNotice (t : State) : restBudget (discardNotice t) ≤ restBudget t + 100 := by
  unfold discardNotice
  dsimp only
  split <;> grind [rest_noteOccurrence, rest_lineError, rest_enterSkip, rest_abandonSending]

theorem rest_cancelHead (item : Outgoing) (t : State) : restBudget (cancelHead item t) ≤ restBudget t + 3 := by
  unfold cancelHead
  dsimp only
  split <;> grind [rest_emit, cost_reexamine, rest_claimBackToWaiting, rest_line]

theorem rest_startSending (e : QueueEntry) (t : State) : restBudget (startSending e t) ≤ restBudget t + 100 :=
  rest_of_frost rfl rfl rfl rfl

theorem rest_winSlot (slot n : Nat) (t : State) : restBudget (winSlot slot n t) ≤ restBudget t + (3 * n + 100) := by
  induction n generalizing t with
  | zero => exact Nat.le_add_right _ _
  | succ n ih =>
    unfold winSlot
    dsimp only
    (repeat' split) <;> grind [rest_cancelHead, rest_startSending]

theorem rest_winTime (slot : Nat) (t : State) : restBudget (winTime slot t) ≤ restBudget t + 124 := by
  have slots := rest_winSlot slot 8 { t with lnu := { t.lnu with slot := slot } }
  unfold winTime
  grind [rest_line]

theorem rest_loseEcho (b : Nat) (t : State) : restBudget (loseEcho b t) ≤ restBudget t + 100 := by
  unfold loseEcho
  grind [rest_lnu, rest_noteOccurrence, rest_abandonSending]

theorem rest_failDriver (t : State) : restBudget (failDriver t) ≤ restBudget t + 100 := by
  unfold failDriver
  grind [rest_lineError, rest_enterSkip, rest_abandonSending]

theorem rest_reportSent (body : List Byte) (t : State) : restBudget (reportSent body t) = restBudget t :=
  restBudget_congr rfl rfl rfl rfl rfl rfl rfl

theorem rest_tellSent (o : OnLine) (t : State) : restBudget (tellSent o t) ≤ restBudget t + 73 := by
  unfold tellSent
  split <;> grind [rest_reportSent, rest_claimSent, rest_spillAlarmSent, rest_stopSent]

theorem rest_lineAfterSent (o : OnLine) (t : State) : restBudget (lineAfterSent o t) ≤ restBudget t + 100 := by
  unfold lineAfterSent beginRollCall
  split <;> exact rest_lnu _ t

theorem rest_finishSending (t : State) : restBudget (finishSending t) ≤ restBudget t + 173 := by
  unfold finishSending
  dsimp only
  split <;> grind [rest_lineAfterSent, rest_tellSent, rest_line]

theorem rest_enterLineFault (t : State) : restBudget (enterLineFault t) ≤ restBudget t + 104 := by
  unfold enterLineFault
  grind [rest_emit, cost_frostEvaluate, rest_raiseCondition, rest_lnu, rest_abandonSending]

theorem rest_endDuplicate (t : State) : restBudget (endDuplicate t) ≤ restBudget t + 7 := by
  unfold endDuplicate
  grind [rest_emit, cost_reexamine, rest_clearCondition, rest_line]

/-! ### Questions -/

/-- New questions, two at the most. -/
theorem rest_ask {c : Claims} (two : c.questions.length ≤ 2) (supply : c.ownSupply = t.clu.ownSupply)
    (load : c.ownLoad = t.clu.ownLoad) : restBudget { t with clu := c } ≤ restBudget t + 8 := by
  generalize asked : { t with clu := c } = u
  have load' : own .load u = own .load t := by rw [← asked]; exact load
  have frost : frostBudget u = frostBudget t := by
    refine frostBudget_congr (by rw [← asked]; rfl) ?_
    rw [coveredAmount_eq, coveredAmount_eq, load']
  have chance : chances u ≤ chances t + 8 := by
    rw [← asked]
    unfold chances
    dsimp only
    omega
  have moved := rest_of_parts (t := u) (s := t) (by rw [← asked]) (by rw [← asked]; exact supply) load'
  omega

theorem rest_askAfterFault (t : State) : restBudget (askAfterFault t) ≤ restBudget t + 8 := by
  have few := length_faultQuestions t
  unfold askAfterFault
  split
  · split
    · omega
    next qs _ =>
      exact (rest_askNext _).trans (rest_ask few rfl rfl)
  · omega

theorem rest_leaveLineFault (t : State) : restBudget (leaveLineFault t) ≤ restBudget t + 110 := by
  unfold leaveLineFault
  grind [rest_emit, cost_frostEvaluate, rest_askAfterFault, rest_setIncomplete, rest_clearCondition, rest_lnu]

theorem rest_endListening (t : State) : restBudget (endListening t) ≤ restBudget t + 8 :=
  (rest_askNext _).trans (rest_ask (Nat.le_refl 2) rfl rfl)

theorem rest_endAnswering (joining : t.sld.mode = .joining) : restBudget (endAnswering t) ≤ restBudget t := by
  have kept (r : Resource) (u : State) : (setIncomplete r u).sld = u.sld := by cases r <;> rfl
  have joined (u : State) (same : u.sld = t.sld) (rests : restBudget u = restBudget t) :
      restBudget (becomeJoined u) ≤ restBudget t := by
    have ends := rest_becomeJoined (s := u) (by rw [same]; exact joining)
    omega
  unfold endAnswering
  dsimp only
  (repeat' split) <;> refine joined _ ?_ ?_ <;> simp [kept]

/-! ### The window -/

theorem rest_mapTowers (f : Bool → Peer → Peer) (samples : WindowSamples) (t : State) :
    restBudget (mapTowers f samples t) = restBudget t := by simp [mapTowers]

theorem rest_giveResult (q : Question) (samples : WindowSamples) (t : State) :
    restBudget (giveResult q samples t) ≤ restBudget t + 3 := by
  unfold giveResult alarmResult stoppingResult
  split <;> grind [rest_reconcile, rest_mapTowers]

theorem rest_judgeWindow (c : RollCall) (samples : WindowSamples) (t : State) :
    restBudget (judgeWindow c samples t) ≤ restBudget t + 3 := by
  unfold judgeWindow
  dsimp only
  (repeat' split) <;> grind [rest_giveResult, rest_questionDone, rest_markIncompleteFor, rest_noteOccurrence]

theorem rest_keepSamples (samples : WindowSamples) (t : State) : restBudget (keepSamples samples t) = restBudget t := by
  simp [keepSamples]

theorem rest_endWindow (line : WindowSamples) (t : State) : restBudget (endWindow line t) ≤ restBudget t + 103 := by
  unfold endWindow
  dsimp only
  (repeat' split) <;> grind [rest_judgeWindow, rest_keepSamples, rest_noteOccurrence, rest_lnu]

end

end Sys2Proof.Machine
end

section
/-! PROOFS. The budget of an event through a notice heard, the inputs and the end of loading; the effect of every event is within the
bound. -/

namespace Sys2Proof.Machine

section
variable {s t : State}

/-! ### Notices heard -/

theorem rest_lineAfterHeard (t : State) : restBudget (lineAfterHeard t) ≤ restBudget t + 100 := rest_lnu _ t

theorem rest_beginRollCall (q : Question) (mine : Bool) (t : State) : restBudget (beginRollCall q mine t) ≤ restBudget t + 100 :=
  rest_lnu _ t

theorem rest_heardUnconfigured (h : Heard) (t : State) : restBudget (heardUnconfigured h t) ≤ restBudget t + 100 := by
  unfold heardUnconfigured
  split <;> grind [rest_enterSkip, rest_lineAfterHeard]

theorem rest_beginDuplicate (t : State) : restBudget (beginDuplicate t) ≤ restBudget t + 151 := by
  unfold beginDuplicate
  grind [rest_releaseForDuplicate, rest_raiseCondition]

theorem rest_heardDuplicate (h : Heard) (t : State) : restBudget (heardDuplicate h t) ≤ restBudget t + 351 := by
  unfold heardDuplicate
  dsimp only
  (repeat' split) <;> grind [rest_beginDuplicate, rest_lnu, rest_lineAfterHeard]

theorem length_namedLatches (bits : Nat) : (namedLatches bits).length ≤ 6 := List.length_filter_le _ allLatches

theorem rest_takeAck (target bits : Nat) (faults : Bool) (t : State) : restBudget (takeAck target bits faults t) ≤ restBudget t + 1499 := by
  have acked := rest_ackLatches (namedLatches bits) t (length_namedLatches bits)
  unfold takeAck
  dsimp only
  (repeat' split) <;> grind [rest_fillFollows, rest_frostJudge, rest_guardExamine, rest_ackFaults]

theorem rest_handOn (h : Heard) (t : State) : restBudget (handOn h t) ≤ restBudget t + 1499 := by
  unfold handOn
  (repeat' split) <;>
    grind [rest_claimHeard, rest_removeEntry, rest_tariffHeard, rest_beginRollCall, rest_examineConfirmation, rest_takeAck]

theorem rest_heardPeer (h : Heard) (t : State) : restBudget (heardPeer h t) ≤ restBudget t + 1633 := by
  unfold heardPeer hearSender
  grind [rest_handOn, rest_peersChanged, rest_writePeer, rest_setPeer, rest_lineAfterHeard]

theorem rest_noticeCompleted (chars : List Byte) (t : State) : restBudget (noticeCompleted chars t) ≤ restBudget t + 1633 := by
  unfold noticeCompleted heardValid
  (repeat' split) <;> grind [rest_discardNotice, rest_heardDuplicate, rest_heardPeer, rest_heardUnconfigured]

/-! ### The inputs -/

theorem rest_takePosition (t : State) : restBudget (takePosition t) ≤ restBudget t + 92 := by
  unfold takePosition
  dsimp only
  split <;> grind [rest_fillFollows, rest_fillPosition, rest_guardExamine, rest_setCondition, rest_outputs]

theorem rest_pressAck (t : State) : restBudget (pressAck t) ≤ restBudget t + 1499 := by
  have acked := rest_ackLatches allLatches t (by decide)
  unfold pressAck
  grind [rest_fillFollows, rest_frostJudge, rest_guardExamine, rest_ackFaults]

theorem rest_handSettled (i : ContactInput) (now : Bool) (t : State) : restBudget (handSettled i now t) ≤ restBudget t + 1499 := by
  unfold handSettled
  (repeat' split) <;>
    grind [rest_fillFollows, rest_guardExamine, rest_singleSettle, rest_frostJudge, rest_frostMember, rest_handField,
      rest_tariffContact, rest_pressAck, rest_takePosition, rest_feedbackSettles]

theorem rest_inputSettles (i : ContactInput) (t : State) : restBudget (inputSettles i t) ≤ restBudget t + 1499 := by
  have settles : restBudget (settleInput i t) = restBudget t := by simp [settleInput]
  unfold inputSettles
  grind [rest_handSettled]

theorem rest_followPin (i : ContactInput) (t : State) : restBudget (followPin i t) ≤ restBudget t + 1499 := by
  have raw (now : Bool) (x : Option Nat) : restBudget (setRaw i now x t) = restBudget t := by simp [setRaw]
  unfold followPin
  dsimp only
  (repeat' split) <;> grind [rest_inputSettles]

theorem rest_latchStartUp (i : ContactInput) (t : State) : restBudget (latchStartUp i t) ≤ restBudget t + 2 := by
  unfold latchStartUp
  (repeat' split) <;> grind [rest_singleSettle, rest_frostMember]

theorem rest_stageStartUp (k : Fin 4) (t : State) : restBudget (stageStartUp k t) ≤ restBudget t + 206 := by
  unfold stageStartUp
  split <;> grind [rest_failStage]

theorem rest_readInputs (t : State) : restBudget (readInputs t) = restBudget t := by simp [readInputs]

theorem rest_startInputs (t : State) : restBudget (startInputs t) ≤ restBudget t + 950 := by
  have latches := rest_foldl (fun t i => rest_latchStartUp i t) allInputs (readInputs t)
  have stages := rest_foldl (fun t k => rest_stageStartUp k t) allStages
    (takePosition (allInputs.foldl (fun t i => latchStartUp i t) (readInputs t)))
  rw [show allInputs.length = 17 from rfl] at latches
  rw [show allStages.length = 4 from rfl] at stages
  unfold startInputs
  grind [rest_takePosition, rest_readInputs]

/-! ### The end of loading -/

/-- A change of the settings, of the mode or of the measurement. -/
theorem rest_sld_msu (l : Loader) (m : Measure) (s : State) : restBudget { s with sld := l, msu := m } ≤ restBudget s + 200 := by
  have parts := rest_of_parts (t := { s with sld := l, msu := m }) (s := s) rfl rfl rfl
  have whole := frostBudget_le_whole { s with sld := l, msu := m }
  have chance : chances { s with sld := l, msu := m } ≤ chances s + 100 := by
    have joining := Bool.toNat_le (l.mode == .joining)
    unfold chances
    dsimp only
    omega
  omega

theorem rest_sld (l : Loader) (s : State) : restBudget { s with sld := l } ≤ restBudget s + 200 := rest_sld_msu l s.msu s

/-- The first orders of the station, the fields handed on before being taken back. -/
theorem rest_startSituation (t : State) : restBudget (startSituation t) ≤ restBudget t + 160 := by
  unfold startSituation
  dsimp only
  rw [rest_emit, show HandOn.cost .orders = 60 from rfl]
  generalize started : { t with handOns := t.handOns.filter (fun h => !isField h), stu := _ } = u
  have hands : charge u ≤ charge t := by
    rw [← started]
    exact (List.filter_sublist.map HandOn.cost).sum_le_sum (fun _ _ => Nat.zero_le _)
  have chance : chances u ≤ chances t := by
    rw [← started]
    unfold chances
    dsimp only
    omega
  have supply : own .supply u = own .supply t := by rw [← started]; rfl
  have load : own .load u = own .load t := by rw [← started]; rfl
  have whole := frostBudget_le_whole u
  rw [restBudget_eq, restBudget_eq, supply, load]
  omega

theorem rest_startTariff (t : State) : restBudget (startTariff t) ≤ restBudget t + 64 := by
  unfold startTariff
  split <;> grind [rest_tariffContact]

theorem rest_startTrip (t : State) : restBudget (startTrip t) ≤ restBudget t + 1 := by
  unfold startTrip
  split <;> grind [rest_queueNotice]

theorem rest_startListening (t : State) : restBudget (startListening t) = restBudget t := by simp [startListening]

theorem rest_startInflow (t : State) : restBudget (startInflow t) = restBudget t := by simp [startInflow]

theorem rest_startMeasure (t : State) : restBudget (startMeasure t) ≤ restBudget t + 100 := rest_msu _ t

theorem rest_loadDone (raw : Settings) (t : State) : restBudget (loadDone raw t) ≤ restBudget t + 200 := rest_sld _ t

theorem rest_endLoading (raw : Settings) (t : State) : restBudget (endLoading raw t) ≤ restBudget t + 1628 := by
  unfold endLoading
  grind [rest_startTrip, rest_dueEvent, rest_frostJudge, rest_fillFollows, rest_startTariff, rest_guardExamine, rest_startSituation,
    rest_startInputs, rest_startListening, rest_startInflow, rest_startMeasure, rest_loadDone]

theorem rest_loadFails (t : State) : restBudget (loadFails t) ≤ restBudget t + 200 :=
  rest_sld_msu _ _ t

theorem rest_judgeRead (block : List Byte) (t : State) : restBudget (judgeRead block t) ≤ restBudget t + 1828 := by
  have taken : restBudget (takeBlock block t) ≤ restBudget t + 200 := rest_sld _ t
  unfold judgeRead judgeStructure noAnswer
  dsimp only
  (repeat' split) <;> grind [rest_endLoading, rest_loadFails, rest_sld]

/-! ### Every event -/

theorem rest_incompleteExpires (r : Resource) (t : State) :
    restBudget (emit (.reexamine r) (setIncompleteTimer r none t)) = restBudget t + 3 := by
  rw [rest_emit, cost_reexamine, rest_setIncompleteTimer]

theorem rest_reportDue (t : State) : restBudget (dueEvent { t with rpu := { t.rpu with timerDue := false } }) ≤ restBudget t + 1 := by
  grind [rest_dueEvent, rest_blocks]

theorem rest_strokeDue (t : State) : restBudget (fillFollows (strokeExpires t)) ≤ restBudget t + 53 := by
  grind [rest_fillFollows, rest_strokeExpires]

theorem rest_confirmDue (t : State) : restBudget (fillFollows (confirmExpires t)) ≤ restBudget t + 40 := by
  grind [rest_fillFollows, rest_confirmExpires]

theorem rest_leaveReset (t : State) : restBudget (leaveReset t) ≤ restBudget t + 200 := by
  have low : restBudget { t with resetLow := false } = restBudget t := by simp
  exact (rest_sld _ { t with resetLow := false }).trans (Nat.add_le_add_right low.le 200)

/-- What the effect of an event adds to the budget. -/
theorem rest_effect {c : Instr} (a : arises c t = true) : restBudget (effect c t) ≤ restBudget t + 2000 := by
  have within {n : Nat} {u : State} (added : restBudget u ≤ restBudget t + n) (few : n ≤ 2000) : restBudget u ≤ restBudget t + 2000 :=
    added.trans (Nat.add_le_add_left few _)
  cases c with
  | powerOnReset | externalReset => exact Nat.le_add_right _ _
  | loadAttemptDone block => exact within (rest_judgeRead block t) (by decide)
  | retryWaitExpiry => exact within (rest_sld _ t) (by decide)
  | secondEvent p tw tr ta => exact within (rest_secondPasses p tw tr ta t) (by decide)
  | minuteMark => exact within (rest_minutePasses t) (by decide)
  | rawInputChange i _ => exact within (rest_followPin i t) (by decide)
  | inputSettled i => exact within (rest_inputSettles i t) (by decide)
  | proofTimerExpiry k => exact within (rest_proofExpires k t) (by decide)
  | quietReached | answerWaitEnd | startBitFromAnotherStation => exact within (rest_lnu _ t) (by decide)
  | winTime slot => exact within (rest_winTime slot t) (by decide)
  | echoConflict b => exact within (rest_loseEcho b t) (by decide)
  | driverFailure _ => exact within (rest_failDriver t) (by decide)
  | noticeSent => exact within (rest_finishSending t) (by decide)
  | noticeHeard chars => exact within (rest_noticeCompleted chars t) (by decide)
  | noticeDiscarded _ => exact within (rest_discardNotice t) (by decide)
  | dupTimerExpiry => exact within (rest_endDuplicate t) (by decide)
  | lineFaultEntry => exact within (rest_enterLineFault t) (by decide)
  | lineFaultExit => exact within (rest_leaveLineFault t) (by decide)
  | windowEnd samples => exact within (rest_endWindow samples t) (by decide)
  | peerLost n => exact within (rest_losePeer n t) (by decide)
  | tariffNightTimeout => exact within (rest_nightTimesOut t) (by decide)
  | peerSettleExpiry n r => exact within (rest_settlePeer r n t) (by decide)
  | entryAgedOut n r => exact within (rest_removeEntry r n t) (by decide)
  | ownSettleExpiry r => exact within (rest_ownSettleDone r t) (by decide)
  | refreshLead r => exact within (rest_refreshLeadReached r t) (by decide)
  | refreshTime r => exact within (rest_refreshMissed r t) (by decide)
  | incompleteTimerExpiry r => exact within (rest_incompleteExpires r t).le (by decide)
  | listeningTimerExpiry => exact within (rest_endListening t) (by decide)
  | answerTimerExpiry =>
    have joining : t.sld.mode = .joining := eq_of_beq (Bool.and_eq_true_iff.mp a).2
    exact (rest_endAnswering joining).trans (Nat.le_add_right _ _)
  | openTimerExpiry => exact within (rest_openExpires t) (by decide)
  | clearingTimerExpiry => exact within (rest_clearingExpires t) (by decide)
  | strokeTimerExpiry => exact within (rest_strokeDue t) (by decide)
  | confirmTimerExpiry => exact within (rest_confirmDue t) (by decide)
  | stagnationPeriodEnd => exact within (rest_stagnationEnds t) (by decide)
  | reportTimerDue => exact within (rest_reportDue t) (by decide)
  | resetPinReturnsHigh => exact within (rest_leaveReset t) (by decide)

/-! ### The bound -/

/-- At rest, with two questions at the most, little can still be handed on. -/
theorem rest_at_rest (settled : Settled t) (two : t.clu.questions.length ≤ 2) : restBudget t ≤ 664 := by
  have hands : charge t = 0 := by unfold charge; rw [show t.handOns = [] from settled]; rfl
  have chance : chances t ≤ 468 := by
    have joining := Bool.toNat_le (t.sld.mode == .joining)
    unfold chances
    omega
  have whole := frostBudget_le_whole t
  have supply := lossOf_le (own .supply t)
  have load := lossOf_le (own .load t)
  rw [restBudget_eq, hands]
  omega

theorem settled_event {c : Instr} (a : arises c (beginEvent t) = true) (settled : Settled t) (two : t.clu.questions.length ≤ 2) :
    Settled (event (effect c) t) := by
  have start := rest_at_rest (t := beginEvent t) settled two
  have added := rest_effect a
  refine event_settles handOnsLower (effect c) t ?_
  rw [rest_follow]
  exact (Nat.le_trans added (Nat.add_le_add_right start 2000)).trans (by decide)

end

end Sys2Proof.Machine
end

section
/-! PROOFS. At most two questions ever wait, and every event comes to rest within its step. -/

namespace Sys2Proof.Machine

section
variable {s t : State}

/-- Two questions wait at the most (R71, R101). -/
def FewWait (s : State) : Prop := s.clu.questions.length ≤ 2

theorem fewWait_of_questions (same : t.clu.questions = s.clu.questions) (h : FewWait s) : FewWait t := by
  unfold FewWait
  rw [same]
  exact h

/-- No operation brings more. -/
theorem fewWait_of_runs (m : Runs (fun _ => True) True s t) (h : FewWait s) : FewWait t := by
  induction m with
  | refl => exact h
  | still _ e ih | shape _ _ e ih | heat _ _ e ih | line _ _ e ih | off _ e ih | join _ _ _ e ih =>
    exact fewWait_of_questions (congrArg Kept.questions e :) ih
  | emit x _ ih => exact ih
  | notice item n _ ih => exact fewWait_of_questions (congrArg Prod.fst (inquiry_queueNotice item n _) :) ih
  | adjust r c _ _ ih | rawOwn r c _ _ ih => cases r <;> exact ih
  | table r v _ _ ih | rawTable r v _ _ ih => cases r <;> exact ih
  | lose _ _ no | withdraw _ no | sent _ _ _ _ no | grant _ no | fill _ no | evaluate _ no => exact absurd trivial no
  | stage k x _ _ ih => exact ih
  | ask _ _ few _ ih => exact few.trans (Nat.max_le.mpr ⟨Nat.le_refl 2, ih⟩)
  | start e _ _ _ ih => exact ih

theorem fewWait_event_of_runs {f : State → State} (m : Runs (fun _ => True) True s (f (beginEvent t))) (h : FewWait s) :
    FewWait (event f t) := fewWait_of_runs (runs_event m) h

theorem fewWait_judgeRead (block : List Byte) (h : FewWait t) : FewWait (event (judgeRead block) t) := by
  by_cases trusted : Trusted block
  · refine fewWait_event_of_runs (s := loadDone (readSettings block) (takeBlock block (beginEvent t))) ?_ h
    rw [judgeRead_of_trusted trusted]
    exact runs_endLoading _ .refl
  · refine fewWait_event_of_runs .refl ?_
    obtain ⟨l, x, is⟩ := judgeRead_of_untrusted trusted (beginEvent t)
    rw [is]
    exact h

theorem fewWait_event {c : Instr} (a : arises c (beginEvent t) = true) (h : FewWait t) : FewWait (event (effect c) t) := by
  by_cases alone : standsAlone c = true
  · cases c with
    | powerOnReset | externalReset => cases a
    | loadAttemptDone block => exact fewWait_judgeRead block h
    | resetPinReturnsHigh => exact fewWait_event_of_runs (s := leaveReset (beginEvent t)) .refl h
    | lineFaultExit => exact fewWait_event_of_runs (s := lineQuiet (beginEvent t)) (runs_leaveLineFault trivial .refl) h
    | _ => cases alone
  · exact fewWait_event_of_runs (s := beginEvent t) (runs_effect a trivial (Bool.eq_false_iff.mpr alone) .refl) h

end

end Sys2Proof.Machine

namespace Sys2Proof.Proofs
open Sys2Proof Sys2Proof.Machine

/-- Settles O57: an event's own effect leaves a budget within the bound, and every hand-on taken lowers it; more than two questions never
come to wait. -/
theorem eventsComeToRest : Obligations.EventsComeToRest := by
  intro s t h k
  refine step_keeps (P := ComesToRest) (fun s h => ?_) (fun s rest h => h) (fun s _ => ⟨rfl, Nat.zero_le 2⟩)
    (fun s _ => ⟨rfl, Nat.zero_le 2⟩) (fun i b s h => h) (fun c s a h => ?_) h k
  · obtain ⟨settled, few⟩ := h
    exact ⟨(handOns_passSlot s).trans settled, fewWait_of_questions (congrArg Claims.questions (clu_passSlot s)) few⟩
  · obtain ⟨settled, few⟩ := h
    have arose : arises c (beginEvent (contactMoved c s)) = true := by rw [arises_moved]; exact a
    exact ⟨settled_event arose settled few, fewWait_event arose few⟩

end Sys2Proof.Proofs
end
